-- ==== Sys2Proof/Word.lean ====
section
/-! DEFINITION. The word types of the DW8: the byte of the Request Port, the Tag Link and the tags, and the
16-bit word of the Lane Ring. Everything else the reference counts is a plain number. -/

namespace Sys2Proof

/-- One byte of a port frame or of a cassette tag (R186, R192). -/
abbrev Byte := BitVec 8

/-- One 16-bit word of the Lane Ring (R191). -/
abbrev RingWord := BitVec 16

end Sys2Proof
end

