-- ==== Sys2Proof/Syntax.lean ====
section
/-! DEFINITION. The commands the DW8 takes: one constructor of `Instr` for each row of spec/opcode_table.json, with the
row's operands. A HOST REQUEST carries its arguments as the coded numbers of its payload (R187), so that a number outside
its range is a command too and is answered by the rule that refuses it. A MECHANISM OR TIMER EVENT carries what the line
reports, already of the type the line can report. -/

namespace Sys2Proof

/-- The lanes 1 to 8. -/
inductive Lane | l1 | l2 | l3 | l4 | l5 | l6 | l7 | l8
  deriving DecidableEq, Repr

/-- The cassette positions A to D. -/
inductive Pos | a | b | c | d
  deriving DecidableEq, Repr

/-- The teller positions A and B. -/
inductive Teller | a | b
  deriving DecidableEq, Repr

/-- The two vaults of R55 and R57. -/
inductive Vault | reject | intake
  deriving DecidableEq, Repr

/-- The denomination codes 1 to 8. -/
inductive Code | c1 | c2 | c3 | c4 | c5 | c6 | c7 | c8
  deriving DecidableEq, Repr

/-- One segment as a request carries it: a coded position (1 to 4 for A to D) and a note count (R187). -/
structure SegmentArg where
  position : Nat
  notes    : Nat
  deriving DecidableEq, Repr

/-- One parameter item of CONFIGURE (R181, R190), its value as the payload codes it. `unnamed` is an item whose
parameter number is none of 01h to 10h. -/
inductive ConfigItem
  | laneCount (n : Nat)
  | denominations (first : Nat) (values : List Nat)
  | classTable (first : Nat) (classes : List Nat)
  | sourceClasses (first : Nat) (classes : List Nat)
  | dualLimit (n : Nat)
  | approvalWindow (n : Nat)
  | takeTimeout (n : Nat)
  | lostLaneLimit (n : Nat)
  | quiesceTimeout (n : Nat)
  | periodicCount (n : Nat)
  | busyLevel (n : Nat)
  | maxRejects (n : Nat)
  | suspendThreshold (n : Nat)
  | lowLevel (position n : Nat)
  | recycling (n : Nat)
  | autoEnvelope (n : Nat)
  | unnamed (number : Nat)
  deriving DecidableEq, Repr

/-- The target of a dual request (section 8.3): the thing on which a first approval is held. -/
inductive DualTarget
  | release (p : Pos)
  | vault (v : Vault)
  | bin (l : Lane)
  | resolve (ticket : Nat)
  deriving DecidableEq, Repr

/-- What the DW8 hears on LRX in a lane slot after its own word (R120, R127): nothing, or one word, with whether it
began within the reply window and whether the end of the slot cut it. -/
inductive Reply
  | silent
  | word (inWindow cut : Bool) (w : RingWord)
  deriving DecidableEq, Repr

/-- What one try of a tag transfer brings (R39, R40): no response, or the 64 bytes read. -/
abbrev TagTry := Option (List Byte)

/-- The commands, one constructor for each row of the operation and event table. -/
inductive Instr
  /-- FULL_RESET (R185): the operands are what the presence lines show when the reset ends. -/
  | fullReset (prsA prsB prsC prsD rejectPresent intakePresent : Bool)
  | requestFrameBegin
  | frameWhileActing
  /-- BAD_FRAME (R174): the whole bytes clocked, and whether a part byte was clocked after them. -/
  | badFrame (partByte : Bool) (bytes : List Byte)
  /-- RESPONSE_READ (R175): how many whole bytes were clocked, the first being 00h. -/
  | responseRead (clocked : Nat)
  | alarmAck (source : Nat)
  | alarmList (start : Nat)
  /-- AMEND: an amount of FFFFFFh and an empty segment list stand for none named (R187). -/
  | amend (ticket teller amount : Nat) (segments : List SegmentArg)
  | approve (ticket teller : Nat)
  | balanceRead
  | binEmptied (lane teller : Nat)
  | binSet (lane count : Nat)
  | clearJam (ticket outcome : Nat)
  | configRead
  | configure (items : List ConfigItem)
  | countPoint
  | enterSetup
  | identify
  | intakeBegin (ticket : Nat)
  | intakeFinish (ticket : Nat)
  | laneQuery (lane : Nat)
  | laneRestart (lane : Nat)
  | list (start : Nat)
  | lookup (ticket : Nat)
  | openDispense (teller lane amount : Nat) (segments : List SegmentArg)
  | openEnvelope (teller lane : Nat)
  | openIntake (teller lane : Nat)
  | positionQuery (target : Nat)
  | positionReinstate (position : Nat)
  | positionRelease (position teller : Nat)
  | readAttention
  | resolve (ticket delivered teller : Nat)
  | resume
  | settle (ticket : Nat)
  | startWall
  | vaultEmptied (vault teller : Nat)
  | void (ticket : Nat)
  | dualApprovalExpiry (target : DualTarget)
  | approvalWindowExpiry (ticket : Nat)
  | takeTimerExpiry (ticket : Nat)
  | lostLaneTimerExpiry (lane : Lane)
  | quiesceTimerExpiry
  | ticketSelection
  | pickerResume
  /-- GAUGE_RESULT (R72, R73): the thickness in micrometres and the length in millimetres that the gauge measured on the
  note that passed. -/
  | gaugeResult (thickness length : Nat)
  | pickMissTimeout
  | purgeBegin
  /-- PURGE_COMPLETION (R79): the notes the reject-entry sensor counted. -/
  | purgeCompletion (count : Nat)
  | retractPromotion
  | deliveryGrant
  | deliveryArrival
  | retractGrant
  /-- RETRACT_COMPLETION (R84): the notes the reject-entry sensor counted. -/
  | retractCompletion (count : Nat)
  | sweepBegin
  /-- SWEEP_COMPLETION (R91): the notes the reject-entry sensor counted. -/
  | sweepCompletion (count : Nat)
  | quietFound
  | cassetteInsertion (position : Pos)
  | cassetteRemoval (position : Pos)
  /-- IDENTITY_READ_END (R39, R42): what the tries of the read in flight brought, in order. -/
  | identityReadEnd (tries : List TagTry)
  /-- TAG_WRITE_END (R40): what the read-backs of the tries of the write in flight brought, in order. -/
  | tagWriteEnd (tries : List TagTry)
  | vaultPresenceChange (vault : Vault) (present : Bool)
  /-- ESCROW_EVENT (R111): the code the head reports, `none` for UNRECOGNISED. -/
  | escrowEvent (code : Option Code)
  | notePlaced
  /-- INPUT_SAMPLE (R141): bit i is set when line AIN i is sampled active. -/
  | inputSample (levels : BitVec 6)
  /-- SYNC_SLOT (R119, R120): the word heard on LRX while the STAMP is sent. -/
  | syncSlot (heard : RingWord)
  /-- LANE_SLOT (R120): the word heard on LRX while the downlink word is sent, and the reply. -/
  | laneSlot (lane : Lane) (heard : RingWord) (reply : Reply)
  | frameEnd
  deriving DecidableEq, Repr

end Sys2Proof
end

