-- ==== Sys2Proof/Decode.lean ====
section
/-! DEFINITION. Reading commands from bits. No row of spec/opcode_table.json gives bits, so `decodeTableWord` reads none. The host's
requests do have bytes (R174, R186, R187, R190): this file judges the bytes of a request frame by the steps of R174 and reads
the request, and AFTER that it writes the frame of a request. -/

namespace Sys2Proof

/-- The command a word spells by the table's bits: no row gives any, so no word spells one. -/
def decodeTableWord (_nbits _w : Nat) : Option Instr := none

/-! ### Numbers and the CRC-16 (R186) -/

/-- A number in k bytes, high byte first. -/
def beBytes : Nat → Nat → List Byte
  | 0, _ => []
  | k + 1, v => beBytes k (v / 256) ++ [BitVec.ofNat 8 v]

/-- The number some bytes hold, high byte first. -/
def beNat (bytes : List Byte) : Nat := bytes.foldl (fun v b => 256 * v + b.toNat) 0

/-- One bit shifted through the CRC register, whose generator is x¹⁶ + x¹² + x⁵ + 1. -/
def crcShift (r : BitVec 16) : BitVec 16 := if r.msb then (r <<< 1) ^^^ 0x1021 else r <<< 1

/-- k bits shifted through the CRC register. -/
def crcShifts : Nat → BitVec 16 → BitVec 16
  | 0, r => r
  | k + 1, r => crcShifts k (crcShift r)

/-- One byte taken into the CRC register, most significant bit first. -/
def crcByte (r : BitVec 16) (b : Byte) : BitVec 16 := crcShifts 8 (r ^^^ (b.zeroExtend 16 <<< 8))

/-- The CRC-16 of some bytes: the register starts at FFFFh, and the result is not inverted. -/
def crc16 (bytes : List Byte) : BitVec 16 := bytes.foldl crcByte 0xFFFF

/-- The bytes with their CRC-16 after them, high byte first. -/
def withCrc (bytes : List Byte) : List Byte := bytes ++ beBytes 2 (crc16 bytes).toNat

/-! ### Request payloads (R187) -/

/-- Segments of two bytes each: position, notes. -/
def readSegments : List Byte → List SegmentArg
  | p :: n :: rest => ⟨p.toNat, n.toNat⟩ :: readSegments rest
  | _ => []

/-- Values of two bytes each. -/
def readPairs : List Byte → List Nat
  | h :: l :: rest => (256 * h.toNat + l.toNat) :: readPairs rest
  | _ => []

/-- One item of a CONFIGURE payload after its parameter number, with what follows it, when it is not cut short (R190). -/
def readItem (number : Nat) (rest : List Byte) : Option (ConfigItem × List Byte) :=
  match number, rest with
  | 0x01, n :: r => some (.laneCount n.toNat, r)
  | 0x02, first :: k :: r =>
    if 2 * k.toNat ≤ r.length then
      some (.denominations first.toNat (readPairs (r.take (2 * k.toNat))), r.drop (2 * k.toNat))
    else none
  | 0x03, first :: k :: r =>
    if k.toNat ≤ r.length then some (.classTable first.toNat ((r.take k.toNat).map BitVec.toNat), r.drop k.toNat)
    else none
  | 0x04, first :: k :: r =>
    if k.toNat ≤ r.length then some (.sourceClasses first.toNat ((r.take k.toNat).map BitVec.toNat), r.drop k.toNat)
    else none
  | 0x05, x :: y :: z :: r => some (.dualLimit (beNat [x, y, z]), r)
  | 0x06, x :: y :: r => some (.approvalWindow (beNat [x, y]), r)
  | 0x07, n :: r => some (.takeTimeout n.toNat, r)
  | 0x08, x :: y :: r => some (.lostLaneLimit (beNat [x, y]), r)
  | 0x09, n :: r => some (.quiesceTimeout n.toNat, r)
  | 0x0A, n :: r => some (.periodicCount n.toNat, r)
  | 0x0B, n :: r => some (.busyLevel n.toNat, r)
  | 0x0C, n :: r => some (.maxRejects n.toNat, r)
  | 0x0D, n :: r => some (.suspendThreshold n.toNat, r)
  | 0x0E, p :: x :: y :: r => some (.lowLevel p.toNat (beNat [x, y]), r)
  | 0x0F, n :: r => some (.recycling n.toNat, r)
  | 0x10, n :: r => some (.autoEnvelope n.toNat, r)
  | _, _ => none

/-- The items of a CONFIGURE payload, or none when one is cut short. An item whose number names no parameter has no known
length, so it ends the list (step 1 of R181 refuses it). -/
def readItems : Nat → List Byte → Option (List ConfigItem)
  | _, [] => some []
  | 0, _ :: _ => none
  | fuel + 1, p :: rest =>
    if p.toNat = 0 ∨ 0x10 < p.toNat then some [.unnamed p.toNat]
    else
      match readItem p.toNat rest with
      | some (item, after) => (readItems fuel after).map (item :: ·)
      | none => none

/-- The request a code and a payload spell, or none when the payload does not have a shape the request takes (R187, step 3 of
R174). Request codes run in the alphabetical order of the names. -/
def readRequest (code : Nat) (payload : List Byte) : Option Instr :=
  match code, payload with
  | 0x01, [x] => some (.alarmAck x.toNat)
  | 0x02, [x] => some (.alarmList x.toNat)
  | 0x03, n1 :: n0 :: t :: x :: y :: z :: k :: rest =>
    if rest.length = 2 * k.toNat then
      some (.amend (beNat [n1, n0]) t.toNat (beNat [x, y, z]) (readSegments rest))
    else none
  | 0x04, [n1, n0, t] => some (.approve (beNat [n1, n0]) t.toNat)
  | 0x05, [] => some .balanceRead
  | 0x06, [l, t] => some (.binEmptied l.toNat t.toNat)
  | 0x07, [l, n] => some (.binSet l.toNat n.toNat)
  | 0x08, [n1, n0, o] => some (.clearJam (beNat [n1, n0]) o.toNat)
  | 0x09, [] => some .configRead
  | 0x0A, p :: rest => (readItems (rest.length + 1) (p :: rest)).map .configure
  | 0x0B, [] => some .countPoint
  | 0x0C, [] => some .enterSetup
  | 0x0D, [] => some .identify
  | 0x0E, [n1, n0] => some (.intakeBegin (beNat [n1, n0]))
  | 0x0F, [n1, n0] => some (.intakeFinish (beNat [n1, n0]))
  | 0x10, [l] => some (.laneQuery l.toNat)
  | 0x11, [l] => some (.laneRestart l.toNat)
  | 0x12, [n1, n0] => some (.list (beNat [n1, n0]))
  | 0x13, [n1, n0] => some (.lookup (beNat [n1, n0]))
  | 0x14, t :: l :: x :: y :: z :: k :: rest =>
    if rest.length = 2 * k.toNat then
      some (.openDispense t.toNat l.toNat (beNat [x, y, z]) (readSegments rest))
    else none
  | 0x15, [t, l] => some (.openEnvelope t.toNat l.toNat)
  | 0x16, [t, l] => some (.openIntake t.toNat l.toNat)
  | 0x17, [x] => some (.positionQuery x.toNat)
  | 0x18, [x] => some (.positionReinstate x.toNat)
  | 0x19, [p, t] => some (.positionRelease p.toNat t.toNat)
  | 0x1A, [] => some .readAttention
  | 0x1B, [n1, n0, d, t] => some (.resolve (beNat [n1, n0]) d.toNat t.toNat)
  | 0x1C, [] => some .resume
  | 0x1D, [n1, n0] => some (.settle (beNat [n1, n0]))
  | 0x1E, [] => some .startWall
  | 0x1F, [v, t] => some (.vaultEmptied v.toNat t.toNat)
  | 0x20, [n1, n0] => some (.void (beNat [n1, n0]))
  | _, _ => none

/-! ### Judging a request frame (R174) -/

/-- What the steps of R174 find of a request frame: refused at step 1, 2 or 3, or a request to hand to its owner. -/
inductive FrameVerdict
  | badFrame
  | unknownRequest
  | badShape
  | request (i : Instr)
  deriving DecidableEq, Repr

/-- Step 1 of R174: whether the bytes clocked make a frame. -/
def frameSound (partByte : Bool) (bytes : List Byte) : Bool :=
  !partByte && decide (4 ≤ bytes.length) && decide ((bytes.getD 1 0).toNat ≤ 60)
    && decide (bytes.length = (bytes.getD 1 0).toNat + 4)
    && decide (bytes = withCrc (bytes.take (bytes.length - 2)))

/-- Steps 1 to 3 of R174. -/
def judgeFrame (partByte : Bool) (bytes : List Byte) : FrameVerdict :=
  if frameSound partByte bytes then
    let code := (bytes.getD 0 0).toNat
    if code = 0 ∨ 0x20 < code then .unknownRequest
    else
      match readRequest code ((bytes.drop 2).take (bytes.length - 4)) with
      | some i => .request i
      | none => .badShape
  else .badFrame

/-! ### Writing a request frame -/

/-- Segments in two bytes each. -/
def segmentBytes (segs : List SegmentArg) : List Byte :=
  segs.flatMap fun g => [BitVec.ofNat 8 g.position, BitVec.ofNat 8 g.notes]

/-- The bytes of one CONFIGURE item (R190). -/
def itemBytes : ConfigItem → List Byte
  | .laneCount n => 0x01 :: beBytes 1 n
  | .denominations first values =>
    0x02 :: (beBytes 1 first ++ beBytes 1 values.length ++ values.flatMap (beBytes 2))
  | .classTable first classes => 0x03 :: (beBytes 1 first ++ beBytes 1 classes.length ++ classes.flatMap (beBytes 1))
  | .sourceClasses first classes =>
    0x04 :: (beBytes 1 first ++ beBytes 1 classes.length ++ classes.flatMap (beBytes 1))
  | .dualLimit n => 0x05 :: beBytes 3 n
  | .approvalWindow n => 0x06 :: beBytes 2 n
  | .takeTimeout n => 0x07 :: beBytes 1 n
  | .lostLaneLimit n => 0x08 :: beBytes 2 n
  | .quiesceTimeout n => 0x09 :: beBytes 1 n
  | .periodicCount n => 0x0A :: beBytes 1 n
  | .busyLevel n => 0x0B :: beBytes 1 n
  | .maxRejects n => 0x0C :: beBytes 1 n
  | .suspendThreshold n => 0x0D :: beBytes 1 n
  | .lowLevel p n => 0x0E :: (beBytes 1 p ++ beBytes 2 n)
  | .recycling n => 0x0F :: beBytes 1 n
  | .autoEnvelope n => 0x10 :: beBytes 1 n
  | .unnamed number => beBytes 1 number

/-- The request code and payload of a request; none for an event, which has no frame (R187). -/
def requestBytes : Instr → Option (Nat × List Byte)
  | .alarmAck x => some (0x01, beBytes 1 x)
  | .alarmList x => some (0x02, beBytes 1 x)
  | .amend n t a segs =>
    some (0x03, beBytes 2 n ++ beBytes 1 t ++ beBytes 3 a ++ beBytes 1 segs.length ++ segmentBytes segs)
  | .approve n t => some (0x04, beBytes 2 n ++ beBytes 1 t)
  | .balanceRead => some (0x05, [])
  | .binEmptied l t => some (0x06, beBytes 1 l ++ beBytes 1 t)
  | .binSet l n => some (0x07, beBytes 1 l ++ beBytes 1 n)
  | .clearJam n o => some (0x08, beBytes 2 n ++ beBytes 1 o)
  | .configRead => some (0x09, [])
  | .configure items => some (0x0A, items.flatMap itemBytes)
  | .countPoint => some (0x0B, [])
  | .enterSetup => some (0x0C, [])
  | .identify => some (0x0D, [])
  | .intakeBegin n => some (0x0E, beBytes 2 n)
  | .intakeFinish n => some (0x0F, beBytes 2 n)
  | .laneQuery l => some (0x10, beBytes 1 l)
  | .laneRestart l => some (0x11, beBytes 1 l)
  | .list n => some (0x12, beBytes 2 n)
  | .lookup n => some (0x13, beBytes 2 n)
  | .openDispense t l a segs =>
    some (0x14, beBytes 1 t ++ beBytes 1 l ++ beBytes 3 a ++ beBytes 1 segs.length ++ segmentBytes segs)
  | .openEnvelope t l => some (0x15, beBytes 1 t ++ beBytes 1 l)
  | .openIntake t l => some (0x16, beBytes 1 t ++ beBytes 1 l)
  | .positionQuery x => some (0x17, beBytes 1 x)
  | .positionReinstate x => some (0x18, beBytes 1 x)
  | .positionRelease p t => some (0x19, beBytes 1 p ++ beBytes 1 t)
  | .readAttention => some (0x1A, [])
  | .resolve n d t => some (0x1B, beBytes 2 n ++ beBytes 1 d ++ beBytes 1 t)
  | .resume => some (0x1C, [])
  | .settle n => some (0x1D, beBytes 2 n)
  | .startWall => some (0x1E, [])
  | .vaultEmptied v t => some (0x1F, beBytes 1 v ++ beBytes 1 t)
  | .void n => some (0x20, beBytes 2 n)
  | .fullReset .. | .requestFrameBegin | .frameWhileActing | .badFrame .. | .responseRead _ | .dualApprovalExpiry _
  | .approvalWindowExpiry _ | .takeTimerExpiry _ | .lostLaneTimerExpiry _ | .quiesceTimerExpiry | .ticketSelection
  | .pickerResume | .gaugeResult .. | .pickMissTimeout | .purgeBegin | .purgeCompletion _ | .retractPromotion
  | .deliveryGrant | .deliveryArrival | .retractGrant | .retractCompletion _ | .sweepBegin | .sweepCompletion _
  | .quietFound | .cassetteInsertion _ | .cassetteRemoval _ | .identityReadEnd _ | .tagWriteEnd _
  | .vaultPresenceChange .. | .escrowEvent _ | .notePlaced | .inputSample _ | .syncSlot _ | .laneSlot .. | .frameEnd => none

/-- The request frame of a request (R186). -/
def requestFrame (i : Instr) : Option (List Byte) :=
  (requestBytes i).map fun (code, payload) => withCrc (beBytes 1 code ++ beBytes 1 payload.length ++ payload)

end Sys2Proof
end

