-- ==== Sys2Proof/Config.lean ====
section
/-! DEFINITION. The numbers the reference fixes for the DW8: sizes, limits and identity codes. The DW8 stores no
configuration (R182); its parameters are state and stand in Machine/State.lean. -/

namespace Sys2Proof.Config

/-- The ticket table has 32 entries (R1). -/
def tableSize : Nat := 32
/-- Ticket numbers run from 1 to 9999 (R4). -/
def maxNumber : Nat := 9999
/-- Amounts run to 999 999 (R2). -/
def maxAmount : Nat := 999999
/-- FFFFFFh: no amount named, or an amount absent (R5, R187). -/
def noAmount : Nat := 0xFFFFFF
/-- A plan holds at most 200 notes (R3). -/
def maxNotes : Nat := 200
/-- A request carries at most 4 segments (R3). -/
def maxRequestSegments : Nat := 4
/-- A plan holds at most 6 segments (R3). -/
def maxSegments : Nat := 6
/-- Reject picks stop at 999 (R2), and so do the parts of the reject vault (R55). -/
def maxRejects : Nat := 999
/-- The reject vault is full from 600 notes (R56). -/
def rejectFullAt : Nat := 600
/-- The mechanical limit of the reject vault (R56). -/
def rejectLimit : Nat := 700
/-- The intake vault is full at 2500 notes (R57). -/
def intakeFullAt : Nat := 2500
/-- A bin holds 120 envelopes (R95). -/
def binSize : Nat := 120
/-- A held first approval runs for 60 s (R177). -/
def dualSeconds : Nat := 60
/-- A sweep of a drawer or of the transport reserves 200 notes of room (R65, R91). -/
def sweepNotes : Nat := 200
/-- Sixteen-bit counters stop at 65535 (R34, R121, R159). -/
def max16 : Nat := 65535
/-- What IDENTIFY returns (R180). -/
def vendorCode : Nat := 0x2B
/-- What IDENTIFY returns (R180). -/
def partCode : Nat := 0x0D08
/-- What IDENTIFY returns (R180). -/
def revision : Nat := 0x03

end Sys2Proof.Config
end

