-- ==== Sys2Proof/Machine/Places.lean ====
section
/-! DEFINITION. The numbered and lettered places of the wall (lanes, cassette positions, teller positions, vaults,
denomination codes), their coded numbers (R187), and records with one entry for each place. -/

namespace Sys2Proof

variable {α β : Type}

/-- The lane's number, 1 to 8. -/
def Lane.number : Lane → Nat
  | .l1 => 1
  | .l2 => 2
  | .l3 => 3
  | .l4 => 4
  | .l5 => 5
  | .l6 => 6
  | .l7 => 7
  | .l8 => 8

/-- The Lane a coded number names, or none. -/
def Lane.ofNat? : Nat → Option Lane
  | 1 => some .l1
  | 2 => some .l2
  | 3 => some .l3
  | 4 => some .l4
  | 5 => some .l5
  | 6 => some .l6
  | 7 => some .l7
  | 8 => some .l8
  | _ => none

/-- The coded cassette position: 1 to 4 for A to D (R187). -/
def Pos.number : Pos → Nat
  | .a => 1
  | .b => 2
  | .c => 3
  | .d => 4

/-- The Pos a coded number names, or none. -/
def Pos.ofNat? : Nat → Option Pos
  | 1 => some .a
  | 2 => some .b
  | 3 => some .c
  | 4 => some .d
  | _ => none

/-- The coded teller position: 1 for A, 2 for B (R187). -/
def Teller.number : Teller → Nat
  | .a => 1
  | .b => 2

/-- The Teller a coded number names, or none. -/
def Teller.ofNat? : Nat → Option Teller
  | 1 => some .a
  | 2 => some .b
  | _ => none

/-- The coded vault: 1 REJECT, 2 INTAKE (R187). -/
def Vault.number : Vault → Nat
  | .reject => 1
  | .intake => 2

/-- The Vault a coded number names, or none. -/
def Vault.ofNat? : Nat → Option Vault
  | 1 => some .reject
  | 2 => some .intake
  | _ => none

/-- The denomination code's number, 1 to 8. -/
def Code.number : Code → Nat
  | .c1 => 1
  | .c2 => 2
  | .c3 => 3
  | .c4 => 4
  | .c5 => 5
  | .c6 => 6
  | .c7 => 7
  | .c8 => 8

/-- The Code a coded number names, or none. -/
def Code.ofNat? : Nat → Option Code
  | 1 => some .c1
  | 2 => some .c2
  | 3 => some .c3
  | 4 => some .c4
  | 5 => some .c5
  | 6 => some .c6
  | 7 => some .c7
  | 8 => some .c8
  | _ => none

/-- The teller positions are paired, and each is the other's complement (section 1.4). -/
def Teller.complement : Teller → Teller
  | .a => .b
  | .b => .a

/-- One entry for each lane. -/
structure PerLane (α : Type) where
  (l1 l2 l3 l4 l5 l6 l7 l8 : α)
  deriving DecidableEq, Repr

/-- The entry of one Lane. -/
def PerLane.get (m : PerLane α) : Lane → α
  | .l1 => m.l1
  | .l2 => m.l2
  | .l3 => m.l3
  | .l4 => m.l4
  | .l5 => m.l5
  | .l6 => m.l6
  | .l7 => m.l7
  | .l8 => m.l8

/-- The same with the entry of one Lane replaced. -/
def PerLane.set (m : PerLane α) (i : Lane) (x : α) : PerLane α :=
  match i with
  | .l1 => { m with l1 := x }
  | .l2 => { m with l2 := x }
  | .l3 => { m with l3 := x }
  | .l4 => { m with l4 := x }
  | .l5 => { m with l5 := x }
  | .l6 => { m with l6 := x }
  | .l7 => { m with l7 := x }
  | .l8 => { m with l8 := x }

/-- The same entry for every Lane. -/
def PerLane.const (x : α) : PerLane α := ⟨x, x, x, x, x, x, x, x⟩

/-- Each entry changed by a function that also sees its Lane. -/
def PerLane.mapWith (f : Lane → α → β) (m : PerLane α) : PerLane β :=
  ⟨f .l1 m.l1, f .l2 m.l2, f .l3 m.l3, f .l4 m.l4, f .l5 m.l5, f .l6 m.l6, f .l7 m.l7, f .l8 m.l8⟩

/-- The entries in order. -/
def PerLane.toList (m : PerLane α) : List α := [m.l1, m.l2, m.l3, m.l4, m.l5, m.l6, m.l7, m.l8]

/-- Every Lane, in order. -/
def Lane.all : List Lane := [.l1, .l2, .l3, .l4, .l5, .l6, .l7, .l8]

/-- One entry for each cassette position. -/
structure PerPos (α : Type) where
  (a b c d : α)
  deriving DecidableEq, Repr

/-- The entry of one Pos. -/
def PerPos.get (m : PerPos α) : Pos → α
  | .a => m.a
  | .b => m.b
  | .c => m.c
  | .d => m.d

/-- The same with the entry of one Pos replaced. -/
def PerPos.set (m : PerPos α) (i : Pos) (x : α) : PerPos α :=
  match i with
  | .a => { m with a := x }
  | .b => { m with b := x }
  | .c => { m with c := x }
  | .d => { m with d := x }

/-- The same entry for every Pos. -/
def PerPos.const (x : α) : PerPos α := ⟨x, x, x, x⟩

/-- Each entry changed by a function that also sees its Pos. -/
def PerPos.mapWith (f : Pos → α → β) (m : PerPos α) : PerPos β :=
  ⟨f .a m.a, f .b m.b, f .c m.c, f .d m.d⟩

/-- The entries in order. -/
def PerPos.toList (m : PerPos α) : List α := [m.a, m.b, m.c, m.d]

/-- Every Pos, in order. -/
def Pos.all : List Pos := [.a, .b, .c, .d]

/-- One entry for each denomination code. -/
structure PerCode (α : Type) where
  (c1 c2 c3 c4 c5 c6 c7 c8 : α)
  deriving DecidableEq, Repr

/-- The entry of one Code. -/
def PerCode.get (m : PerCode α) : Code → α
  | .c1 => m.c1
  | .c2 => m.c2
  | .c3 => m.c3
  | .c4 => m.c4
  | .c5 => m.c5
  | .c6 => m.c6
  | .c7 => m.c7
  | .c8 => m.c8

/-- The same with the entry of one Code replaced. -/
def PerCode.set (m : PerCode α) (i : Code) (x : α) : PerCode α :=
  match i with
  | .c1 => { m with c1 := x }
  | .c2 => { m with c2 := x }
  | .c3 => { m with c3 := x }
  | .c4 => { m with c4 := x }
  | .c5 => { m with c5 := x }
  | .c6 => { m with c6 := x }
  | .c7 => { m with c7 := x }
  | .c8 => { m with c8 := x }

/-- The same entry for every Code. -/
def PerCode.const (x : α) : PerCode α := ⟨x, x, x, x, x, x, x, x⟩

/-- Each entry changed by a function that also sees its Code. -/
def PerCode.mapWith (f : Code → α → β) (m : PerCode α) : PerCode β :=
  ⟨f .c1 m.c1, f .c2 m.c2, f .c3 m.c3, f .c4 m.c4, f .c5 m.c5, f .c6 m.c6, f .c7 m.c7, f .c8 m.c8⟩

/-- The entries in order. -/
def PerCode.toList (m : PerCode α) : List α := [m.c1, m.c2, m.c3, m.c4, m.c5, m.c6, m.c7, m.c8]

/-- Every Code, in order. -/
def Code.all : List Code := [.c1, .c2, .c3, .c4, .c5, .c6, .c7, .c8]

/-- A set of cassette positions. -/
abbrev PosSet := PerPos Bool

/-- The empty set of positions. -/
def PosSet.empty : PosSet := PerPos.const false

/-- The set that holds one position. -/
def PosSet.single (p : Pos) : PosSet := PosSet.empty.set p true

/-- The positions in either set. -/
def PosSet.union (x y : PosSet) : PosSet := x.mapWith fun p b => b || y.get p

/-- Whether no position is in the set. -/
def PosSet.isEmpty (x : PosSet) : Bool := !(x.a || x.b || x.c || x.d)

/-- The mask of a set of positions, bit 0 for A (R187). -/
def PosSet.mask (x : PosSet) : Nat :=
  x.a.toNat + 2 * x.b.toNat + 4 * x.c.toNat + 8 * x.d.toNat

/-- A set of teller positions. -/
structure TellerSet where
  (a b : Bool)
  deriving DecidableEq, Repr

/-- Whether the teller position is in the set. -/
def TellerSet.has (m : TellerSet) : Teller → Bool
  | .a => m.a
  | .b => m.b

/-- The set with one more teller position. -/
def TellerSet.add (m : TellerSet) : Teller → TellerSet
  | .a => { m with a := true }
  | .b => { m with b := true }

end Sys2Proof
end

