-- ==== Sys2Proof/Machine/State.lean ====
section
/-! DEFINITION. Every record the DW8 keeps, as plain data, and the machine right after a full reset. One structure for each
record of the reference, its fields named as the reference names them; what a field means is said by the rule cited. -/

namespace Sys2Proof.Machine

/-! ### Tickets (chapter 1) -/

/-- One segment of a plan (R3). -/
structure Segment where
  position : Pos
  notes    : Nat
  picked   : Nat
  value    : Nat
  deriving DecidableEq, Repr

/-- The states of a DISPENSE ticket (section 1.3). -/
inductive DispenseState
  | awaitingSecond | queued | picking | pickHalted | purging | staged | routing | presented | retracting | disputed
  | delivered | returned | voided | expired | resolved
  deriving DecidableEq, Repr

/-- Why a ticket is in PICK_HALTED (R2). -/
inductive HaltReason
  | depleted | suspended | notReady | rejectFull | rejects | removed
  deriving DecidableEq, Repr

/-- Which of the two deadlines a ticket's deadline field holds (R2). -/
inductive DeadlineKind
  | approval | take
  deriving DecidableEq, Repr

/-- The deadline of a DISPENSE ticket: its kind and the seconds remaining (R2). -/
structure Deadline where
  kind    : DeadlineKind
  seconds : Nat
  deriving DecidableEq, Repr

/-- The fields of a DISPENSE ticket beside the common ones (R2). -/
structure Dispense where
  state        : DispenseState
  amount       : Nat
  plan         : List Segment
  dualRequired : Bool
  first        : Teller
  second       : Option Teller
  queueStamp   : Option Nat
  goodPicked   : Nat
  presented    : Nat
  delivered    : Nat
  retracted    : Nat
  unresolved   : Nat
  rejectPicks  : Nat
  halt         : Option HaltReason
  laneLost     : Bool
  recalled     : Bool
  deadline     : Option Deadline
  deriving DecidableEq, Repr

/-- The states of an ENVELOPE ticket (section 1.8). -/
inductive EnvelopeState
  | awaitingEnvelope | capturing | jammed | envelopeHeld | voided
  deriving DecidableEq, Repr

/-- The fields of an ENVELOPE ticket beside the common ones (R2). -/
structure Envelope where
  state    : EnvelopeState
  amount   : Option Nat
  sequence : Option Nat
  deriving DecidableEq, Repr

/-- The states of an INTAKE ticket (section 1.8). -/
inductive IntakeState
  | readyIntake | collecting | counted | voided
  deriving DecidableEq, Repr

/-- The fields of an INTAKE ticket beside the common ones (R2). The list of intake counts, one entry for a code once a
note of it is accepted, is held as one count for each code: a count of 0 is a code with no entry. -/
structure Intake where
  state    : IntakeState
  amount   : Nat
  accepted : PerCode Nat
  recycled : Nat
  vaulted  : Nat
  returned : Nat
  deriving DecidableEq, Repr

/-- What a ticket is, by its kind (R2). -/
inductive TicketBody
  | dispense (d : Dispense)
  | envelope (e : Envelope)
  | intake (k : Intake)
  deriving DecidableEq, Repr

/-- One ticket record (R2). -/
structure Ticket where
  number    : Nat
  lane      : Lane
  opener    : Option Teller
  openStamp : Nat
  mark      : TellerSet
  body      : TicketBody
  deriving DecidableEq, Repr

/-! ### Cassettes, vaults and tags (chapter 2) -/

/-- The position states (R35). -/
inductive PosState
  | absent | identifying | refused | inService | suspended | releasePending | unlocked
  deriving DecidableEq, Repr

/-- The refused reasons (R34). -/
inductive RefusedReason
  | tagUnreadable | tagChecksum | denomination | capacity | gaugeReference
  deriving DecidableEq, Repr

/-- The identity fields of a slot, taken from the tag (R34), with the tag image itself. -/
structure Identity where
  serial    : List Byte
  code      : Nat
  noteValue : Nat
  capacity  : Nat
  thickness : Nat
  length    : Nat
  recycle   : Bool
  image     : List Byte
  deriving DecidableEq, Repr

/-- The depleted flag (R46). -/
inductive Depleted
  | clear | zero | misses
  deriving DecidableEq, Repr

/-- A held first approval of a position's release (R34, R51). -/
structure Approval where
  teller  : Teller
  seconds : Nat
  deriving DecidableEq, Repr

/-- The in-service slot of a position (R34). In ABSENT, IDENTIFYING and REFUSED the count fields hold 0, the window is
empty and the flags are clear; a response marks those counts absent by the position state. -/
structure Slot where
  state          : PosState
  refused        : Option RefusedReason
  identity       : Option Identity
  base           : Nat
  count          : Nat
  pickedOut      : Nat
  storedIn       : Nat
  totalPickedOut : Nat
  totalStoredIn  : Nat
  overrun        : Nat
  committed      : Nat
  /-- Newest first; `true` is a fail (R49). -/
  window         : List Bool
  missRun        : Nat
  low            : Bool
  depleted       : Depleted
  uncertain      : Bool
  reviewed       : Bool
  unverified     : Bool
  tagStale       : Bool
  markOwed       : Bool
  prior          : Option PosState
  release        : Option Approval
  deriving DecidableEq, Repr

/-- How a removed cassette left (R36). -/
inductive RemovalKind
  | released | unreleased
  deriving DecidableEq, Repr

/-- The retiring slot's copy (R36). `taken` is the model's own: the balance record now being completed has taken this
copy, so the publish empties it (R168). -/
structure Retiring where
  slot   : Slot
  kind   : RemovalKind
  number : Nat
  taken  : Bool
  deriving DecidableEq, Repr

/-- A figure that starts again at each publish. `total` is the figure; `late` is the part of it that came after the last
balance moment, with which the next period starts (R168). -/
structure Since where
  total : Nat
  late  : Nat
  deriving DecidableEq, Repr

/-- The overwritten carry of a position (R36). -/
structure Carry where
  copies : Since
  notes  : Since
  value  : Since
  deriving DecidableEq, Repr

/-- The kinds of Tag Link transfer (R38); a count write-back names the count point number it writes (R40). -/
inductive TransferKind
  | identityRead
  | markWrite
  | countWriteBack (number : Nat)
  deriving DecidableEq, Repr

/-- One transfer waiting for the Tag Link (R38). -/
structure Transfer where
  kind     : TransferKind
  position : Pos
  deriving DecidableEq, Repr

/-- The transfer on the line, with the new image a write was formed with when it was taken (R40; empty for a read). -/
structure InFlight where
  transfer : Transfer
  image    : List Byte
  deriving DecidableEq, Repr

/-- The Tag Link controller (R38). -/
structure TagLink where
  queue    : List Transfer
  inFlight : Option InFlight
  deriving DecidableEq, Repr

/-- The reject vault record (R55). Its count is the sum of the three parts, formed by `RejectVault.count`. -/
structure RejectVault where
  pickRejects    : Nat
  retracted      : Nat
  sweep          : Nat
  sincePick      : Since
  sinceRetracted : Since
  sinceSweep     : Since
  emptied        : Since
  present        : Bool
  unverified     : Bool
  deriving DecidableEq, Repr

/-- The intake vault record (R57). Its total is the sum of the entries, formed by `IntakeVault.total`. -/
structure IntakeVault where
  entries    : PerCode Nat
  since      : PerCode Since
  emptied    : Since
  present    : Bool
  unverified : Bool
  deriving DecidableEq, Repr

/-- The two claimants of the D gate (R59). -/
inductive Claimant
  | picker | deposit
  deriving DecidableEq, Repr

/-- The D gate (R59). `granted` is `none` while the gate is FREE. -/
structure Gate where
  granted     : Option Claimant
  waitPicker  : Bool
  waitDeposit : Bool
  last        : Option Claimant
  deriving DecidableEq, Repr

/-! ### Dispensing (chapter 3) -/

/-- The picker states (R62). -/
inductive PickerState
  | idle | feeding | waitingGate | paused
  deriving DecidableEq, Repr

/-- The gauge references the picker copies at a feed command (R62). -/
structure GaugeRefs where
  thickness : Nat
  length    : Nat
  value     : Nat
  deriving DecidableEq, Repr

/-- The model's own: where the cassette of a note movement in flight now stands in the records (R36, R44, R45, R170). It
is in its slot, or it was removed and stands in the retiring copy, or that copy has been emptied by a publish. -/
inductive Source
  | slot | copy | gone
  deriving DecidableEq, Repr

/-- The picker record (R62). The gauge references keep what the last feed command copied. -/
structure Picker where
  state       : PickerState
  ticket      : Option Nat
  position    : Option Pos
  refs        : GaugeRefs
  feedStarted : Option Nat
  fedFrom     : Source
  deriving DecidableEq, Repr

/-- The state of a purge of the staging stack (R63, R79). -/
inductive Purge
  | idle | waiting | running
  deriving DecidableEq, Repr

/-- The staging record (R63). -/
structure Staging where
  owner    : Option Nat
  held     : Nat
  value    : Nat
  complete : Bool
  purge    : Purge
  deriving DecidableEq, Repr

/-- Where the staging gate SGATE turns notes (R72, R79, R91). -/
inductive StagingGate
  | intoStaging | toReject | toRoute
  deriving DecidableEq, Repr

/-- Whose notes a drawer holds or a retract carries (R64, R65): a ticket's, or nobody's ("sweep"). -/
inductive Holder
  | sweep
  | ticket (number : Nat)
  deriving DecidableEq, Repr

/-- The kinds of retract (R65). -/
inductive RetractKind
  | ticket | sweep | disputed
  deriving DecidableEq, Repr

/-- The stage of a retract entry (R65). -/
inductive RetractStage
  | owed | claimed
  deriving DecidableEq, Repr

/-- One entry of the retract list (R65). -/
structure Retract where
  lane     : Lane
  holder   : Holder
  kind     : RetractKind
  expected : Nat
  stage    : RetractStage
  deriving DecidableEq, Repr

/-- The route record (R64), each state with the fields present in it. A retract in flight keeps its entry's kind, by
which R84 hands its count. -/
inductive Route
  | free
  | delivering (lane : Lane) (ticket : Nat) (notes value : Nat)
  | retracting (lane : Lane) (holder : Holder) (kind : RetractKind) (expected : Nat)
  | sweeping
  deriving DecidableEq, Repr

/-- The presentation record of a lane (R85). `decided` is set for NOTES. -/
structure Presentation where
  ticket     : Nat
  openedSeen : Bool
  closeAsked : Bool
  decided    : Bool
  deriving DecidableEq, Repr

/-! ### Deposits (chapter 4) -/

/-- The envelope handling of a lane (R94). -/
inductive HandlingState
  | idle | capturing | returning | jammed
  deriving DecidableEq, Repr

/-- The jam causes (R94, R103). -/
inductive JamCause
  | station | returned | resultLost
  deriving DecidableEq, Repr

/-- The causes for which an insertion is refused, in the step order of R100. -/
inductive RefusalCause
  | notInService | lockdown | binUnverified | binFull | noTicket | tableFull
  deriving DecidableEq, Repr

/-- The envelope handling record of a lane (R94). -/
structure Handling where
  state       : HandlingState
  ticket      : Option Nat
  jam         : Option JamCause
  lastRefusal : Option RefusalCause
  refusals    : Nat
  deriving DecidableEq, Repr

/-- The states of the intake record (R96). DECIDING is never held across an event. -/
inductive IntakeRecState
  | idle | ready | deciding | waitingGate | placing
  deriving DecidableEq, Repr

/-- Where the head is told to place a note (R96). -/
inductive Destination
  | cassetteD | vault | tray
  deriving DecidableEq, Repr

/-- The note in escrow (R96): `code` is `none` for UNRECOGNISED, `value` the denomination table's value for the code. -/
structure Escrow where
  code  : Option Code
  value : Option Nat
  deriving DecidableEq, Repr

/-- The intake record (R96). `storedTo` is the model's own, as `Picker.fedFrom` is. -/
structure IntakeRec where
  state       : IntakeRecState
  owner       : Option Nat
  escrow      : Option Escrow
  destination : Option Destination
  finishHeld  : Bool
  stray       : Bool
  storedTo    : Source
  deriving DecidableEq, Repr

/-- The commands sent on IHLINK (R111). -/
inductive HeadCommand
  | acceptOn
  | acceptOff
  | place (destination : Destination)
  | returnEscrow
  deriving DecidableEq, Repr

/-! ### The Lane Ring (chapter 5) -/

/-- The link states (R121). -/
inductive Link
  | disabled | joining | online | silent | faulted
  deriving DecidableEq, Repr

/-- The kind of the last valid status word in a join (R121). -/
inductive JoinRun
  | idle | statusD | statusL
  deriving DecidableEq, Repr

/-- The drawer values sent (R122). -/
inductive DrawerValue
  | locked | unlocked | closing
  deriving DecidableEq, Repr

/-- The drawer values reported (R121). -/
inductive DrawerReport
  | locked | unlocked | opened
  deriving DecidableEq, Repr

/-- The slot values, sent and reported: OPEN, CLOSED, CAPTURE, RETURN (R99). -/
inductive SlotValue
  | opened | closed | capture | giveBack
  deriving DecidableEq, Repr

/-- The lamp values (R22). -/
inductive Lamp
  | idle | wait | take | deposit | laneClosed
  deriving DecidableEq, Repr

/-- The kinds of EVENT word (R126). -/
inductive EventKind
  | insert | captureDone | captureJam | returnDone
  deriving DecidableEq, Repr

/-- The contents of an uplink word (R126). -/
inductive Uplink
  | statusD (drawer : DrawerReport) (notes fault : Bool)
  | statusL (slot : SlotValue) (lamp : Lamp) (call tamper : Bool) (echo : Nat)
  | event (kind : EventKind) (number : Nat)
  deriving DecidableEq, Repr

/-- The reply outcome of a lane slot (R127), a valid one with its contents. -/
inductive SlotOutcome
  | silentSlot
  | receiveError (stampMismatch : Bool)
  | valid (word : Uplink)
  deriving DecidableEq, Repr

/-- The lost decision (R132, R133); `owedExpired` is OWED with the expiry kept (R190). -/
inductive LostDecision
  | idle | owed | owedExpired
  deriving DecidableEq, Repr

/-- The lane record (R121), with the two outcomes of the lane's slot in the frame under way (R120). `handedDrawer` is the last
drawer report the Dispense Engine has been handed for the lane (R86, R87, R130), where `repDrawer` is the last one recorded. -/
structure LaneRec where
  link          : Link
  badRun        : Nat
  faultRun      : Nat
  joinRun       : JoinRun
  lastEvent     : Option Nat
  unheard       : Bool
  desiredDrawer : DrawerValue
  desiredSlot   : SlotValue
  desiredLamp   : Lamp
  effDrawer     : DrawerValue
  effSlot       : SlotValue
  repDrawer     : Option DrawerReport
  repNotes      : Option Bool
  repFault      : Option Bool
  handedDrawer  : Option DrawerReport
  repSlot       : Option SlotValue
  repLamp       : Option Lamp
  callButton    : Option Bool
  tamper        : Option Bool
  stampEcho     : Option Nat
  lostTimer     : Option Nat
  lost          : LostDecision
  receiveErrors : Nat
  silentSlots   : Nat
  lineFaults    : Nat
  holder        : Option Holder
  binCount      : Nat
  binVerified   : Bool
  slotFault     : Bool
  slotReply     : Option SlotOutcome
  deriving DecidableEq, Repr

/-- The ring's own record (R119): the frame number, whether a frame has run since the reset, the enabled lane count, a
lane count that acts at the next frame (R138), the line fault of the sync slot (R120), and the last word sent on LTX,
`none` when LTX stayed idle in the last slot. -/
structure Ring where
  frameNumber  : Nat
  started      : Bool
  enabledCount : Nat
  pendingCount : Option Nat
  syncFault    : Bool
  ltx          : Option RingWord
  deriving DecidableEq, Repr

/-- One entry of the dispute list (R135). -/
structure Dispute where
  ticket    : Nat
  lane      : Lane
  sweptBack : Option Nat
  deriving DecidableEq, Repr

/-! ### Alarms (chapter 6) -/

/-- The alarm classes, from lowest to highest (R144). -/
inductive AlarmClass
  | none | notice | hold | lockdown | duress
  deriving DecidableEq, Repr

/-- The sources 1 to 22, each handed by its owner (R143). -/
inductive Owned
  | laneTamper (l : Lane)
  | lineFault (l : Lane)
  | cassetteTamper (p : Pos)
  | rejectFull
  | intakeFull
  deriving DecidableEq, Repr

/-- One entry for each of the sources 1 to 22. -/
structure PerOwned (α : Type) where
  laneTamper     : PerLane α
  lineFault      : PerLane α
  cassetteTamper : PerPos α
  rejectFull     : α
  intakeFull     : α
  deriving DecidableEq, Repr

/-- A source of the alarm table: LOCAL, or one of the sources 1 to 22 (R143). -/
inductive AlarmSource
  | inputs
  | owned (o : Owned)
  deriving DecidableEq, Repr

/-- Whether a source is active, and its current class (R144). -/
structure SourceState where
  active  : Bool
  current : AlarmClass
  deriving DecidableEq, Repr

/-- The states of an alarm record (R145). -/
inductive AlarmState
  | raised | acked | standing
  deriving DecidableEq, Repr

/-- A set of the four classes a record may carry (R145). -/
structure ClassSet where
  (notice hold lockdown duress : Bool)
  deriving DecidableEq, Repr

/-- One alarm record (R145). Its class is the highest of its classes, formed by `ClassSet.highest`; `pattern` is present
for LOCAL. -/
structure AlarmRecord where
  source      : AlarmSource
  state       : AlarmState
  classes     : ClassSet
  current     : AlarmClass
  timesRaised : Nat
  pattern     : Option Nat
  deriving DecidableEq, Repr

/-- The Alarm Unit (R141 to R154): the last samples (newest first, at most three), the pattern of the judged levels, the
LOCAL source, the other sources, the alarm table in ascending source order, and the three wall modes. -/
structure Alarms where
  samples  : List (BitVec 6)
  pattern  : BitVec 6
  inputs   : SourceState
  sources  : PerOwned SourceState
  records  : List AlarmRecord
  hold     : Bool
  lockdown : Bool
  duress   : Bool
  deriving DecidableEq, Repr

/-! ### Count points (chapter 7) -/

/-- The count point states (R159). -/
inductive CountState
  | idle | quiescing | balancing
  deriving DecidableEq, Repr

/-- The causes of a count point (R160). -/
inductive Cause
  | requested | release | periodic | start
  deriving DecidableEq, Repr

/-- A set of causes (R159). -/
structure CauseSet where
  (requested release periodic start : Bool)
  deriving DecidableEq, Repr

/-- The count point record (R159). `written` is the model's own: the positions whose count write-back has succeeded in
this count point (R167, R168). -/
structure CountPoint where
  state          : CountState
  causes         : CauseSet
  pending        : Bool
  pendingCauses  : CauseSet
  number         : Nat
  timer          : Option Nat
  writeBack      : PosSet
  written        : PosSet
  failures       : PosSet
  release        : PosSet
  pendingRelease : PosSet
  settled        : Nat
  writtenOff     : Since
  storedAfter    : Since
  deriving DecidableEq, Repr

/-- The results of a count point (R167, R165). -/
inductive CountResult
  | clean | tagWriteFailed | timedOut
  deriving DecidableEq, Repr

/-- The not-at-rest list of a TIMED_OUT record (R165). -/
structure NotAtRest where
  (picker route purge intake : Bool)
  deriving DecidableEq, Repr

/-- The balance record (R171). -/
structure Balance where
  number      : Nat
  causes      : CauseSet
  result      : CountResult
  failures    : PosSet
  notAtRest   : NotAtRest
  slots       : PerPos Slot
  retiring    : PerPos (Option Retiring)
  carries     : PerPos Carry
  reject      : RejectVault
  intake      : IntakeVault
  laneCount   : Nat
  binCounts   : PerLane Nat
  binVerified : PerLane Bool
  openTickets : Nat
  heldNotes   : Nat
  heldValue   : Nat
  unresolved  : Nat
  writtenOff  : Nat
  storedAfter : Nat
  deriving DecidableEq, Repr

/-! ### Request Port and configuration (chapter 8) -/

/-- The status codes (R176). -/
inductive Status
  | ok | notFound | badState | tableFull | range | valueMismatch | short | unavailable | samePosition | notInService
  | locked | busy | badFrame | unknownRequest
  deriving DecidableEq, Repr

/-- The port states (R173). -/
inductive PortState
  | idle | receiving | acting | ready
  deriving DecidableEq, Repr

/-- A held response (R173): its status and payload; `Response.frame` gives its bytes. -/
structure Response where
  status  : Status
  payload : List Byte
  deriving DecidableEq, Repr

/-- The attention reason set (R178). -/
structure ReasonSet where
  (alarm tickets position lane balance envelopeRefused port : Bool)
  deriving DecidableEq, Repr

/-- The port record (R173), with the bytes SDOUT carries in the last select period, from its first byte (the model's own view
of the line; log entry 19). -/
structure Port where
  state          : PortState
  held           : Option Response
  read           : Bool
  readOutReasons : ReasonSet
  readOutNumbers : List Nat
  sdout          : List Byte
  deriving DecidableEq, Repr

/-- The targets whose first approvals the Request Port keeps (R177), each with its arguments. -/
inductive HeldTarget
  | vault (v : Vault)
  | bin (l : Lane)
  | resolve (ticket : Nat)
  deriving DecidableEq, Repr

/-- One entry of the held approval list (R177); `delivered` is RESOLVE's further argument. -/
structure HeldApproval where
  target    : HeldTarget
  teller    : Teller
  delivered : Option Nat
  seconds   : Nat
  deriving DecidableEq, Repr

/-- The parameters (R182). -/
structure Params where
  laneCount        : Nat
  denominations    : PerCode (Option Nat)
  /-- The 64 entries of the class table, entry 0 first (R142). -/
  classTable       : List AlarmClass
  sourceClasses    : PerOwned AlarmClass
  dualLimit        : Nat
  approvalWindow   : Nat
  takeTimeout      : Nat
  lostLaneLimit    : Nat
  quiesceTimeout   : Nat
  periodicCount    : Nat
  busyLevel        : Nat
  maxRejects       : Nat
  suspendThreshold : Nat
  lowLevels        : PerPos Nat
  recycling        : Bool
  autoEnvelope     : Bool
  deriving DecidableEq, Repr

/-- The wall state and the marks of R183. `service` is set in SERVICE, clear in SETUP. -/
structure Wall where
  service      : Bool
  starting     : Bool
  laneCountSet : Bool
  deriving DecidableEq, Repr

/-! ### The whole machine -/

/-- Everything the DW8 keeps, and the queue of commands that wait. The fields `clock`, `nextStamp`, `headSent` and `pending`
are the model's own. -/
structure State where
  /-- The ticket table (R1): an occupied entry for each ticket listed, in ascending order of number (the order is the model's,
  log entry 32). -/
  tickets       : List Ticket
  /-- The pick queue, oldest queue stamp first (R20). -/
  pickQueue     : List Nat
  /-- The next-number counter (R4). -/
  nextNumber    : Nat
  /-- The next open or queue stamp to give (R2: the stamps are kept as orders). -/
  nextStamp     : Nat
  slots         : PerPos Slot
  retiring      : PerPos (Option Retiring)
  carries       : PerPos Carry
  tagLink       : TagLink
  rejectVault   : RejectVault
  intakeVault   : IntakeVault
  gate          : Gate
  picker        : Picker
  staging       : Staging
  /-- Where the staging gate turned the last note that passed the gauge (R72). -/
  sgate         : StagingGate
  route         : Route
  /-- The retract list, oldest first (R65). -/
  retracts      : List Retract
  presentations : PerLane (Option Presentation)
  sweepPending  : Bool
  sweepDone     : Bool
  handlings     : PerLane Handling
  intakeRec     : IntakeRec
  /-- The commands sent to the intake head since the full reset, oldest first. -/
  headSent      : List HeadCommand
  lanes         : PerLane LaneRec
  ring          : Ring
  /-- The dispute list in ascending order of ticket number (R135). -/
  disputes      : List Dispute
  alarms        : Alarms
  countPoint    : CountPoint
  /-- The balance record, `none` while it is empty (R171). -/
  balance       : Option Balance
  /-- The record formed at the balance moment and held until the publish (R166). -/
  forming       : Option Balance
  port          : Port
  reasons       : ReasonSet
  /-- The change set in ascending order (R32). -/
  changeSet     : List Nat
  approvals     : List HeldApproval
  params        : Params
  wall          : Wall
  /-- Whole seconds that have passed in steps on an empty queue. -/
  clock         : Nat
  /-- The commands that wait, first in, first out. -/
  pending       : List Instr
  deriving DecidableEq, Repr

/-- Why the machine stops with a fault. No rule of the DW8 stops it, so no constructor is needed and no meaning raises one. -/
inductive Fault
  deriving DecidableEq, Repr

/-- Why a command is refused by the model. Safe: a refused command has no next state, so nothing is proved of it. -/
inductive Refusal
  /-- Raised by exec alone, for a command that has no meaning yet. Safe. -/
  | notModelled (mnemonic : String)
  deriving DecidableEq, Repr

/-! ### After a full reset -/

/-- A since-last figure that has just started. -/
def Since.zero : Since := ⟨0, 0⟩

/-- The in-service slot of a position with no cassette (R37). -/
def Slot.empty : Slot :=
  { state := .absent, refused := none, identity := none, base := 0, count := 0, pickedOut := 0, storedIn := 0,
    totalPickedOut := 0, totalStoredIn := 0, overrun := 0, committed := 0, window := [], missRun := 0, low := false,
    depleted := .clear, uncertain := false, reviewed := false, unverified := false, tagStale := false,
    markOwed := false, prior := none, release := none }

/-- The empty overwritten carry (R37). -/
def Carry.empty : Carry := ⟨.zero, .zero, .zero⟩

/-- The reject vault after a full reset (R55). DESIGN CHOICE: the vault's sensor shows it present; see log entry 2. -/
def RejectVault.reset : RejectVault :=
  { pickRejects := 0, retracted := 0, sweep := 0, sincePick := .zero, sinceRetracted := .zero, sinceSweep := .zero,
    emptied := .zero, present := true, unverified := true }

/-- The intake vault after a full reset (R57). DESIGN CHOICE: the vault's sensor shows it present; see log entry 2. -/
def IntakeVault.reset : IntakeVault :=
  { entries := .const 0, since := .const .zero, emptied := .zero, present := true, unverified := true }

/-- The picker after a full reset (R66). DESIGN CHOICE: the gauge references, of which the rule gives no value, are 0; see
log entry 3. -/
def Picker.reset : Picker :=
  { state := .idle, ticket := none, position := none, refs := ⟨0, 0, 0⟩, feedStarted := none, fedFrom := .slot }

/-- Staging when it is empty (R63, R66). -/
def Staging.empty : Staging := { owner := none, held := 0, value := 0, complete := false, purge := .idle }

/-- The envelope handling of a lane after a full reset (R94). -/
def Handling.reset : Handling := { state := .idle, ticket := none, jam := none, lastRefusal := none, refusals := 0 }

/-- The intake record when no run is under way (R96). -/
def IntakeRec.idleRec : IntakeRec :=
  { state := .idle, owner := none, escrow := none, destination := none, finishHeld := false, stray := false,
    storedTo := .slot }

/-- A lane record after a full reset (R121). -/
def LaneRec.reset : LaneRec :=
  { link := .disabled, badRun := 0, faultRun := 0, joinRun := .idle, lastEvent := none, unheard := false,
    desiredDrawer := .locked, desiredSlot := .closed, desiredLamp := .laneClosed, effDrawer := .locked,
    effSlot := .closed, repDrawer := none, repNotes := none, repFault := none, handedDrawer := none, repSlot := none,
    repLamp := none, callButton := none, tamper := none, stampEcho := none, lostTimer := none, lost := .idle,
    receiveErrors := 0, silentSlots := 0, lineFaults := 0, holder := none, binCount := 0, binVerified := false,
    slotFault := false, slotReply := none }

/-- The empty reason set (R178). -/
def ReasonSet.empty : ReasonSet := ⟨false, false, false, false, false, false, false⟩

/-- The empty set of causes. -/
def CauseSet.empty : CauseSet := ⟨false, false, false, false⟩

/-- The same entry for each of the sources 1 to 22. -/
def PerOwned.const {α : Type} (x : α) : PerOwned α := ⟨.const x, .const x, .const x, x, x⟩

/-- The default source classes (R143). -/
def Params.defaultSourceClasses : PerOwned AlarmClass :=
  { laneTamper := .const .lockdown, lineFault := .const .notice, cassetteTamper := .const .lockdown,
    rejectFull := .notice, intakeFull := .notice }

/-- The defaults of R182. -/
def Params.default : Params :=
  { laneCount := 1, denominations := .const none, classTable := List.replicate 64 .none,
    sourceClasses := Params.defaultSourceClasses, dualLimit := 0, approvalWindow := 120, takeTimeout := 45,
    lostLaneLimit := 120, quiesceTimeout := 15, periodicCount := 0, busyLevel := 6, maxRejects := 10,
    suspendThreshold := 4, lowLevels := .const 50, recycling := false, autoEnvelope := false }

/-- The count point record after a full reset (R159). -/
def CountPoint.reset : CountPoint :=
  { state := .idle, causes := .empty, pending := false, pendingCauses := .empty, number := 0, timer := none,
    writeBack := .empty, written := .empty, failures := .empty, release := .empty, pendingRelease := .empty,
    settled := 0, writtenOff := .zero, storedAfter := .zero }

/-- The Alarm Unit after a full reset (R141, R144, R145, R158). -/
def Alarms.reset : Alarms :=
  { samples := [], pattern := 0, inputs := ⟨false, .none⟩, sources := .const ⟨false, .none⟩, records := [],
    hold := false, lockdown := false, duress := false }

/-- The port record after a full reset (R173). -/
def Port.reset : Port :=
  { state := .idle, held := none, read := false, readOutReasons := .empty, readOutNumbers := [], sdout := [] }

/-- The DW8 right after a full reset (section 8.7), with no cassette in any position and both vaults present (DESIGN CHOICE,
log entry 2), the staging gate set into staging (DESIGN CHOICE, log entry 26), the intake head having been sent ACCEPT OFF and
RETURN ESCROW (R96), and no command waiting. -/
def State.reset : State :=
  { tickets := [], pickQueue := [], nextNumber := 1, nextStamp := 0, slots := .const .empty, retiring := .const none,
    carries := .const .empty, tagLink := ⟨[], none⟩, rejectVault := .reset, intakeVault := .reset,
    gate := ⟨none, false, false, none⟩, picker := .reset, staging := .empty, sgate := .intoStaging, route := .free,
    retracts := [],
    presentations := .const none, sweepPending := true, sweepDone := false, handlings := .const .reset,
    intakeRec := .idleRec, headSent := [.acceptOff, .returnEscrow], lanes := .const .reset,
    ring := ⟨0, false, 0, none, false, none⟩, disputes := [], alarms := .reset, countPoint := .reset, balance := none,
    forming := none, port := .reset, reasons := .empty, changeSet := [], approvals := [], params := .default,
    wall := ⟨false, false, false⟩, clock := 0, pending := [] }

end Sys2Proof.Machine
end

