-- ==== Sys2Proof/Machine/Flags.lean ====
section
/-! DEFINITION. The flag computations: attention reasons (R178), alarm classes and class sets (R144, R145), cause sets (R159),
figures that stop at a maximum, and the flags of a position slot that its other fields decide (R46, R47, R49). -/

namespace Sys2Proof.Machine

/-! ### Counters that stop -/

/-- A sum that stops at a maximum. -/
def addUpTo (most x n : Nat) : Nat := min most (x + n)

/-- A since-last figure raised by n, stopping at its maximum (R55, R159). -/
def Since.raise (most : Nat) (x : Since) (n : Nat) : Since := ⟨addUpTo most x.total n, addUpTo most x.late n⟩

/-- The balance moment: what comes from now on belongs to the next period (R168). -/
def Since.markMoment (x : Since) : Since := ⟨x.total, 0⟩

/-- The publish: the figure restarts from what it took since the balance moment (R168). -/
def Since.restart (x : Since) : Since := ⟨x.late, x.late⟩

/-! ### Attention reasons (R178) -/

/-- The seven reasons, in reporting order. -/
inductive Reason
  | alarm | tickets | position | lane | balance | envelopeRefused | port
  deriving DecidableEq, Repr

/-- The set with one more reason. -/
def ReasonSet.add (r : ReasonSet) : Reason → ReasonSet
  | .alarm => { r with alarm := true }
  | .tickets => { r with tickets := true }
  | .position => { r with position := true }
  | .lane => { r with lane := true }
  | .balance => { r with balance := true }
  | .envelopeRefused => { r with envelopeRefused := true }
  | .port => { r with port := true }

/-- The reasons in either set. -/
def ReasonSet.union (x y : ReasonSet) : ReasonSet :=
  ⟨x.alarm || y.alarm, x.tickets || y.tickets, x.position || y.position, x.lane || y.lane, x.balance || y.balance,
    x.envelopeRefused || y.envelopeRefused, x.port || y.port⟩

/-- Whether the set holds any reason: the level of ATTN (R178). -/
def ReasonSet.any (r : ReasonSet) : Bool :=
  r.alarm || r.tickets || r.position || r.lane || r.balance || r.envelopeRefused || r.port

/-- A reason placed in the attention reason set. -/
def State.place (s : State) (r : Reason) : State := { s with reasons := s.reasons.add r }

/-- A reason placed when a condition holds. -/
def State.placeIf (s : State) (c : Bool) (r : Reason) : State := if c then s.place r else s

/-! ### Alarm classes (R144, R145) -/

/-- The rank of a class, and its code in a payload (R144, R187). -/
def AlarmClass.rank : AlarmClass → Nat
  | .none => 0
  | .notice => 1
  | .hold => 2
  | .lockdown => 3
  | .duress => 4

/-- The class a coded number names, or none (R187). -/
def AlarmClass.ofNat? : Nat → Option AlarmClass
  | 0 => some .none
  | 1 => some .notice
  | 2 => some .hold
  | 3 => some .lockdown
  | 4 => some .duress
  | _ => Option.none

/-- The set with no class. -/
def ClassSet.empty : ClassSet := ⟨false, false, false, false⟩

/-- The set with one more class; NONE is no member. -/
def ClassSet.add (c : ClassSet) : AlarmClass → ClassSet
  | .none => c
  | .notice => { c with notice := true }
  | .hold => { c with hold := true }
  | .lockdown => { c with lockdown := true }
  | .duress => { c with duress := true }

/-- Whether the class is among the classes. -/
def ClassSet.has (c : ClassSet) : AlarmClass → Bool
  | .none => false
  | .notice => c.notice
  | .hold => c.hold
  | .lockdown => c.lockdown
  | .duress => c.duress

/-- The highest of the classes (R145). -/
def ClassSet.highest (c : ClassSet) : AlarmClass :=
  if c.duress then .duress else if c.lockdown then .lockdown else if c.hold then .hold else if c.notice then .notice
  else .none

/-- The class field of a record (R145). -/
def AlarmRecord.highest (r : AlarmRecord) : AlarmClass := r.classes.highest

/-! ### Causes of a count point (R159, R160) -/

/-- The set with one more cause. -/
def CauseSet.add (c : CauseSet) : Cause → CauseSet
  | .requested => { c with requested := true }
  | .release => { c with release := true }
  | .periodic => { c with periodic := true }
  | .start => { c with start := true }

/-! ### The flags of a position slot -/

/-- The position states in which the count fields and flags hold their values (R34). -/
def PosState.live : PosState → Bool
  | .inService | .suspended | .releasePending | .unlocked => true
  | .absent | .identifying | .refused => false

/-- The low flag formed anew (R46). -/
def Slot.formLow (lowLevel : Nat) (x : Slot) : Slot := { x with low := x.state.live && decide (x.count ≤ lowLevel) }

/-- Uncertain set, which clears its reviewed mark (R47). -/
def Slot.setUncertain (x : Slot) : Slot := { x with uncertain := true, reviewed := false }

/-- The number of fails in a quality window (R49). -/
def windowFails (w : List Bool) : Nat := (w.filter id).length

/-- An outcome added at the head of the window, of which eight are kept (R49). -/
def Slot.addOutcome (fail : Bool) (x : Slot) : Slot := { x with window := (fail :: x.window).take 8 }

/-- Suspension (R49): an IN_SERVICE position whose window holds the threshold's fails or more enters SUSPENDED. -/
def Slot.judgeQuality (threshold : Nat) (x : Slot) : Slot :=
  if x.state = .inService ∧ threshold ≤ windowFails x.window then { x with state := .suspended } else x

/-- The depleted flag after the count has reached 0 (R46). -/
def Depleted.atZero : Depleted → Depleted
  | .misses => .misses
  | _ => .zero

/-- The flags and the state whose change places POSITION (R35). -/
def Slot.attended (x : Slot) : PosState × Bool × Depleted × Bool × Bool × Bool :=
  (x.state, x.low, x.depleted, x.uncertain, x.unverified, x.tagStale)

end Sys2Proof.Machine
end

