-- ==== Sys2Proof/Machine/Ops.lean ====
section
/-! DEFINITION. The named operations over the DW8's records that every chapter shares: keyed lists, the ticket table with its
pick queue and change set, the position slots, the vault figures, and the queries the rules ask of them. -/

namespace Sys2Proof.Machine

/-! ### Lists kept in ascending order of a key, one entry for each key -/

section Keyed
variable {α : Type}

/-- The entry with its key put in, in place of the one that had it. -/
def putByKey (key : α → Nat) (x : α) : List α → List α
  | [] => [x]
  | y :: ys =>
    if key x < key y then x :: y :: ys else if key x = key y then x :: ys else y :: putByKey key x ys

/-- The entry with a key. -/
def findByKey (key : α → Nat) (k : Nat) (xs : List α) : Option α := xs.find? fun x => key x == k

/-- The list without the entry with a key. -/
def dropKey (key : α → Nat) (k : Nat) (xs : List α) : List α := xs.filter fun x => key x != k

/-- Whether the keys strictly rise: ascending order, and no key twice. -/
def risingBy (key : α → Nat) : List α → Bool
  | [] => true
  | [_] => true
  | x :: y :: ys => decide (key x < key y) && risingBy key (y :: ys)

end Keyed

/-- A number added to a set of numbers held in ascending order. -/
def addNumber (n : Nat) (xs : List Nat) : List Nat := putByKey id n xs

/-! ### The ticket table (section 1.1) -/

/-- The ticket an occupied entry holds under a number. -/
def State.ticket (s : State) (n : Nat) : Option Ticket := findByKey Ticket.number n s.tickets

/-- The record of a ticket written back to its entry. -/
def State.putTicket (s : State) (t : Ticket) : State := { s with tickets := putByKey Ticket.number t s.tickets }

/-- Whether an entry is free (R1). -/
def State.hasFreeEntry (s : State) : Bool := decide (s.tickets.length < Config.tableSize)

/-- A ticket has entered a state: its number joins the change set, with the reason TICKETS (R32). -/
def State.noteTicket (s : State) (n : Nat) : State :=
  { s with changeSet := addNumber n s.changeSet, reasons := s.reasons.add .tickets }

/-- The record of a DISPENSE ticket, if the number names one. -/
def State.dispense (s : State) (n : Nat) : Option Dispense :=
  match s.ticket n with
  | some { body := .dispense d, .. } => some d
  | _ => none

/-- The record of an ENVELOPE ticket, if the number names one. -/
def State.envelope (s : State) (n : Nat) : Option Envelope :=
  match s.ticket n with
  | some { body := .envelope e, .. } => some e
  | _ => none

/-- The record of an INTAKE ticket, if the number names one. -/
def State.intake (s : State) (n : Nat) : Option Intake :=
  match s.ticket n with
  | some { body := .intake k, .. } => some k
  | _ => none

/-- The terminal states of a DISPENSE ticket (section 1.3). -/
def DispenseState.terminal : DispenseState → Bool
  | .delivered | .returned | .voided | .expired | .resolved => true
  | .awaitingSecond | .queued | .picking | .pickHalted | .purging | .staged | .routing | .presented | .retracting
  | .disputed => false

/-- Whether a ticket is in a terminal state of its kind (R28). -/
def Ticket.terminal (t : Ticket) : Bool :=
  match t.body with
  | .dispense d => d.state.terminal
  | .envelope e => decide (e.state = .envelopeHeld ∨ e.state = .voided)
  | .intake k => decide (k.state = .counted ∨ k.state = .voided)

/-- A DISPENSE ticket enters a state: the halt reason goes when PICK_HALTED is left (R2), and the deadline goes on entry to
a terminal state (R11). -/
def Dispense.enter (st : DispenseState) (d : Dispense) : Dispense :=
  { d with state := st, halt := none, deadline := if st.terminal then none else d.deadline }

/-- The body of a ticket replaced, without a state change (R32: nothing is added to the change set). -/
def State.rewrite (s : State) (n : Nat) (b : TicketBody) : State :=
  match s.ticket n with
  | some t => s.putTicket { t with body := b }
  | none => s

/-- The body of a ticket replaced as it enters a state (R32). -/
def State.move (s : State) (n : Nat) (b : TicketBody) : State := (s.rewrite n b).noteTicket n

/-- A claim on a DISPENSE ticket (R11): taken in the states named, when it changes the ticket and counts as a state change;
in any other state, or for a number no entry holds, it leaves everything as it is. -/
def State.claim (s : State) (n : Nat) (takenIn : DispenseState → Bool) (f : Dispense → Dispense) : State :=
  match s.dispense n with
  | some d => if takenIn d.state then s.move n (.dispense (f d)) else s
  | none => s

/-- A change of a DISPENSE ticket's fields that is no state change. -/
def State.adjust (s : State) (n : Nat) (f : Dispense → Dispense) : State :=
  match s.dispense n with
  | some d => s.rewrite n (.dispense (f d))
  | none => s

/-- The next number to issue (R4): the first that no entry holds, searched upward from the counter and wrapping from 9999
to 1. The search ends within 32 numbers, so it is given that many tries. -/
def searchNumber (held : List Nat) : Nat → Nat → Nat
  | 0, n => n
  | fuel + 1, n => if held.contains n then searchNumber held fuel (if n < Config.maxNumber then n + 1 else 1) else n

/-- The number the next opened ticket gets (R4). -/
def State.issueNumber (s : State) : Nat := searchNumber (s.tickets.map Ticket.number) Config.tableSize s.nextNumber

/-- A new record in a free entry, under the number issued, with the open stamp after every other; the counter moves on
(R1, R4), and the number joins the change set (R32). -/
def State.openTicket (s : State) (l : Lane) (opener : Option Teller) (mark : TellerSet) (b : TicketBody) : State :=
  let n := s.issueNumber
  let t : Ticket := { number := n, lane := l, opener := opener, openStamp := s.nextStamp, mark := mark, body := b }
  { (s.putTicket t).noteTicket n with
    nextNumber := if n < Config.maxNumber then n + 1 else 1, nextStamp := s.nextStamp + 1 }

/-! ### The pick queue (R20) -/

/-- A ticket that has entered QUEUED joins the pick queue at its tail, with a queue stamp later than every other. -/
def State.joinQueue (s : State) (n : Nat) : State :=
  { s.adjust n (fun d => { d with queueStamp := some s.nextStamp }) with
    pickQueue := s.pickQueue ++ [n], nextStamp := s.nextStamp + 1 }

/-- A ticket leaves the pick queue, and the others keep their order. -/
def State.leaveQueue (s : State) (n : Nat) : State := { s with pickQueue := s.pickQueue.filter (· != n) }

/-! ### Plans (R3) -/

/-- The sum of note count times note value. -/
def planValue (p : List Segment) : Nat := (p.map fun g => g.notes * g.value).sum

/-- The sum of picked count times note value. -/
def pickedValue (p : List Segment) : Nat := (p.map fun g => g.picked * g.value).sum

/-- The plan's total notes. -/
def planNotes (p : List Segment) : Nat := (p.map Segment.notes).sum

/-- The first unfinished segment. -/
def currentSegment (p : List Segment) : Option Segment := p.find? fun g => decide (g.picked < g.notes)

/-- One more note picked for the current segment. -/
def pickOne : List Segment → List Segment
  | [] => []
  | g :: gs => if g.picked < g.notes then { g with picked := g.picked + 1 } :: gs else g :: pickOne gs

/-- The unpicked notes of the segments that name a position. -/
def unpickedAt (x : Pos) (p : List Segment) : Nat :=
  (p.map fun g => if g.position = x then g.notes - g.picked else 0).sum

/-- The states in which a ticket's unpicked notes are committed (R17). -/
def DispenseState.reserving : DispenseState → Bool
  | .awaitingSecond | .queued | .picking | .pickHalted => true
  | .purging | .staged | .routing | .presented | .retracting | .disputed | .delivered | .returned | .voided | .expired
  | .resolved => false

/-- What one ticket commits at a position (R17). -/
def Ticket.committedAt (x : Pos) (t : Ticket) : Nat :=
  match t.body with
  | .dispense d => if d.state.reserving then unpickedAt x d.plan else 0
  | .envelope _ => 0
  | .intake _ => 0

/-- The committed notes of a position (R17). -/
def State.committedAt (s : State) (x : Pos) : Nat := (s.tickets.map (Ticket.committedAt x)).sum

/-! ### Position slots (R34) -/

/-- The in-service slot of a position. -/
def State.slot (s : State) (p : Pos) : Slot := s.slots.get p

/-- The slot written back. A change of the position state or of a flag named in R35 places POSITION. -/
def State.putSlot (s : State) (p : Pos) (x : Slot) : State :=
  { s with slots := s.slots.set p x,
           reasons := if (s.slots.get p).attended = x.attended then s.reasons else s.reasons.add .position }

/-- The available notes of a position, when `own` of its committed notes are counted as free (R17, R18). -/
def Slot.available (own : Nat) (x : Slot) : Nat :=
  if x.state = .inService then x.count - (x.committed - own) else 0

/-! ### The vaults (R55 to R57) -/

/-- The count of the reject vault: the sum of its three parts, stopping at 999 (R55). -/
def RejectVault.count (v : RejectVault) : Nat := min Config.maxRejects (v.pickRejects + v.retracted + v.sweep)

/-- The reject vault is full (R56). -/
def RejectVault.full (v : RejectVault) : Bool := decide (Config.rejectFullAt ≤ v.count) || !v.present

/-- The room of the reject vault (R56). -/
def RejectVault.room (v : RejectVault) : Nat := if v.present then Config.rejectLimit - v.count else 0

/-- The total of the intake vault (R57). -/
def IntakeVault.total (v : IntakeVault) : Nat := v.entries.toList.sum

/-- The intake vault is full (R57). -/
def IntakeVault.full (v : IntakeVault) : Bool := decide (Config.intakeFullAt ≤ v.total) || !v.present

/-- Notes rejected by the gauge (R55). -/
def RejectVault.addPicks (v : RejectVault) (n : Nat) : RejectVault :=
  { v with pickRejects := addUpTo Config.maxRejects v.pickRejects n,
           sincePick := v.sincePick.raise Config.maxRejects n }

/-- Notes counted in by a retract or a purge (R55). -/
def RejectVault.addRetracted (v : RejectVault) (n : Nat) : RejectVault :=
  { v with retracted := addUpTo Config.maxRejects v.retracted n,
           sinceRetracted := v.sinceRetracted.raise Config.maxRejects n }

/-- Notes counted in as sweep notes (R55). -/
def RejectVault.addSweep (v : RejectVault) (n : Nat) : RejectVault :=
  { v with sweep := addUpTo Config.maxRejects v.sweep n, sinceSweep := v.sinceSweep.raise Config.maxRejects n }

/-- A note placed in the intake vault (R57). -/
def IntakeVault.addNote (v : IntakeVault) (c : Code) : IntakeVault :=
  { v with entries := v.entries.set c (v.entries.get c + 1),
           since := v.since.set c ((v.since.get c).raise Config.max16 1) }

/-! ### Lanes -/

/-- The lane record of a lane. -/
def State.lane (s : State) (l : Lane) : LaneRec := s.lanes.get l

/-- The lane record written back. -/
def State.putLane (s : State) (l : Lane) (r : LaneRec) : State := { s with lanes := s.lanes.set l r }

/-- The envelope handling record written back. -/
def State.putHandling (s : State) (l : Lane) (h : Handling) : State := { s with handlings := s.handlings.set l h }

/-- The presentation record of a lane made, changed or discarded. -/
def State.putPresentation (s : State) (l : Lane) (p : Option Presentation) : State :=
  { s with presentations := s.presentations.set l p }

/-- Close asked set on the presentation record of a lane, if one is held (R87). -/
def State.askClose (s : State) (l : Lane) : State :=
  match s.presentations.get l with
  | some p => s.putPresentation l (some { p with closeAsked := true })
  | none => s

/-! ### Wall conditions -/

/-- Whether the count point is in QUIESCING or BALANCING. -/
def State.counting (s : State) : Bool := decide (s.countPoint.state ≠ .idle)

/-- The pause conditions of the picker (R68). -/
def State.pausing (s : State) : Bool := s.alarms.lockdown || s.counting

/-- The reserved room of the reject vault (R65). -/
def State.reservedRoom (s : State) : Nat :=
  ((s.retracts.filter fun e => decide (e.stage = .claimed)).map Retract.expected).sum
    + (match s.route with
       | .retracting _ _ _ expected => expected
       | _ => 0)
    + (if s.staging.purge = .running then s.staging.held else 0)

/-- Whether notes fit the room less the reserved room (R65). -/
def State.fits (s : State) (notes : Nat) : Bool := decide (notes + s.reservedRoom ≤ s.rejectVault.room)

/-- Whether a lane has a delivery in flight to it. -/
def State.deliveringTo (s : State) (l : Lane) : Bool :=
  match s.route with
  | .delivering m _ _ _ => decide (m = l)
  | _ => false

/-- Whether a lane has a retract in flight from it. -/
def State.retractingFrom (s : State) (l : Lane) : Bool :=
  match s.route with
  | .retracting m _ _ _ => decide (m = l)
  | _ => false

end Sys2Proof.Machine
end

