-- ==== Sys2Proof/Machine/Gate.lean ====
section
/-! DEFINITION. The movements of single notes that the chapters share: the picker's next pick with its pause test and segment
check (R67 to R71), the claims on the D gate and their decision (R59, R60), and the decision of a note in escrow (R112,
R114). They stand together because the end of one movement decides the waiting claim of the other. -/

namespace Sys2Proof.Machine

/-! ### The picker -/

/-- The picker put to IDLE, its ticket absent (R62). -/
def Picker.stop (k : Picker) : Picker := { k with state := .idle, ticket := none, position := none, feedStarted := none }

/-- The picker put to PAUSED with its ticket kept and no note in flight (R68). -/
def Picker.pause (k : Picker) : Picker := { k with state := .paused, position := none, feedStarted := none }

/-- Why a pick may not be made from a position as it stands (R60 for position D, R69 steps 2 to 4 and 6, R71). -/
def Slot.pickUnfit (x : Slot) : Option HaltReason :=
  match x.state with
  | .absent => some .removed
  | .suspended => some .suspended
  | .identifying | .refused | .releasePending | .unlocked => some .notReady
  | .inService => if x.depleted = .clear then none else some .depleted

/-- The segment check (R69), in its order: the reject vault, the state of the position, the note value of its cassette, and
the depleted flag. -/
def State.segmentCheck (s : State) (g : Segment) : Option HaltReason :=
  let x := s.slot g.position
  if s.rejectVault.full then some .rejectFull
  else if x.state = .inService ∧ x.identity.map Identity.noteValue ≠ some g.value then some .notReady
  else x.pickUnfit

/-- A halt (R70): the claim takes the ticket from PICKING to PICK_HALTED with its reason, and the picker becomes IDLE. -/
def State.haltPick (s : State) (n : Nat) (why : HaltReason) : State :=
  { s.claim n (· = .picking) (fun d => { d.enter .pickHalted with halt := some why }) with picker := s.picker.stop }

/-- The feed command at a position (R71): the gauge references are copied, the moment is recorded, and the picker enters
FEEDING. -/
def State.feed (s : State) (n : Nat) (p : Pos) : State :=
  { s with picker :=
      { state := .feeding, ticket := some n, position := some p,
        refs := match (s.slot p).identity with
          | some k => ⟨k.thickness, k.length, k.noteValue⟩
          | none => s.picker.refs,
        feedStarted := some s.clock, fedFrom := .slot } }

/-- The pick claim on a FREE gate decided against position D as it stands (R60, R71): granted, with the feed command; or not
fit, with the halt. A reject vault that has become full meanwhile also halts the ticket, since no pick is started while it is
full (R56; DEDUCED, log entry 9). -/
def State.decidePick (s : State) (n : Nat) : State :=
  let s := { s with gate := { s.gate with waitPicker := false } }
  if s.rejectVault.full then s.haltPick n .rejectFull
  else
    match (s.slot .d).pickUnfit with
    | some why => s.haltPick n why
    | none => { s with gate := { s.gate with granted := some .picker, last := some .picker } }.feed n .d

/-- The start of a pick at a position (R71). A pick at D first claims the gate: it is decided at once while the gate is FREE
and waits while it is GRANTED (R59). -/
def State.startPick (s : State) (n : Nat) (p : Pos) : State :=
  if p = .d then
    if s.gate.granted = none then s.decidePick n
    else
      { s with gate := { s.gate with waitPicker := true },
               picker := { s.picker with state := .waitingGate, ticket := some n, position := some .d,
                                         feedStarted := none } }
  else s.feed n p

/-- The picker's next step for a ticket in PICKING: the pause test (R68), then the segment check (R69), then the pick (R71). -/
def State.workPick (s : State) (n : Nat) : State :=
  if s.pausing then { s with picker := { s.picker.pause with ticket := some n } }
  else
    match s.dispense n with
    | none => s
    | some d =>
      match currentSegment d.plan with
      | none => s
      | some g =>
        match s.segmentCheck g with
        | some why => s.haltPick n why
        | none => s.startPick n g.position

/-! ### The note in escrow -/

/-- Whether position D takes a store (R60), and with `code` whether it takes a note of that code (R112 row 4). -/
def State.storeFit (s : State) : Bool :=
  match (s.slot .d).identity with
  | some k => decide ((s.slot .d).state = .inService) && k.recycle && s.params.recycling
      && decide ((s.slot .d).count < k.capacity)
  | none => false

/-- The code of the cassette at D, when D takes a store. -/
def State.storeCode (s : State) : Option Nat :=
  if s.storeFit then (s.slot .d).identity.map Identity.code else none

/-- The destination of a note in escrow (R112): the first row that applies. Row 4 is left out when `withD` is clear (R114). -/
def State.destination (s : State) (withD : Bool) (e : Escrow) : Destination :=
  match e.code, e.value, s.intakeRec.owner.bind s.intake with
  | some c, some v, some k =>
    if s.pausing then .tray
    else if Config.intakeFullAt ≤ k.recycled + k.vaulted ∨ Config.maxAmount < k.amount + v then .tray
    else if withD ∧ s.storeCode = some c.number then .cassetteD
    else if s.intakeVault.full then .tray
    else .vault
  | _, _, _ => .tray

/-- A command sent to the intake head on IHLINK (R111). -/
def State.tellHead (s : State) (c : HeadCommand) : State := { s with headSent := s.headSent ++ [c] }

/-- The note in escrow sent to its destination: the intake record enters PLACING and the head is told (R112). -/
def State.placeNote (s : State) (x : Destination) : State :=
  { s with intakeRec := { s.intakeRec with state := .placing, destination := some x, storedTo := .slot } }.tellHead
    (.place x)

/-- The note in escrow decided again without row 4 (R114). -/
def State.redecide (s : State) : State :=
  match s.intakeRec.escrow with
  | some e => s.placeNote (s.destination false e)
  | none => s

/-- The store claim on a FREE gate decided against position D as it stands (R60, R114): granted, with PLACE D; or not fit,
with the note decided again. -/
def State.decideStore (s : State) : State :=
  let s := { s with gate := { s.gate with waitDeposit := false } }
  if s.storeFit then
    { s with gate := { s.gate with granted := some .deposit, last := some .deposit } }.placeNote .cassetteD
  else s.redecide

/-- A note decided by the whole of R112: for D the record enters WAITING_GATE and a store claim is placed (decided at once
while the gate is FREE, R59); for the vault and the tray it is placed. -/
def State.decideNote (s : State) (e : Escrow) : State :=
  let s := { s with intakeRec := { s.intakeRec with escrow := some e } }
  match s.destination true e with
  | .cassetteD =>
    let s := { s with intakeRec := { s.intakeRec with state := .waitingGate, destination := none },
                      gate := { s.gate with waitDeposit := true } }
    if s.gate.granted = none then s.decideStore else s
  | x => s.placeNote x

/-! ### The gate as movements end and position D changes -/

/-- The picker's waiting claim decided, if it waits and the gate is FREE. -/
def State.serveGatePicker (s : State) : State :=
  if s.gate.waitPicker ∧ s.gate.granted = none then
    match s.picker.ticket with
    | some n => s.decidePick n
    | none => s
  else s

/-- The Deposit Unit's waiting claim decided, if it waits and the gate is FREE. -/
def State.serveGateDeposit (s : State) : State :=
  if s.gate.waitDeposit ∧ s.gate.granted = none then s.decideStore else s

/-- A grant ends (R59): the gate is FREE and the waiting claims are decided at once, of two first the one that did not hold
the last grant. -/
def State.freeGate (s : State) : State :=
  let s := { s with gate := { s.gate with granted := none } }
  if s.gate.last = some .picker then s.serveGateDeposit.serveGatePicker else s.serveGatePicker.serveGateDeposit

/-- A claim that waits while D stops being fit is answered "not fit" at that moment (R60). -/
def State.recheckGate (s : State) : State :=
  let s :=
    if s.gate.waitPicker then
      match (s.slot .d).pickUnfit, s.picker.ticket with
      | some why, some n => { s with gate := { s.gate with waitPicker := false } }.haltPick n why
      | _, _ => s
    else s
  if s.gate.waitDeposit ∧ ¬ s.storeFit then { s with gate := { s.gate with waitDeposit := false } }.redecide else s

/-! ### What LOCKDOWN and a count point ask of a waiting note -/

/-- A pause condition arises (R68): a picker in WAITING_GATE withdraws its claim and enters PAUSED. -/
def State.pauseWaitingPick (s : State) : State :=
  if s.picker.state = .waitingGate then
    { s with gate := { s.gate with waitPicker := false }, picker := s.picker.pause }
  else s

/-- LOCKDOWN is entered or a count point enters QUIESCING (R115): a note in WAITING_GATE has its store claim withdrawn and is
decided again by the whole of R112. -/
def State.recallWaitingNote (s : State) : State :=
  if s.intakeRec.state = .waitingGate then
    match s.intakeRec.escrow with
    | some e => { s with gate := { s.gate with waitDeposit := false } }.decideNote e
    | none => s
  else s

end Sys2Proof.Machine
end

