-- ==== Sys2Proof/Machine/Sources.lean ====
section
/-! DEFINITION. The Alarm Unit's shared operations: handing a source's change to the alarm table (R144 to R148), the judged
pattern (R141, R147), the wall modes (R152 to R154), what the entry of LOCKDOWN does in the other blocks (R153), and the
duress marks (R33, R156). -/

namespace Sys2Proof.Machine

/-- The entry of one of the sources 1 to 22. -/
def PerOwned.get {α : Type} (m : PerOwned α) : Owned → α
  | .laneTamper l => m.laneTamper.get l
  | .lineFault l => m.lineFault.get l
  | .cassetteTamper p => m.cassetteTamper.get p
  | .rejectFull => m.rejectFull
  | .intakeFull => m.intakeFull

/-- The same with one entry replaced. -/
def PerOwned.set {α : Type} (m : PerOwned α) (o : Owned) (x : α) : PerOwned α :=
  match o with
  | .laneTamper l => { m with laneTamper := m.laneTamper.set l x }
  | .lineFault l => { m with lineFault := m.lineFault.set l x }
  | .cassetteTamper p => { m with cassetteTamper := m.cassetteTamper.set p x }
  | .rejectFull => { m with rejectFull := x }
  | .intakeFull => { m with intakeFull := x }

/-- The source number (R143). -/
def AlarmSource.number : AlarmSource → Nat
  | .inputs => 0
  | .owned (.laneTamper l) => l.number
  | .owned (.lineFault l) => 8 + l.number
  | .owned (.cassetteTamper p) => 16 + p.number
  | .owned .rejectFull => 21
  | .owned .intakeFull => 22

/-- The key of the alarm table (R145). -/
def AlarmRecord.key (r : AlarmRecord) : Nat := r.source.number

/-- The record held for a source number. -/
def State.alarmRecord (s : State) (k : Nat) : Option AlarmRecord := findByKey AlarmRecord.key k s.alarms.records

/-! ### Duress marks -/

/-- Whether a teller position's duress input is in a pattern: AIN0 for A, AIN1 for B (R156). -/
def duressInput (pattern : BitVec 6) : Teller → Bool
  | .a => pattern.getLsbD 0
  | .b => pattern.getLsbD 1

/-- Whether a ticket's opener or either approval names a teller position (R33). -/
def Ticket.names (p : Teller) (t : Ticket) : Bool :=
  decide (t.opener = some p)
    || match t.body with
       | .dispense d => decide (d.first = p) || decide (d.second = some p)
       | .envelope _ => false
       | .intake _ => false

/-- The mark claimed for a teller position: added to every non-terminal ticket that names it (R33, R156). -/
def State.markTickets (s : State) (p : Teller) : State :=
  { s with tickets := s.tickets.map fun t => if t.names p ∧ ¬ t.terminal then { t with mark := t.mark.add p } else t }

/-- The marks claimed for every teller position for which the condition holds. -/
def State.markTicketsOf (s : State) (c : Teller → Bool) : State :=
  let s := if c .a then s.markTickets .a else s
  if c .b then s.markTickets .b else s

/-- The mark a ticket opened or approved by a teller position takes at the request (R33). -/
def State.markNow (s : State) (p : Teller) (m : TellerSet) : TellerSet :=
  if s.alarms.duress ∧ duressInput s.alarms.pattern p then m.add p else m

/-! ### The wall modes -/

/-- What the entry of LOCKDOWN does at once in the other blocks: the picker's waiting claim and the waiting note (R68, R115),
and close asked on every presentation held (R87). -/
def State.onLockdown (s : State) : State :=
  (Lane.all.foldl State.askClose s).pauseWaitingPick.recallWaitingNote

/-- What R151 names of a record: its change places ALARM. -/
def AlarmRecord.attended (r : AlarmRecord) : AlarmSource × AlarmState × ClassSet × Option Nat :=
  (r.source, r.state, r.classes, r.pattern)

/-- The alarm table changed. HOLD and DURESS are formed anew (R152, R154), LOCKDOWN is entered when a record has taken it into
its classes (R153), ALARM is placed as R151 states, and DURESS being set claims the marks (R156). -/
def State.setRecords (s : State) (records : List AlarmRecord) (takesLockdown : Bool) : State :=
  let hold := records.any fun r => r.classes.hold
  let duress := records.any fun r => r.classes.duress
  let lockdown := s.alarms.lockdown || takesLockdown
  let changed := decide (records.map AlarmRecord.attended ≠ s.alarms.records.map AlarmRecord.attended)
    || (hold != s.alarms.hold) || (duress != s.alarms.duress) || (lockdown != s.alarms.lockdown)
  let t := { s with alarms := { s.alarms with records := records, hold := hold, duress := duress, lockdown := lockdown } }
  let t := t.placeIf changed .alarm
  let t := if duress ∧ ¬ s.alarms.duress then t.markTicketsOf (duressInput t.alarms.pattern) else t
  if lockdown ∧ ¬ s.alarms.lockdown then t.onLockdown else t

/-- The record a source has after it became active with a class other than NONE (R146). -/
def raiseRecord (old : Option AlarmRecord) (src : AlarmSource) (current : AlarmClass) (pattern : Option Nat) : AlarmRecord :=
  match old with
  | none => { source := src, state := .raised, classes := ClassSet.empty.add current, current := current,
              timesRaised := 1, pattern := pattern }
  | some r => { r with state := .raised, classes := r.classes.add current, current := current,
                       timesRaised := addUpTo 255 r.timesRaised 1, pattern := pattern }

/-- A source becomes active (R144, R146). With class NONE no record is made and none is counted. -/
def State.sourceUp (s : State) (src : AlarmSource) (current : AlarmClass) (pattern : Option Nat) : State :=
  if current = .none then s
  else
    s.setRecords (putByKey AlarmRecord.key (raiseRecord (s.alarmRecord src.number) src current pattern) s.alarms.records)
      (decide (current = .lockdown))

/-- A source becomes inactive (R148): RAISED becomes STANDING, and an ACKED record is retired. -/
def State.sourceDown (s : State) (src : AlarmSource) : State :=
  match s.alarmRecord src.number with
  | none => s
  | some r =>
    match r.state with
    | .raised =>
      s.setRecords (putByKey AlarmRecord.key { r with state := .standing, current := .none } s.alarms.records) false
    | .acked => s.setRecords (dropKey AlarmRecord.key src.number s.alarms.records) false
    | .standing => s

/-- A change of one of the sources 1 to 22 handed by its owner (R143, R144). What is no change hands nothing. -/
def State.hand (s : State) (o : Owned) (active : Bool) : State :=
  if (s.alarms.sources.get o).active = active then s
  else
    let current : AlarmClass := if active then s.params.sourceClasses.get o else .none
    let t := { s with alarms := { s.alarms with sources := s.alarms.sources.set o ⟨active, current⟩ } }
    if active then t.sourceUp (.owned o) current none else t.sourceDown (.owned o)

/-- The vault full sources handed as the vault records stand (R56, R57). -/
def State.handVaults (s : State) : State :=
  (s.hand .rejectFull s.rejectVault.full).hand .intakeFull s.intakeVault.full

/-! ### The LOCAL source -/

/-- The LOCAL class of a pattern (R142). -/
def State.localClass (s : State) (pattern : BitVec 6) : AlarmClass := s.params.classTable.getD pattern.toNat .none

/-- The LOCAL record changed in place while the source stays active (R147). -/
def AlarmRecord.reclass (r : AlarmRecord) (current : AlarmClass) (pattern : Nat) : AlarmRecord :=
  { r with classes := r.classes.add current, current := current, pattern := some pattern,
           state := if r.state = .acked ∧ r.highest.rank < current.rank ∧ ¬ r.classes.has current then .raised
             else r.state }

/-- The pattern or the class table has changed, and the LOCAL source takes the class of the pattern (R144, R147, R157). While
DURESS holds, each duress input that joins the pattern claims its marks (R156); one that joins it by the change that clears
DURESS claims none (DESIGN CHOICE, log entry 36). -/
def State.reclassInputs (s : State) (pattern : BitVec 6) : State :=
  let was : AlarmClass := s.alarms.inputs.current
  let now : AlarmClass := s.localClass pattern
  let t := { s with alarms := { s.alarms with pattern := pattern, inputs := ⟨decide (now ≠ AlarmClass.none), now⟩ } }
  let t :=
    if was = .none then t.sourceUp .inputs now (some pattern.toNat)
    else if now = .none then t.sourceDown .inputs
    else
      match t.alarmRecord 0 with
      | none => t
      | some r =>
        t.setRecords (putByKey AlarmRecord.key (r.reclass now pattern.toNat) t.alarms.records)
          (decide (now = AlarmClass.lockdown) && !r.classes.lockdown)
  if s.alarms.duress ∧ t.alarms.duress then
    t.markTicketsOf fun p => duressInput pattern p && !duressInput s.alarms.pattern p
  else t

/-- The judged level of one input by its last three samples: the level at least two of them hold (R141). -/
def majority (x y z : Bool) : Bool := (x && y) || (x && z) || (y && z)

/-- The pattern of three samples (R141). -/
def majorityOf (x y z : BitVec 6) : BitVec 6 := (x &&& y) ||| (x &&& z) ||| (y &&& z)

end Sys2Proof.Machine
end

