-- ==== Sys2Proof/Machine/Tags.lean ====
section
/-! DEFINITION. The Cassette Bank's shared operations: the tag's bytes (R192), the Tag Link (R38 to R40), the judgment of a
tag (R42, R43), the counts of a position (R44 to R48), the retiring slot (R36) and the removal (R53). -/

namespace Sys2Proof.Machine

/-! ### The tag (R192) -/

/-- The byte at an address of a tag image. -/
def tagByte (image : List Byte) (a : Nat) : Nat := (image.getD a 0).toNat

/-- The two-byte field at an address, high byte first. -/
def tagPair (image : List Byte) (a : Nat) : Nat := 256 * tagByte image a + tagByte image (a + 1)

/-- The modulo-256 sum of the bytes (R39). -/
def byteSum (bytes : List Byte) : Byte := bytes.foldl (· + ·) 0

/-- The identity fields a tag holds (R192). -/
def Identity.ofTag (image : List Byte) : Identity :=
  { serial := image.take 8, code := tagByte image 0x08, noteValue := tagPair image 0x09, capacity := tagPair image 0x0B,
    thickness := tagByte image 0x0D, length := tagByte image 0x0E, recycle := decide (tagByte image 0x0F ≠ 0),
    image := image }

/-- The balance count on a tag (R192). -/
def tagBalance (image : List Byte) : Nat := tagPair image 0x10

/-- The "count point open" mark on a tag (R192). -/
def tagOpenMark (image : List Byte) : Bool := decide (tagByte image 0x14 ≠ 0)

/-- A two-byte field written at an address, high byte first. -/
def setPair (image : List Byte) (a v : Nat) : List Byte :=
  (image.set a (BitVec.ofNat 8 (v / 256))).set (a + 1) (BitVec.ofNat 8 v)

/-- The checksum byte formed anew (R40, R192). -/
def withChecksum (image : List Byte) : List Byte := image.set 0x3F (0 - byteSum (image.take 0x3F))

/-- The image a write writes (R40, R192). -/
def writeImage (kind : TransferKind) (count : Nat) (image : List Byte) : List Byte :=
  match kind with
  | .identityRead => image
  | .markWrite => withChecksum (image.set 0x14 1)
  | .countWriteBack number => withChecksum ((setPair (setPair image 0x10 count) 0x12 number).set 0x14 0)

/-! ### The Tag Link (R38) -/

/-- Whether two transfers are of one kind for one position, so that the second joins the first. -/
def Transfer.joins (x y : Transfer) : Bool :=
  decide (x.position = y.position)
    && match x.kind, y.kind with
       | .identityRead, .identityRead => true
       | .markWrite, .markWrite => true
       | .countWriteBack _, .countWriteBack _ => true
       | _, _ => false

/-- The line taken by the oldest waiting transfer, if it is free (R38). A write's image is formed at this moment (R40). -/
def State.pumpTags (s : State) : State :=
  match s.tagLink.inFlight, s.tagLink.queue with
  | none, x :: rest =>
    let image := match (s.slot x.position).identity with
      | some k => writeImage x.kind (s.slot x.position).count k.image
      | none => []
    { s with tagLink := ⟨rest, some ⟨x, image⟩⟩ }
  | _, _ => s

/-- A transfer asked of the Tag Link: queued behind the others, or joined to one of its kind (R38). -/
def State.askTag (s : State) (kind : TransferKind) (p : Pos) : State :=
  let x : Transfer := ⟨kind, p⟩
  if s.tagLink.queue.any x.joins || (s.tagLink.inFlight.any fun f => x.joins f.transfer) then s
  else { s with tagLink := { s.tagLink with queue := s.tagLink.queue ++ [x] } }.pumpTags

/-- Every transfer waiting or in flight for a position. -/
def State.transfersOf (s : State) (p : Pos) : List Transfer :=
  (s.tagLink.queue ++ (s.tagLink.inFlight.map InFlight.transfer).toList).filter fun x => decide (x.position = p)

/-- The removal of a cassette cuts every transfer of its position, and the line goes to the next transfer (R38). -/
def State.cutTags (s : State) (p : Pos) : State :=
  { s with tagLink :=
      { queue := s.tagLink.queue.filter fun x => decide (x.position ≠ p),
        inFlight := s.tagLink.inFlight.filter fun f => decide (f.transfer.position ≠ p) } }.pumpTags

/-- The line freed at the end of the transfer it carried (R38). -/
def State.endTransfer (s : State) : State := { s with tagLink := { s.tagLink with inFlight := none } }.pumpTags

/-- How an identity read has gone so far (R39): good with its bytes, failed with its reason, or not ended. -/
inductive ReadOutcome
  | good (bytes : List Byte)
  | failed (why : RefusedReason)
  | unfinished
  deriving DecidableEq, Repr

/-- Whether a try brought the 64 bytes of a tag with a sum of 0 (R39). -/
def goodTry : TagTry → Bool
  | some bytes => decide (bytes.length = 64) && decide (byteSum bytes = 0)
  | none => false

/-- Whether a try ended with a bad checksum: all 64 bytes read and the sum not 0 (R39). -/
def badChecksum : TagTry → Bool
  | some bytes => decide (bytes.length = 64) && decide (byteSum bytes ≠ 0)
  | none => false

/-- The outcome of an identity read by its tries, of which three at most are made (R39). -/
def readOutcome (tries : List TagTry) : ReadOutcome :=
  match (tries.take 3).find? goodTry with
  | some (some bytes) => .good bytes
  | _ =>
    if 3 ≤ tries.length then
      if (tries.take 3).any badChecksum then .failed .tagChecksum else .failed .tagUnreadable
    else .unfinished

/-- The outcome of a write by the read-backs of its tries, of which two at most are made: success when one equals the new
image, failure when two have ended without, `none` when it has not ended (R40). -/
def writeOutcome (image : List Byte) (tries : List TagTry) : Option Bool :=
  if (tries.take 2).any (fun t => decide (t = some image)) then some true
  else if 2 ≤ tries.length then some false
  else none

/-! ### Judging a cassette (R42, R43) -/

/-- Step 2 of R42: the code is an entry of the denomination table, and the tag's note value is the table's. -/
def State.denominationFits (s : State) (k : Identity) : Bool :=
  match Code.ofNat? k.code with
  | some c => decide (s.params.denominations.get c = some k.noteValue)
  | none => false

/-- Steps 2 to 4 of R42: the reason of the first check that fails. -/
def State.judgeIdentity (s : State) (k : Identity) : Option RefusedReason :=
  if ¬ s.denominationFits k then some .denomination
  else if ¬ (100 ≤ k.capacity ∧ k.capacity ≤ 3000 ∧ tagBalance k.image ≤ k.capacity) then some .capacity
  else if ¬ (50 ≤ k.thickness ∧ k.thickness ≤ 250 ∧ 100 ≤ k.length ∧ k.length ≤ 200) then some .gaugeReference
  else none

/-- The slot of a cassette accepted by R42; the committed notes stay (R17). -/
def Slot.accepted (k : Identity) (lowLevel committed : Nat) : Slot :=
  { Slot.empty with
    state := .inService, identity := some k, base := tagBalance k.image, count := tagBalance k.image,
    committed := committed, low := decide (tagBalance k.image ≤ lowLevel),
    depleted := if tagBalance k.image = 0 then .zero else .clear,
    unverified := tagOpenMark k.image, markOwed := !tagOpenMark k.image }

/-- The slot of a cassette refused (R42, R43): its counts and flags are cleared, the committed notes stay. -/
def Slot.refusedAs (why : RefusedReason) (k : Option Identity) (committed : Nat) : Slot :=
  { Slot.empty with state := .refused, refused := some why, identity := k, committed := committed }

/-- A tag read good, judged by steps 2 to 4 of R42. Acceptance makes the position's cassette tamper source inactive (R54). -/
def State.judgeCassette (s : State) (p : Pos) (k : Identity) : State :=
  match s.judgeIdentity k with
  | some why => s.putSlot p (Slot.refusedAs why (some k) (s.slot p).committed)
  | none =>
    (s.putSlot p (Slot.accepted k (s.params.lowLevels.get p) (s.slot p).committed)).hand (.cassetteTamper p) false

/-- A position judged again after a change of the denomination table (R43). -/
def State.rejudge (s : State) (p : Pos) : State :=
  let x := s.slot p
  match x.identity with
  | none => s
  | some k =>
    let tag := Identity.ofTag k.image
    match x.state with
    | .inService | .suspended | .unlocked =>
      if s.denominationFits tag then s.putSlot p { x with identity := some { k with noteValue := tag.noteValue } }
      else s.putSlot p (Slot.refusedAs .denomination (some tag) x.committed)
    | .refused =>
      if x.refused = some .denomination ∧ s.denominationFits tag then s.judgeCassette p tag else s
    | .absent | .identifying | .releasePending => s

/-! ### Counting picks and stores -/

/-- The gauge results (R72). -/
inductive GaugeResult
  | single | double | skew | multiple | miss
  deriving DecidableEq, Repr

/-- The notes a result removes (R44, R72). -/
def GaugeResult.removed : GaugeResult → Nat
  | .single => 1
  | .skew => 1
  | .double => 2
  | .multiple => 2
  | .miss => 0

/-- Whether a result is a fail in the quality window (R44). -/
def GaugeResult.fails : GaugeResult → Bool
  | .single => false
  | .skew | .double | .multiple | .miss => true

/-- The notes a result sends to the reject vault (R55, R72). -/
def GaugeResult.rejected : GaugeResult → Nat
  | .skew => 1
  | .double => 2
  | .multiple => 2
  | .single => 0
  | .miss => 0

/-- Picked out and stored in lowered by the smaller of the two when the one to rise would pass 65535 (R34). -/
def Slot.relieve (x : Slot) (next : Nat) : Slot :=
  if Config.max16 < next then
    { x with pickedOut := x.pickedOut - min x.pickedOut x.storedIn, storedIn := x.storedIn - min x.pickedOut x.storedIn }
  else x

/-- A pick that takes n notes of the count (R44). Picked out and stored in are lowered once for the whole pick (R34). -/
def Slot.takeOut (n : Nat) (x : Slot) : Slot :=
  let y := x.relieve (x.pickedOut + n)
  { y with count := y.count - n, pickedOut := y.pickedOut + n, totalPickedOut := addUpTo Config.max16 y.totalPickedOut n }

/-- The notes of a result removed (R44): those that the count holds lower it, and those beyond it count as overrun. -/
def Slot.removeNotes (n : Nat) (x : Slot) : Slot :=
  let taken := min n x.count
  let y := if taken = 0 then x else x.takeOut taken
  if taken < n then { y with overrun := addUpTo 255 y.overrun (n - taken) } else y

/-- One note stored (R45), in the count and the stored-in fields. -/
def Slot.addNote (x : Slot) : Slot :=
  let y := x.relieve (x.storedIn + 1)
  { y with count := y.count + 1, storedIn := y.storedIn + 1, totalStoredIn := addUpTo Config.max16 y.totalStoredIn 1 }

/-- The miss run after a result, with the depleted flag it sets when it reaches 3 (R44, R46). -/
def Slot.countMiss (r : GaugeResult) (x : Slot) : Slot :=
  if r = .miss then
    { x with missRun := min 3 (x.missRun + 1), depleted := if 3 ≤ x.missRun + 1 then .misses else x.depleted }
  else { x with missRun := 0 }

/-- A pick result applied to the in-service slot, in the order of R44: the count with overrun, uncertain and depleted; the
quality window with suspension (R49); the miss run; the low flag. -/
def Slot.takeResult (threshold lowLevel : Nat) (r : GaugeResult) (x : Slot) : Slot :=
  let y : Slot := Slot.removeNotes r.removed x
  let y : Slot := if r = .multiple ∨ x.count < r.removed then y.setUncertain else y
  let y : Slot := if 0 < x.count ∧ y.count = 0 then { y with depleted := y.depleted.atZero } else y
  (((y.addOutcome r.fails).judgeQuality threshold).countMiss r).formLow lowLevel

/-- A store applied to the in-service slot (R45). -/
def Slot.takeStore (lowLevel : Nat) (x : Slot) : Slot :=
  let y : Slot := x.addNote
  { y with depleted := if y.depleted = Depleted.zero then .clear else y.depleted }.formLow lowLevel

/-- A retiring copy changed by a result or a store that was in flight at the removal (R36). -/
def State.changeCopy (s : State) (p : Pos) (f : Slot → Slot) : State :=
  { s with retiring := s.retiring.set p ((s.retiring.get p).map fun c => { c with slot := f c.slot }) }

/-- The reject vault changed, and its full source handed (R55, R56). -/
def State.changeRejectVault (s : State) (f : RejectVault → RejectVault) : State :=
  { s with rejectVault := f s.rejectVault }.handVaults

/-- The Cassette Bank's part of a gauge result at a position (R44, R48, R55, R170): the slot, the retiring copy or the written
off count by where the cassette now stands; the mark write that is owed; the reject vault. Its full source is handed before a
store claim waiting for D is answered "not fit", so a LOCKDOWN that it brings withdraws the claim (DESIGN CHOICE, log entry
30). -/
def State.countPick (s : State) (p : Pos) (r : GaugeResult) : State :=
  let s :=
    match s.picker.fedFrom with
    | .slot =>
      let x := (s.slot p).takeResult s.params.suspendThreshold (s.params.lowLevels.get p) r
      if x.markOwed then (s.putSlot p { x with markOwed := false }).askTag .markWrite p else s.putSlot p x
    | .copy => s.changeCopy p (Slot.removeNotes r.removed)
    | .gone =>
      { s with countPoint :=
          { s.countPoint with writtenOff := s.countPoint.writtenOff.raise Config.max16 r.removed } }
  let s := if 0 < r.rejected then s.changeRejectVault fun v => v.addPicks r.rejected else s
  s.recheckGate

/-- The Cassette Bank's part of a note placed in D (R45, R170). -/
def State.countStore (s : State) : State :=
  let s :=
    match s.intakeRec.storedTo with
    | .slot => s.putSlot .d ((s.slot .d).takeStore (s.params.lowLevels.get .d))
    | .copy => s.changeCopy .d Slot.addNote
    | .gone =>
      { s with countPoint := { s.countPoint with storedAfter := s.countPoint.storedAfter.raise Config.max16 1 } }
  s.recheckGate

/-! ### The retiring slot and the removal -/

/-- The value of a slot's notes. -/
def Slot.cashValue (x : Slot) : Nat := x.count * ((x.identity.map Identity.noteValue).getD 0)

/-- A figure of the carry raised by what an overwritten copy held. What the balance record being completed has taken already
is not carried into the next period (R168). -/
def Since.carry (most : Nat) (taken : Bool) (x : Since) (n : Nat) : Since :=
  if taken then ⟨addUpTo most x.total n, x.late⟩ else x.raise most n

/-- The carry with an overwritten copy added (R36). The value stops at FFFFFFFFh (R189); the notes, which R189 gives three bytes
and no stop, stop at FFFFFFh (DESIGN CHOICE, log entry 8). -/
def Carry.add (c : Carry) (r : Retiring) : Carry :=
  { copies := c.copies.carry 255 r.taken 1, notes := c.notes.carry 0xFFFFFF r.taken r.slot.count,
    value := c.value.carry 0xFFFFFFFF r.taken r.slot.cashValue }

/-- A copy of the slot as it stands put into the retiring slot, an earlier copy being added to the carry (R36). `stale` says
that a tag write was cut (R38). -/
def State.retire (s : State) (p : Pos) (kind : RemovalKind) (stale : Bool) : State :=
  let x := s.slot p
  let copy : Retiring :=
    { slot := { x with tagStale := x.tagStale || stale }, kind := kind, number := s.countPoint.number, taken := false }
  { s with retiring := s.retiring.set p (some copy),
           carries := match s.retiring.get p with
             | some old => s.carries.set p ((s.carries.get p).add old)
             | none => s.carries }

/-- The movements in flight that belong to the cassette of a position follow it into the retiring copy (R44, R45). -/
def State.followRemoval (s : State) (p : Pos) : State :=
  let s :=
    if s.picker.state = .feeding ∧ s.picker.position = some p ∧ s.picker.fedFrom = .slot then
      { s with picker := { s.picker with fedFrom := .copy } }
    else s
  if s.intakeRec.state = .placing ∧ s.intakeRec.destination = some .cassetteD ∧ p = .d ∧ s.intakeRec.storedTo = .slot then
    { s with intakeRec := { s.intakeRec with storedTo := .copy } }
  else s

/-- The removal of a cassette in any state but ABSENT, up to the report of its cut writes (R53): the retiring copy, the slot
cleared with its committed notes kept, the tag transfers cut, a claim waiting for D answered (R60), and the tamper source. The
claim is answered before the source is handed, which may enter LOCKDOWN and would withdraw it (DESIGN CHOICE, log entry 30). -/
def State.remove (s : State) (p : Pos) : State :=
  let x := s.slot p
  let stale := (s.transfersOf p).any fun t => decide (t.kind ≠ .identityRead)
  let s := match x.state with
    | .unlocked => (s.retire p .released stale).followRemoval p
    | .inService | .suspended | .releasePending => (s.retire p .unreleased stale).followRemoval p
    | .absent | .identifying | .refused => s
  let s := s.putSlot p { Slot.empty with committed := x.committed }
  let s := s.cutTags p
  let s := { s with countPoint :=
    { s.countPoint with release := s.countPoint.release.set p false,
                        pendingRelease := s.countPoint.pendingRelease.set p false,
                        written := s.countPoint.written.set p false } }
  let s := s.recheckGate
  match x.state with
  | .inService | .suspended | .releasePending => s.hand (.cassetteTamper p) true
  | .absent | .identifying | .refused | .unlocked => s

/-- A position whose presence line shows a cassette is taken as an insertion: IDENTIFYING, with an identity read queued (R41). -/
def State.insertCassette (s : State) (p : Pos) : State :=
  (s.putSlot p { Slot.empty with state := .identifying, committed := (s.slot p).committed }).askTag .identityRead p

end Sys2Proof.Machine
end

