-- ==== Sys2Proof/Machine/Counting.lean ====
section
/-! DEFINITION. The Count Point Controller's shared operations: requests and merging (R160 to R162), quiet (R93, R118, R164), the
balance moment (R166, R171), the write-backs (R167) and the publish (R52, R165, R168, R169). -/

namespace Sys2Proof.Machine

/-! ### Requests -/

/-- The entry to QUIESCING (R161, R163): the timer starts, the failures are emptied, and the blocks act on the change of state
(R68, R115). -/
def State.enterQuiescing (s : State) (causes : CauseSet) (release : PosSet) : State :=
  { s with countPoint :=
      { s.countPoint with state := .quiescing, causes := causes, timer := some s.params.quiesceTimeout,
                          failures := .empty, release := release } }.pauseWaitingPick.recallWaitingNote

/-- A request with a cause (R161). `release` holds the position of a RELEASE request and is empty otherwise. -/
def State.requestCount (s : State) (c : Cause) (release : PosSet) : State :=
  match s.countPoint.state with
  | .idle => s.enterQuiescing (CauseSet.empty.add c) release
  | .quiescing =>
    { s with countPoint := { s.countPoint with causes := s.countPoint.causes.add c,
                                               release := s.countPoint.release.union release } }
  | .balancing =>
    { s with countPoint := { s.countPoint with pending := true, pendingCauses := s.countPoint.pendingCauses.add c,
                                               pendingRelease := s.countPoint.pendingRelease.union release } }

/-- One settlement counted (R162); PERIODIC is requested when it raises the counter to the periodic count. -/
def State.countSettlement (s : State) : State :=
  let n := addUpTo 250 s.countPoint.settled 1
  let t := { s with countPoint := { s.countPoint with settled := n } }
  if s.countPoint.settled < n ∧ n = s.params.periodicCount then t.requestCount .periodic .empty else t

/-! ### Quiet -/

/-- The Dispense Engine's quiet report (R93). -/
def State.dispenseAtRest (s : State) : Bool :=
  decide (s.picker.state ≠ .feeding) && decide (s.picker.state ≠ .waitingGate) && decide (s.route = .free)
    && decide (s.staging.purge ≠ .running)

/-- Whether an intake placement that changes a count is in motion (R118). -/
def State.placingNote (s : State) : Bool :=
  decide (s.intakeRec.state = .placing)
    && (decide (s.intakeRec.destination = some .cassetteD) || decide (s.intakeRec.destination = some .vault))

/-- The quiet condition (R164). -/
def State.quiet (s : State) : Bool := s.dispenseAtRest && !s.placingNote && decide (s.gate.granted = none)

/-! ### The balance moment -/

/-- A figure of the bundle in a lane's drawer, when its holder is a ticket in PRESENTED or RETRACTING (R93). -/
def State.drawerFigure (s : State) (f : Dispense → Nat) (l : Lane) : Nat :=
  match (s.lane l).holder with
  | some (.ticket n) =>
    match s.dispense n with
    | some d => if d.state = .presented ∨ d.state = .retracting then f d else 0
    | none => 0
  | some .sweep => 0
  | none => 0

/-- The held notes (R93). -/
def State.heldNotes (s : State) : Nat :=
  s.staging.held
    + (match s.route with
       | .delivering _ _ notes _ => notes
       | _ => 0)
    + (Lane.all.map (s.drawerFigure Dispense.presented)).sum

/-- The held value (R93). -/
def State.heldValue (s : State) : Nat :=
  s.staging.value
    + (match s.route with
       | .delivering _ _ _ value => value
       | _ => 0)
    + (Lane.all.map (s.drawerFigure fun d => pickedValue d.plan)).sum

/-- The unresolved notes of the dispute list (R135). -/
def State.unresolvedNotes (s : State) : Nat :=
  (s.disputes.map fun e =>
    match s.dispense e.ticket with
    | some d => d.unresolved
    | none => 0).sum

/-- The balance record formed from the records as they stand (R166, R171). Its result, failures and number are completed at
the publish. -/
def State.formBalance (s : State) (notAtRest : NotAtRest) : Balance :=
  { number := s.countPoint.number, causes := s.countPoint.causes, result := .clean, failures := .empty,
    notAtRest := notAtRest, slots := s.slots, retiring := s.retiring, carries := s.carries, reject := s.rejectVault,
    intake := s.intakeVault, laneCount := s.params.laneCount,
    binCounts := s.lanes.mapWith fun _ r => r.binCount, binVerified := s.lanes.mapWith fun _ r => r.binVerified,
    openTickets := s.tickets.length, heldNotes := s.heldNotes, heldValue := s.heldValue,
    unresolved := s.unresolvedNotes, writtenOff := s.countPoint.writtenOff.total,
    storedAfter := s.countPoint.storedAfter.total }

/-- The carry at the balance moment. -/
def Carry.markMoment (c : Carry) : Carry := ⟨c.copies.markMoment, c.notes.markMoment, c.value.markMoment⟩

/-- The carry at the publish (R36, R168). -/
def Carry.restart (c : Carry) : Carry := ⟨c.copies.restart, c.notes.restart, c.value.restart⟩

/-- The reject vault at the balance moment. -/
def RejectVault.markMoment (v : RejectVault) : RejectVault :=
  { v with sincePick := v.sincePick.markMoment, sinceRetracted := v.sinceRetracted.markMoment,
           sinceSweep := v.sinceSweep.markMoment, emptied := v.emptied.markMoment }

/-- The reject vault at the publish (R168). -/
def RejectVault.publish (v : RejectVault) : RejectVault :=
  { v with sincePick := v.sincePick.restart, sinceRetracted := v.sinceRetracted.restart,
           sinceSweep := v.sinceSweep.restart, emptied := v.emptied.restart, unverified := false }

/-- The intake vault at the balance moment. -/
def IntakeVault.markMoment (v : IntakeVault) : IntakeVault :=
  { v with since := v.since.mapWith fun _ x => x.markMoment, emptied := v.emptied.markMoment }

/-- The intake vault at the publish (R168). -/
def IntakeVault.publish (v : IntakeVault) : IntakeVault :=
  { v with since := v.since.mapWith fun _ x => x.restart, emptied := v.emptied.restart, unverified := false }

/-- The balance moment: the record is formed and held, and what comes after it belongs to the next period (R166, R168). -/
def State.balanceMoment (s : State) (notAtRest : NotAtRest) : State :=
  { s with
    forming := some (s.formBalance notAtRest),
    retiring := s.retiring.mapWith fun _ c => c.map fun r => { r with taken := true },
    carries := s.carries.mapWith fun _ c => c.markMoment,
    rejectVault := s.rejectVault.markMoment,
    intakeVault := s.intakeVault.markMoment,
    countPoint := { s.countPoint with writtenOff := s.countPoint.writtenOff.markMoment,
                                      storedAfter := s.countPoint.storedAfter.markMoment } }

/-! ### The publish -/

/-- The slot of a position with a cassette at the publish: base and counts restart, the write-back's marks are set, reviewed
is set for a CLEAN result (R168), and a position of the release set still in RELEASE_PENDING is decided (R52, R169). -/
def Slot.publish (result : CountResult) (written inRelease : Bool) (x : Slot) : Slot :=
  if x.state.live then
    { x with
      base := x.count, pickedOut := 0, storedIn := 0,
      unverified := x.unverified && !written, markOwed := x.markOwed || written,
      reviewed := x.reviewed || (x.uncertain && decide (result = .clean)),
      state := if inRelease ∧ x.state = .releasePending then
          (if written then .unlocked else x.prior.getD .inService) else x.state,
      prior := if inRelease ∧ x.state = .releasePending then none else x.prior }
  else x

/-- The publish decided for one position. -/
def State.publishSlot (result : CountResult) (s : State) (p : Pos) : State :=
  s.putSlot p ((s.slot p).publish result (s.countPoint.written.get p) (s.countPoint.release.get p))

/-- Whether a movement that counts to a position's retiring copy loses that copy to the publish (R170). -/
def State.loseCopy (s : State) (p : Pos) (x : Source) : Source :=
  match x, s.retiring.get p with
  | .copy, some r => if r.taken then .gone else .copy
  | .copy, none => .gone
  | y, _ => y

/-- The retiring slots emptied of each copy the record took, and the carries of what it took (R168). -/
def State.publishRetiring (s : State) : State :=
  { s with
    picker := { s.picker with fedFrom := match s.picker.position with
      | some p => s.loseCopy p s.picker.fedFrom
      | none => s.picker.fedFrom },
    intakeRec := { s.intakeRec with storedTo := s.loseCopy .d s.intakeRec.storedTo },
    retiring := s.retiring.mapWith fun _ c => c.filter fun r => !r.taken,
    carries := s.carries.mapWith fun _ c => c.restart }

/-- The count point number after a publish (R168). -/
def nextCountNumber (n : Nat) : Nat := if n < Config.max16 then n + 1 else 1

/-- The publish (R168): the balance record is completed and replaced, the owners act, and the wall enters SERVICE when START is
among the causes (R183). Then the state is IDLE, or QUIESCING for the pending count point (R161). -/
def State.publish (s : State) (result : CountResult) : State :=
  let number := nextCountNumber s.countPoint.number
  let record := s.forming.map fun b => { b with number := number, result := result, failures := s.countPoint.failures }
  let start := s.countPoint.causes.start
  let t := (Pos.all.foldl (State.publishSlot result) s).publishRetiring
  let t := { t with
    rejectVault := t.rejectVault.publish, intakeVault := t.intakeVault.publish, balance := record, forming := none,
    wall := if start then { t.wall with service := true, starting := false } else t.wall,
    countPoint := { t.countPoint with
      state := .idle, causes := .empty, number := number, timer := none, writeBack := .empty, written := .empty,
      release := .empty, settled := 0, writtenOff := t.countPoint.writtenOff.restart,
      storedAfter := t.countPoint.storedAfter.restart } }
  let t := t.place .balance
  if t.countPoint.pending then
    { t with countPoint := { t.countPoint with pending := false, pendingCauses := .empty, pendingRelease := .empty } }.enterQuiescing
      t.countPoint.pendingCauses t.countPoint.pendingRelease
  else t

/-- The result by the write-backs (R167). -/
def CountPoint.resultOf (c : CountPoint) : CountResult := if c.failures.isEmpty then .clean else .tagWriteFailed

/-- BALANCING publishes when the write-back set is empty (R167). -/
def State.publishIfWritten (s : State) : State :=
  if s.countPoint.state = .balancing ∧ s.countPoint.writeBack.isEmpty then s.publish s.countPoint.resultOf else s

/-- The outcome of a count write-back handed to the Count Point Controller (R167). -/
def State.handWriteBack (s : State) (p : Pos) (ok : Bool) : State :=
  let c := s.countPoint
  { s with countPoint :=
      { c with writeBack := c.writeBack.set p false,
               written := if ok then c.written.set p true else c.written,
               failures := if ok then c.failures else c.failures.set p true } }.publishIfWritten

/-- The positions whose counts are written back (R166). -/
def State.writeBackSet (s : State) : PosSet :=
  s.slots.mapWith fun _ x => decide (x.state = .inService ∨ x.state = .suspended ∨ x.state = .releasePending)

/-- Quiet found (R164, R166): the balance moment, and a count write-back asked for each position of the write-back set, in the
order A to D. With the set empty the count point publishes at once (R167). -/
def State.enterBalancing (s : State) : State :=
  let t := s.balanceMoment ⟨false, false, false, false⟩
  let t := { t with countPoint :=
    { t.countPoint with state := .balancing, timer := none, writeBack := t.writeBackSet, written := .empty } }
  let number := nextCountNumber t.countPoint.number
  (Pos.all.foldl (fun u p => if t.writeBackSet.get p then u.askTag (.countWriteBack number) p else u) t).publishIfWritten

/-- The quiesce timer's expiry (R165): the record is formed at this moment with its not-at-rest list, and published
TIMED_OUT. -/
def State.timeOutCount (s : State) : State :=
  (s.balanceMoment
    { picker := decide (s.picker.state = .feeding ∨ s.picker.state = .waitingGate), route := decide (s.route ≠ .free),
      purge := decide (s.staging.purge = .running), intake := s.placingNote }).publish .timedOut

end Sys2Proof.Machine
end

