-- ==== Sys2Proof/Machine/Forming.lean ====
section
/-! DEFINITION. The values the blocks form anew at each change of their inputs: the desired drawer (R86), slot (R97) and lamp
(R22, R98) of each lane, the values after the LOCKDOWN override (R124), and the committed notes of each position (R17). The
reference keeps them in the records, so they stand in State; `State.reform` writes them, at the end of every step that can
change an input. The output lines, which follow the records at every moment, are functions of State. -/

namespace Sys2Proof.Machine

/-- Whether a number is that of a DISPENSE ticket with its lane lost flag set. -/
def State.laneLost (s : State) (n : Nat) : Bool :=
  match s.dispense n with
  | some d => d.laneLost
  | none => false

/-- The desired drawer value of a lane (R86): the first row that applies, by the last drawer report handed to the Dispense Engine
(R130). Row 1 comes before the sentence that a lane with a retract is desired LOCKED (DESIGN CHOICE, log entry 28). -/
def State.formDrawer (s : State) (l : Lane) : DrawerValue :=
  match s.presentations.get l with
  | some p =>
    if p.closeAsked ∧ (s.lane l).handedDrawer ≠ some .locked then .closing
    else if ¬ p.decided ∧ ¬ p.closeAsked ∧ (s.lane l).link = .online ∧ ¬ s.laneLost p.ticket ∧ ¬ s.alarms.lockdown then
      .unlocked
    else .locked
  | none => .locked

/-- Whether a ticket is an ENVELOPE ticket of a lane in AWAITING_ENVELOPE. -/
def Ticket.awaitsEnvelope (l : Lane) (t : Ticket) : Bool :=
  decide (t.lane = l)
    && match t.body with
       | .envelope e => decide (e.state = .awaitingEnvelope)
       | .dispense _ => false
       | .intake _ => false

/-- Whether a lane has an ENVELOPE ticket in AWAITING_ENVELOPE. -/
def State.awaitsEnvelope (s : State) (l : Lane) : Bool := s.tickets.any (Ticket.awaitsEnvelope l)

/-- Whether an idle slot is desired OPEN (R97). -/
def State.slotMayOpen (s : State) (l : Lane) : Bool :=
  s.wall.service && (s.awaitsEnvelope l || (s.params.autoEnvelope && s.hasFreeEntry)) && (s.lane l).binVerified
    && decide ((s.lane l).binCount < Config.binSize) && !s.alarms.lockdown && decide ((s.lane l).link ≠ .faulted)
    && !(s.lane l).unheard

/-- The desired slot value of a lane (R97). -/
def State.formSlot (s : State) (l : Lane) : SlotValue :=
  match (s.handlings.get l).state with
  | .capturing => .capture
  | .returning => .giveBack
  | .jammed => .closed
  | .idle => if s.slotMayOpen l then .opened else .closed

/-- Whether a ticket is an INTAKE ticket of a lane in COLLECTING. -/
def Ticket.collectsAt (l : Lane) (t : Ticket) : Bool :=
  decide (t.lane = l)
    && match t.body with
       | .intake k => decide (k.state = .collecting)
       | .dispense _ => false
       | .envelope _ => false

/-- The Deposit Unit's claim of the lamp value DEPOSIT (R98). -/
def State.claimsDeposit (s : State) (l : Lane) : Bool :=
  (s.awaitsEnvelope l && decide (s.formSlot l = .opened)) || decide ((s.handlings.get l).state = .capturing)
    || s.tickets.any (Ticket.collectsAt l)

/-- The desired lamp value of a lane (R22): the first row that applies. -/
def State.formLamp (s : State) (l : Lane) : Lamp :=
  if ¬ s.wall.service ∨ s.alarms.lockdown then .laneClosed
  else if s.formDrawer l = .unlocked then .take
  else if s.claimsDeposit l then .deposit
  else if (s.lane l).link = .online ∧ s.params.busyLevel ≤ s.pickQueue.length then .wait
  else .idle

/-- The effective drawer value (R124). -/
def State.overrideDrawer (s : State) (l : Lane) : DrawerValue :=
  if s.alarms.lockdown then
    if (s.lane l).repDrawer = some .opened then .closing else .locked
  else s.formDrawer l

/-- The effective slot value (R124). -/
def State.overrideSlot (s : State) (l : Lane) : SlotValue := if s.alarms.lockdown then .closed else s.formSlot l

/-- The formed values of one lane record. -/
def State.formLane (s : State) (l : Lane) (r : LaneRec) : LaneRec :=
  { r with desiredDrawer := s.formDrawer l, desiredSlot := s.formSlot l, desiredLamp := s.formLamp l,
           effDrawer := s.overrideDrawer l, effSlot := s.overrideSlot l }

/-- Every formed value written anew. -/
def State.reform (s : State) : State :=
  { s with lanes := s.lanes.mapWith s.formLane,
           slots := s.slots.mapWith fun p x => { x with committed := s.committedAt p } }

/-- Every formed value stands as its rule forms it. -/
def State.formed (s : State) : Bool := decide (s.reform = s)

/-! ### The output lines (pin summary, R35, R62, R64, R158, R173, R178) -/

/-- RDY is high while the port is READY (R173). -/
def State.rdyHigh (s : State) : Bool := decide (s.port.state = .ready)

/-- ATTN is high while the attention reason set holds any reason (R178). -/
def State.attnHigh (s : State) : Bool := s.reasons.any

/-- The DURESS line (R158). -/
def State.duressHigh (s : State) : Bool := s.alarms.duress

/-- The lockdown relay LKRLY (R158). -/
def State.relayEnergised (s : State) : Bool := s.alarms.lockdown

/-- The lock output of a position is driven open in ABSENT, REFUSED and UNLOCKED (R35). -/
def State.lockOpen (s : State) (p : Pos) : Bool :=
  match (s.slot p).state with
  | .absent | .refused | .unlocked => true
  | .identifying | .inService | .suspended | .releasePending => false

/-- The feed line of a position is driven in FEEDING for the position named (R62). -/
def State.feedDriven (s : State) (p : Pos) : Bool :=
  decide (s.picker.state = .feeding) && decide (s.picker.position = some p)

/-- The tag select lines: the position of the transfer in flight (R38). -/
def State.tagSelect (s : State) : Option Pos := s.tagLink.inFlight.map fun f => f.transfer.position

/-- The belt runs while the route is not FREE (R64). -/
def State.beltRuns (s : State) : Bool := decide (s.route ≠ .free)

/-- What the diverter lines name (R64, R82, R84, R91). -/
inductive Diverter
  | still
  | toDrawer (l : Lane)
  | fromDrawer (l : Lane)
  | reject
  deriving DecidableEq, Repr

/-- The diverter setting (R64). What the lines name while the route is FREE is not said: the model shows that they are not
moved (DESIGN CHOICE, log entry 27). -/
def State.diverter (s : State) : Diverter :=
  match s.route with
  | .free => .still
  | .delivering l _ _ _ => .toDrawer l
  | .retracting l _ _ _ => .fromDrawer l
  | .sweeping => .reject

/-- The setting of SGATE: the reject path in a running purge (R79), the route in a transport sweep (R91), and else as the last
note that passed the gauge was turned (R72). Where the gate stands at rest and in a delivery is not said (DESIGN CHOICE, log
entry 26). -/
def State.stagingGate (s : State) : StagingGate :=
  if s.staging.purge = .running then .toReject
  else
    match s.route with
    | .sweeping => .toRoute
    | .free | .delivering _ _ _ _ | .retracting _ _ _ _ => s.sgate

end Sys2Proof.Machine
end

