-- ==== Sys2Proof/Machine/Formats.lean ====
section
/-! DEFINITION. The layouts of the responses and of the ring words (chapter 9), and the payload each reading request returns. -/

namespace Sys2Proof.Machine

/-! ### Codings (R186 to R190) -/

/-- The status codes (R186). -/
def Status.code : Status → Nat
  | .ok => 0x00
  | .notFound => 0x01
  | .badState => 0x02
  | .tableFull => 0x03
  | .range => 0x04
  | .valueMismatch => 0x05
  | .short => 0x06
  | .unavailable => 0x07
  | .samePosition => 0x08
  | .notInService => 0x09
  | .locked => 0x0A
  | .busy => 0x0B
  | .badFrame => 0x0C
  | .unknownRequest => 0x0D

/-- The bytes of a response frame (R186). -/
def Response.frame (r : Response) : List Byte :=
  withCrc (beBytes 1 r.status.code ++ beBytes 2 r.payload.length ++ r.payload)

/-- A flag in one byte: 01h set and 00h clear, also for the flags to which chapter 9 gives no values (DESIGN CHOICE, log entry
40). -/
def flagByte (b : Bool) : List Byte := beBytes 1 b.toNat

/-- A field of k bytes that may be absent: all ones when it is (R187). -/
def optBytes (k : Nat) : Option Nat → List Byte
  | some v => beBytes k v
  | none => List.replicate k 0xFF

/-- A flag in one byte that may be absent: 01h set, 00h clear (DESIGN CHOICE, log entry 40) and FFh absent (R187). -/
def optFlag (b : Option Bool) : List Byte := optBytes 1 (b.map Bool.toNat)

/-- The codes of the DISPENSE states (R188). -/
def DispenseState.code : DispenseState → Nat
  | .awaitingSecond => 0x01
  | .queued => 0x02
  | .picking => 0x03
  | .pickHalted => 0x04
  | .purging => 0x05
  | .staged => 0x06
  | .routing => 0x07
  | .presented => 0x08
  | .retracting => 0x09
  | .disputed => 0x0A
  | .delivered => 0x0B
  | .returned => 0x0C
  | .voided => 0x0D
  | .expired => 0x0E
  | .resolved => 0x0F

/-- The codes of the ENVELOPE states (R188). -/
def EnvelopeState.code : EnvelopeState → Nat
  | .awaitingEnvelope => 0x10
  | .capturing => 0x11
  | .jammed => 0x12
  | .envelopeHeld => 0x13
  | .voided => 0x0D

/-- The codes of the INTAKE states (R188). -/
def IntakeState.code : IntakeState → Nat
  | .readyIntake => 0x18
  | .collecting => 0x19
  | .counted => 0x1A
  | .voided => 0x0D

/-- The state code of a ticket (R188). -/
def Ticket.stateCode (t : Ticket) : Nat :=
  match t.body with
  | .dispense d => d.state.code
  | .envelope e => e.state.code
  | .intake k => k.state.code

/-- The kind code of a ticket (R188). -/
def Ticket.kindCode (t : Ticket) : Nat :=
  match t.body with
  | .dispense _ => 1
  | .envelope _ => 2
  | .intake _ => 3

/-- The halt reason codes (R188). -/
def HaltReason.code : HaltReason → Nat
  | .depleted => 1
  | .suspended => 2
  | .notReady => 3
  | .rejectFull => 4
  | .rejects => 5
  | .removed => 6

/-- The position state codes (R189). -/
def PosState.code : PosState → Nat
  | .absent => 0
  | .identifying => 1
  | .refused => 2
  | .inService => 3
  | .suspended => 4
  | .releasePending => 5
  | .unlocked => 6

/-- The refused reason codes (R189). -/
def RefusedReason.code : RefusedReason → Nat
  | .tagUnreadable => 1
  | .tagChecksum => 2
  | .denomination => 3
  | .capacity => 4
  | .gaugeReference => 5

/-- The depleted codes (R189). -/
def Depleted.code : Depleted → Nat
  | .clear => 0
  | .zero => 1
  | .misses => 2

/-- The bits of a list of flags, bit 0 first. -/
def flagMask : List Bool → Nat
  | [] => 0
  | b :: bs => b.toNat + 2 * flagMask bs

/-! ### Tickets (R188) -/

/-- The ticket's number and its state after the request (R5, R187). -/
def ticketAnswer (s : State) (n : Nat) : List Byte :=
  beBytes 2 n ++ beBytes 1 ((s.ticket n).elim 0 Ticket.stateCode)

/-- The ticket's place in the pick queue, 1 for the oldest, when it is QUEUED (R30). -/
def State.queuePlace (s : State) (n : Nat) : Option Nat :=
  if s.pickQueue.contains n then some (s.pickQueue.idxOf n + 1) else none

/-- One segment of a LOOKUP payload. -/
def Segment.bytes (g : Segment) : List Byte :=
  beBytes 1 g.position.number ++ beBytes 1 g.notes ++ beBytes 1 g.picked ++ beBytes 2 g.value

/-- The amount of a ticket, absent for an envelope with none declared (R2). -/
def Ticket.amount (t : Ticket) : Option Nat :=
  match t.body with
  | .dispense d => some d.amount
  | .envelope e => e.amount
  | .intake k => some k.amount

/-- The codes of a deadline: its kind and its seconds (R188). -/
def deadlineBytes : Option Deadline → List Byte
  | none => beBytes 1 0 ++ optBytes 2 none
  | some ⟨.approval, n⟩ => beBytes 1 1 ++ beBytes 2 n
  | some ⟨.take, n⟩ => beBytes 1 2 ++ beBytes 2 n

/-- The kind's part of a LOOKUP payload. -/
def State.bodyBytes (s : State) (n : Nat) : TicketBody → List Byte
  | .dispense d =>
    flagByte d.dualRequired ++ beBytes 1 d.first.number ++ optBytes 1 (d.second.map Teller.number)
      ++ optBytes 1 (s.queuePlace n) ++ beBytes 1 d.goodPicked ++ beBytes 2 d.rejectPicks ++ beBytes 1 d.presented
      ++ beBytes 1 d.delivered ++ beBytes 1 d.retracted ++ beBytes 1 d.unresolved
      ++ optBytes 1 (d.halt.map HaltReason.code) ++ beBytes 1 (flagMask [d.laneLost, d.recalled])
      ++ deadlineBytes d.deadline ++ beBytes 1 d.plan.length ++ d.plan.flatMap Segment.bytes
  | .envelope e => optBytes 1 e.sequence
  | .intake k =>
    let entries := Code.all.filter fun c => decide (0 < k.accepted.get c)
    beBytes 2 k.recycled ++ beBytes 2 k.vaulted ++ beBytes 2 k.returned ++ beBytes 1 entries.length
      ++ entries.flatMap fun c => beBytes 1 c.number ++ beBytes 2 (k.accepted.get c)

/-- The LOOKUP payload (R30, R188). An absent duress mark is sent as the mask with no bit, 00h, and not as the all ones of an absent
field (DESIGN CHOICE, log entry 39). -/
def State.lookupBytes (s : State) (t : Ticket) : List Byte :=
  beBytes 2 t.number ++ beBytes 1 t.kindCode ++ beBytes 1 t.lane.number ++ beBytes 1 t.stateCode
    ++ optBytes 1 (t.opener.map Teller.number) ++ beBytes 1 (flagMask [t.mark.a, t.mark.b]) ++ optBytes 3 t.amount
    ++ s.bodyBytes t.number t.body

/-- The LIST payload from a starting number (R31, R188). -/
def State.listBytes (s : State) (start : Nat) : List Byte :=
  let found := s.tickets.filter fun t => decide (start ≤ t.number)
  let shown := found.take 16
  flagByte (decide (16 < found.length)) ++ beBytes 1 shown.length
    ++ shown.flatMap fun t => beBytes 2 t.number ++ beBytes 1 t.kindCode ++ beBytes 1 t.stateCode

/-- The reason mask (R188). -/
def ReasonSet.mask (r : ReasonSet) : Nat :=
  flagMask [r.alarm, r.tickets, r.position, r.lane, r.balance, r.envelopeRefused, r.port]

/-- The READ ATTENTION payload (R179, R188). -/
def State.attentionBytes (s : State) : List Byte :=
  beBytes 1 s.reasons.mask ++ beBytes 1 s.changeSet.length ++ s.changeSet.flatMap (beBytes 2)

/-! ### Positions, vaults and the balance (R189) -/

/-- A count field of a slot, absent in the states that hold none (R34). -/
def Slot.counted (x : Slot) (k v : Nat) : List Byte := optBytes k (if x.state.live then some v else none)

/-- The slot block of 41 bytes (R189). -/
def Slot.block (x : Slot) : List Byte :=
  beBytes 1 x.state.code ++ optBytes 1 (x.refused.map RefusedReason.code)
    ++ (match x.identity with
        | some k => k.serial
        | none => List.replicate 8 0xFF)
    ++ optBytes 1 (x.identity.map Identity.code) ++ optBytes 2 (x.identity.map Identity.noteValue)
    ++ optBytes 2 (x.identity.map Identity.capacity) ++ optBytes 1 (x.identity.map Identity.thickness)
    ++ optBytes 1 (x.identity.map Identity.length) ++ optFlag (x.identity.map Identity.recycle)
    ++ x.counted 2 x.base ++ x.counted 2 x.count ++ x.counted 2 x.pickedOut ++ x.counted 2 x.storedIn
    ++ x.counted 2 x.totalPickedOut ++ x.counted 2 x.totalStoredIn ++ x.counted 1 x.overrun
    ++ beBytes 2 x.committed ++ beBytes 1 x.window.length ++ beBytes 1 (flagMask x.window)
    ++ beBytes 1 x.missRun ++ beBytes 1 x.depleted.code
    ++ beBytes 1 (flagMask [x.low, x.uncertain, x.reviewed, x.unverified, x.tagStale, x.markOwed])
    ++ optBytes 1 (x.prior.map PosState.code) ++ optBytes 1 (x.release.map fun r => r.teller.number)
    ++ optBytes 1 (x.release.map Approval.seconds)

/-- The removal kind codes (R189). -/
def RemovalKind.code : RemovalKind → Nat
  | .released => 1
  | .unreleased => 2

/-- A retiring part: present, and the 44 bytes of the copy or FFh (R189). -/
def retiringBytes : Option Retiring → List Byte
  | some r => flagByte true ++ r.slot.block ++ beBytes 1 r.kind.code ++ beBytes 2 r.number
  | none => flagByte false ++ List.replicate 44 0xFF

/-- An overwritten carry (R189). -/
def Carry.bytes (c : Carry) : List Byte :=
  beBytes 1 c.copies.total ++ beBytes 3 c.notes.total ++ beBytes 4 c.value.total

/-- The POSITION QUERY payload for a position: 160 bytes (R61, R189). -/
def State.positionBytes (s : State) (p : Pos) : List Byte :=
  let x := s.slot p
  x.block ++ beBytes 2 (x.available 0)
    ++ (match x.identity with
        | some k => k.image
        | none => List.replicate 64 0xFF)
    ++ retiringBytes (s.retiring.get p) ++ (s.carries.get p).bytes

/-- The reject vault's record without room: 18 bytes (R189). -/
def RejectVault.bytes (v : RejectVault) : List Byte :=
  beBytes 2 v.pickRejects ++ beBytes 2 v.retracted ++ beBytes 2 v.sweep ++ beBytes 2 v.count
    ++ beBytes 2 v.sincePick.total ++ beBytes 2 v.sinceRetracted.total ++ beBytes 2 v.sinceSweep.total
    ++ beBytes 2 v.emptied.total ++ flagByte v.present ++ flagByte v.unverified

/-- The intake vault's record: 38 bytes (R189). -/
def IntakeVault.bytes (v : IntakeVault) : List Byte :=
  v.entries.toList.flatMap (beBytes 2) ++ beBytes 2 v.total ++ v.since.toList.flatMap (fun x => beBytes 2 x.total)
    ++ beBytes 2 v.emptied.total ++ flagByte v.present ++ flagByte v.unverified

/-- The cause mask (R189). -/
def CauseSet.mask (c : CauseSet) : Nat := flagMask [c.requested, c.release, c.periodic, c.start]

/-- The count point state codes (R187). -/
def CountState.code : CountState → Nat
  | .idle => 0
  | .quiescing => 1
  | .balancing => 2

/-- The result codes (R189). -/
def CountResult.code : CountResult → Nat
  | .clean => 1
  | .tagWriteFailed => 2
  | .timedOut => 3

/-- The bin pairs: FFh pairs for lanes above the lane count (R189). -/
def Balance.binBytes (b : Balance) (l : Lane) : List Byte :=
  if l.number ≤ b.laneCount then beBytes 1 (b.binCounts.get l) ++ flagByte (b.binVerified.get l) else [0xFF, 0xFF]

/-- The balance record after the header (R171, R189). -/
def Balance.bytes (b : Balance) : List Byte :=
  beBytes 2 b.number ++ beBytes 1 b.causes.mask ++ beBytes 1 b.result.code ++ beBytes 1 b.failures.mask
    ++ beBytes 1 (flagMask [b.notAtRest.picker, b.notAtRest.route, b.notAtRest.purge, b.notAtRest.intake])
    ++ b.slots.toList.flatMap Slot.block ++ b.retiring.toList.flatMap retiringBytes
    ++ b.carries.toList.flatMap Carry.bytes ++ b.reject.bytes ++ b.intake.bytes ++ beBytes 1 b.laneCount
    ++ Lane.all.flatMap b.binBytes ++ beBytes 1 b.openTickets ++ beBytes 2 b.heldNotes ++ beBytes 3 b.heldValue
    ++ beBytes 2 b.unresolved ++ beBytes 2 b.writtenOff ++ beBytes 2 b.storedAfter

/-- The BALANCE READ payload (R172, R189). -/
def State.balanceBytes (s : State) : List Byte :=
  beBytes 1 s.countPoint.state.code ++ beBytes 1 s.countPoint.causes.mask ++ flagByte s.countPoint.pending
    ++ beBytes 1 s.countPoint.pendingCauses.mask ++ optBytes 1 s.countPoint.timer
    ++ (match s.balance with
        | some b => b.bytes
        | none => [])

/-! ### Lanes, alarms and configuration (R190) -/

/-- The link state codes. -/
def Link.code : Link → Nat
  | .disabled => 0
  | .joining => 1
  | .online => 2
  | .silent => 3
  | .faulted => 4

/-- The join run codes. -/
def JoinRun.code : JoinRun → Nat
  | .idle => 0
  | .statusD => 1
  | .statusL => 2

/-- The drawer value codes. -/
def DrawerValue.code : DrawerValue → Nat
  | .locked => 0
  | .unlocked => 1
  | .closing => 2

/-- The reported drawer codes. -/
def DrawerReport.code : DrawerReport → Nat
  | .locked => 0
  | .unlocked => 1
  | .opened => 2

/-- The slot value codes. -/
def SlotValue.code : SlotValue → Nat
  | .opened => 0
  | .closed => 1
  | .capture => 2
  | .giveBack => 3

/-- The lamp codes. -/
def Lamp.code : Lamp → Nat
  | .idle => 0
  | .wait => 1
  | .take => 2
  | .deposit => 3
  | .laneClosed => 4

/-- The lost decision codes. -/
def LostDecision.code : LostDecision → Nat
  | .idle => 0
  | .owed => 1
  | .owedExpired => 2

/-- The handling codes. -/
def HandlingState.code : HandlingState → Nat
  | .idle => 0
  | .capturing => 1
  | .returning => 2
  | .jammed => 3

/-- The jam cause codes. -/
def JamCause.code : JamCause → Nat
  | .station => 1
  | .returned => 2
  | .resultLost => 3

/-- The refusal causes, 1 to 6 in the step order of R100. -/
def RefusalCause.code : RefusalCause → Nat
  | .notInService => 1
  | .lockdown => 2
  | .binUnverified => 3
  | .binFull => 4
  | .noTicket => 5
  | .tableFull => 6

/-- The drawer holder: 0000h empty, FFFEh "sweep", otherwise the ticket number. -/
def holderCode : Option Holder → Nat
  | none => 0
  | some .sweep => 0xFFFE
  | some (.ticket n) => n

/-- The LANE QUERY payload (R140, R190). -/
def State.laneBytes (s : State) (l : Lane) : List Byte :=
  let r := s.lane l
  let h := s.handlings.get l
  let e := s.disputes.filter fun d => decide (d.lane = l)
  beBytes 1 r.link.code ++ beBytes 1 r.badRun ++ beBytes 1 r.faultRun ++ beBytes 1 r.joinRun.code
    ++ optBytes 1 r.lastEvent ++ beBytes 1 r.desiredDrawer.code ++ beBytes 1 r.desiredSlot.code
    ++ beBytes 1 r.desiredLamp.code ++ beBytes 1 r.effDrawer.code ++ beBytes 1 r.effSlot.code
    ++ optBytes 1 (r.repDrawer.map DrawerReport.code) ++ optFlag r.repNotes ++ optFlag r.repFault
    ++ optBytes 1 (r.repSlot.map SlotValue.code) ++ optBytes 1 (r.repLamp.map Lamp.code) ++ optFlag r.callButton
    ++ optFlag r.tamper ++ optBytes 1 r.stampEcho ++ beBytes 2 (holderCode r.holder) ++ optBytes 2 r.lostTimer
    ++ beBytes 1 r.lost.code ++ beBytes 2 r.receiveErrors ++ beBytes 2 r.silentSlots ++ beBytes 2 r.lineFaults
    ++ beBytes 1 r.binCount ++ flagByte r.binVerified ++ beBytes 1 h.state.code ++ optBytes 2 h.ticket
    ++ optBytes 1 (h.jam.map JamCause.code) ++ optBytes 1 (h.lastRefusal.map RefusalCause.code)
    ++ beBytes 1 h.refusals ++ beBytes 1 e.length
    ++ e.flatMap fun d => beBytes 2 d.ticket ++ optBytes 2 d.sweptBack

/-- The alarm state codes. -/
def AlarmState.code : AlarmState → Nat
  | .raised => 1
  | .acked => 2
  | .standing => 3

/-- The class set mask (R187). -/
def ClassSet.mask (c : ClassSet) : Nat := flagMask [c.notice, c.hold, c.lockdown, c.duress]

/-- One record of an ALARM LIST payload. -/
def AlarmRecord.bytes (r : AlarmRecord) : List Byte :=
  beBytes 1 r.source.number ++ beBytes 1 r.state.code ++ beBytes 1 r.classes.mask ++ beBytes 1 r.highest.rank
    ++ beBytes 1 r.current.rank ++ beBytes 1 r.timesRaised ++ optBytes 1 r.pattern

/-- The ALARM LIST payload from a starting source number (R150, R190). -/
def State.alarmBytes (s : State) (start : Nat) : List Byte :=
  let found := s.alarms.records.filter fun r => decide (start ≤ r.key)
  let shown := found.take 8
  beBytes 1 (flagMask [s.alarms.hold, s.alarms.lockdown, s.alarms.duress])
    ++ beBytes 1 (flagMask [s.duressHigh, s.relayEnergised]) ++ beBytes 1 s.alarms.pattern.toNat
    ++ beBytes 1 (s.localClass s.alarms.pattern).rank ++ flagByte (decide (8 < found.length)) ++ beBytes 1 shown.length
    ++ shown.flatMap AlarmRecord.bytes

/-- The kind, target and further argument of a held approval (R190). -/
def HeldApproval.bytes (a : HeldApproval) : List Byte :=
  (match a.target with
   | .vault v => beBytes 1 1 ++ beBytes 2 v.number
   | .bin l => beBytes 1 2 ++ beBytes 2 l.number
   | .resolve n => beBytes 1 3 ++ beBytes 2 n)
    ++ beBytes 1 a.teller.number ++ beBytes 1 a.seconds ++ optBytes 1 a.delivered

/-- The CONFIG READ payload (R180, R190). -/
def State.configBytes (s : State) : List Byte :=
  let q := s.params
  let c := q.sourceClasses
  beBytes 1 q.laneCount ++ beBytes 3 q.dualLimit ++ beBytes 2 q.approvalWindow ++ beBytes 1 q.takeTimeout
    ++ beBytes 2 q.lostLaneLimit ++ beBytes 1 q.quiesceTimeout ++ beBytes 1 q.periodicCount ++ beBytes 1 q.busyLevel
    ++ beBytes 1 q.maxRejects ++ beBytes 1 q.suspendThreshold ++ flagByte q.recycling ++ flagByte q.autoEnvelope
    ++ q.lowLevels.toList.flatMap (beBytes 2) ++ q.denominations.toList.flatMap (fun v => beBytes 2 (v.getD 0))
    ++ q.classTable.flatMap (fun k => beBytes 1 k.rank)
    ++ (c.laneTamper.toList ++ c.lineFault.toList ++ c.cassetteTamper.toList ++ [c.rejectFull, c.intakeFull]).flatMap
        (fun k => beBytes 1 k.rank)
    ++ flagByte s.wall.service ++ flagByte s.wall.starting ++ flagByte s.wall.laneCountSet
    ++ beBytes 1 s.approvals.length ++ s.approvals.flatMap HeldApproval.bytes

/-! ### Ring words (R191) -/

/-- A ring word with its check: the exclusive-or of the body's three nibbles with 5h. -/
def ringWord (body : BitVec 12) : RingWord :=
  (body.extractLsb' 8 4 ^^^ body.extractLsb' 4 4 ^^^ body.extractLsb' 0 4 ^^^ (5 : BitVec 4)) ++ body

/-- Whether a ring word's check is right. -/
def checkRight (w : RingWord) : Bool := decide (ringWord (w.extractLsb' 0 12) = w)

/-- A STAMP word: address 0 for all stations, 1 to 8 for one lane, with the frame number. -/
def stampWord (address frame : Nat) : RingWord := ringWord (BitVec.ofNat 4 address ++ BitVec.ofNat 8 frame)

/-- A command word to a lane. -/
def commandWord (l : Lane) (code : Nat) : RingWord :=
  ringWord ((9 : BitVec 4) ++ BitVec.ofNat 4 l.number ++ BitVec.ofNat 4 code)

/-- The drawer value a 2-bit code reports. -/
def DrawerReport.ofCode? : Nat → Option DrawerReport
  | 0 => some .locked
  | 1 => some .unlocked
  | 2 => some .opened
  | _ => none

/-- The slot value a 2-bit code reports. -/
def SlotValue.ofCode? : Nat → Option SlotValue
  | 0 => some .opened
  | 1 => some .closed
  | 2 => some .capture
  | 3 => some .giveBack
  | _ => none

/-- The lamp value a 3-bit code reports. -/
def Lamp.ofCode? : Nat → Option Lamp
  | 0 => some .idle
  | 1 => some .wait
  | 2 => some .take
  | 3 => some .deposit
  | 4 => some .laneClosed
  | _ => none

/-- The event kind of a 2-bit code. -/
def EventKind.ofCode? : Nat → Option EventKind
  | 0 => some .insert
  | 1 => some .captureDone
  | 2 => some .captureJam
  | 3 => some .returnDone
  | _ => none

/-- The contents of an uplink word, or none when its check is wrong or it is none of the three kinds (R191, row 4 of
R127). -/
def readUplink (w : RingWord) : Option Uplink :=
  if ¬ checkRight w then none
  else if w.getLsbD 11 then
    match SlotValue.ofCode? (w.extractLsb' 9 2).toNat, Lamp.ofCode? (w.extractLsb' 6 3).toNat with
    | some x, some y => some (.statusL x y (w.getLsbD 5) (w.getLsbD 4) (w.extractLsb' 0 4).toNat)
    | _, _ => none
  else if w.getLsbD 10 then
    match DrawerReport.ofCode? (w.extractLsb' 8 2).toNat with
    | some x => if w.extractLsb' 0 6 = 0 then some (.statusD x (w.getLsbD 7) (w.getLsbD 6)) else none
    | none => none
  else
    match EventKind.ofCode? (w.extractLsb' 8 2).toNat with
    | some k => if w.extractLsb' 0 5 = 0 then some (.event k (w.extractLsb' 5 3).toNat) else none
    | none => none

end Sys2Proof.Machine
end

