-- ==== Sys2Proof/Machine/Operands.lean ====
section
/-! DEFINITION. The arguments of the requests: the checks a request makes in its order, each with the status of its refusal (R5,
R176), and the operand forms the requests share (numbers, lanes, teller positions, segments and plans). -/

namespace Sys2Proof.Machine

/-! ### Checks in their order (R176) -/

section Checks
variable {α β : Type}

/-- A check: the request is refused with the status, or goes on. -/
def need (holds : Bool) (e : Status) (k : Except Status β) : Except Status β := if holds then k else .error e

/-- A check that something named exists: the request is refused with the status, or goes on with it. -/
def named (x : Option α) (e : Status) (k : α → Except Status β) : Except Status β :=
  match x with
  | some a => k a
  | none => .error e

end Checks

/-! ### The ranges of step 2 of R5 -/

/-- A ticket number from 1 to 9999. -/
def numberInRange (n : Nat) : Bool := decide (1 ≤ n ∧ n ≤ Config.maxNumber)

/-- An amount from 1 to 999 999. -/
def amountInRange (n : Nat) : Bool := decide (1 ≤ n ∧ n ≤ Config.maxAmount)

/-- The lane a coded number names, up to the lane count. -/
def State.namedLane (s : State) (n : Nat) : Option Lane :=
  if n ≤ s.params.laneCount then Lane.ofNat? n else none

/-- A segment's position and its note count. -/
structure Ask where
  position : Pos
  notes    : Nat
  deriving DecidableEq, Repr

/-- One segment with its position named and its notes from 1 to 200. -/
def askOf (g : SegmentArg) : Option Ask :=
  match Pos.ofNat? g.position with
  | some p => if 1 ≤ g.notes ∧ g.notes ≤ Config.maxNotes then some ⟨p, g.notes⟩ else none
  | none => none

/-- Every segment of a list, each in its ranges. -/
def asksOf : List SegmentArg → Option (List Ask)
  | [] => some []
  | g :: gs =>
    match askOf g, asksOf gs with
    | some x, some xs => some (x :: xs)
    | _, _ => none

/-- The notes some segments ask in all. -/
def askedNotes (asks : List Ask) : Nat := (asks.map Ask.notes).sum

/-- The segments of a request that carries 1 to 4 of them, with total notes up to 200 (R5 step 2). -/
def namedSegments (segs : List SegmentArg) : Option (List Ask) :=
  if 1 ≤ segs.length ∧ segs.length ≤ Config.maxRequestSegments then
    match asksOf segs with
    | some asks => if askedNotes asks ≤ Config.maxNotes then some asks else none
    | none => none
  else none

/-- The segments of an AMEND, for which a count of 0 stands for none named (R5, R187). -/
def optionalSegments (segs : List SegmentArg) : Option (List Ask) :=
  match segs with
  | [] => some []
  | g :: gs => namedSegments (g :: gs)

/-- The amount of an AMEND, `some none` for none named (R5, R187). -/
def optionalAmount (n : Nat) : Option (Option Nat) :=
  if n = Config.noAmount then some none else if amountInRange n then some (some n) else none

/-! ### Plans asked of the positions (R3, R6, R18) -/

/-- The note value of a segment made now: what the denomination table gives for the code of the cassette in service (R3). -/
def State.noteValueAt (s : State) (p : Pos) : Nat :=
  match (s.slot p).identity with
  | some k =>
    match Code.ofNat? k.code with
    | some c => (s.params.denominations.get c).getD 0
    | none => 0
  | none => 0

/-- A new segment, with nothing picked (R3). -/
def State.newSegment (s : State) (x : Ask) : Segment :=
  { position := x.position, notes := x.notes, picked := 0, value := s.noteValueAt x.position }

/-- New segments in the order given. -/
def State.newSegments (s : State) (asks : List Ask) : List Segment := asks.map s.newSegment

/-- Whether every position that the segments name is IN_SERVICE. -/
def State.allInService (s : State) (g : List Segment) : Bool :=
  g.all fun x => decide ((s.slot x.position).state = .inService)

/-- The notes some segments ask at a position. -/
def asksAt (p : Pos) (g : List Segment) : Nat := (g.map fun x => if x.position = p then x.notes else 0).sum

/-- The availability test (R18), with the unpicked notes of the ticket's own plan counted as free. -/
def State.availableFor (s : State) (own g : List Segment) : Bool :=
  g.all fun x => decide (asksAt x.position g ≤ (s.slot x.position).available (unpickedAt x.position own))

end Sys2Proof.Machine
end

