-- ==== Sys2Proof/WellFormed.lean ====
section
/-! DEFINITION. Which commands can be sent: a request whose arguments fit the fields of its frame (R186, R187, R190), and an event
that the lines can report. `exec` is total on every command; the encoding laws speak of the well-formed ones. -/

namespace Sys2Proof

/-- A number that fits k bytes. -/
def fits (k n : Nat) : Bool := decide (n < 256 ^ k)

/-- Segments whose fields fit a byte each. -/
def segmentsFit (segs : List SegmentArg) : Bool := segs.all fun g => fits 1 g.position && fits 1 g.notes

/-- An item whose fields fit, the run of a table item counted in one byte; an unnamed item's number names no parameter. -/
def ConfigItem.wellFormed : ConfigItem → Bool
  | .laneCount n => fits 1 n
  | .denominations first values => fits 1 first && fits 1 values.length && values.all (fits 2)
  | .classTable first classes => fits 1 first && fits 1 classes.length && classes.all (fits 1)
  | .sourceClasses first classes => fits 1 first && fits 1 classes.length && classes.all (fits 1)
  | .dualLimit n => fits 3 n
  | .approvalWindow n => fits 2 n
  | .takeTimeout n => fits 1 n
  | .lostLaneLimit n => fits 2 n
  | .quiesceTimeout n => fits 1 n
  | .periodicCount n => fits 1 n
  | .busyLevel n => fits 1 n
  | .maxRejects n => fits 1 n
  | .suspendThreshold n => fits 1 n
  | .lowLevel p n => fits 1 p && fits 2 n
  | .recycling n => fits 1 n
  | .autoEnvelope n => fits 1 n
  | .unnamed number => fits 1 number && decide (number = 0 ∨ 0x10 < number)

/-- Whether an item's number names no parameter. -/
def ConfigItem.isUnnamed : ConfigItem → Bool
  | .unnamed _ => true
  | .laneCount _ | .denominations .. | .classTable .. | .sourceClasses .. | .dualLimit _ | .approvalWindow _
  | .takeTimeout _ | .lostLaneLimit _ | .quiesceTimeout _ | .periodicCount _ | .busyLevel _ | .maxRejects _
  | .suspendThreshold _ | .lowLevel .. | .recycling _ | .autoEnvelope _ => false

/-- The items of a CONFIGURE payload: each well formed, and an unnamed one last, since its length is not known. -/
def itemsWellFormed : List ConfigItem → Bool
  | [] => true
  | [x] => x.wellFormed
  | x :: y :: ys => x.wellFormed && !x.isUnnamed && itemsWellFormed (y :: ys)

/-- The tries of a read that the line can report: at most three, each of at most 64 bytes. -/
def triesWellFormed (most : Nat) (tries : List TagTry) : Bool :=
  decide (1 ≤ tries.length ∧ tries.length ≤ most)
    && tries.all fun t =>
      match t with
      | some bytes => decide (bytes.length ≤ 64)
      | none => true

/-- Whether the bytes of a BAD_FRAME command are a request frame that steps 1 to 3 of R174 refuse. -/
def refusedFrame (partByte : Bool) (bytes : List Byte) : Bool :=
  match bytes with
  | [] => false
  | b :: _ =>
    decide (b ≠ 0)
      && match judgeFrame partByte bytes with
         | .request _ => false
         | .badFrame | .unknownRequest | .badShape => true

/-- A command that can be sent. -/
def Instr.wellFormed : Instr → Bool
  | .fullReset .. | .requestFrameBegin | .frameWhileActing | .responseRead _ => true
  | .badFrame partByte bytes => refusedFrame partByte bytes
  | .alarmAck source => fits 1 source
  | .alarmList start => fits 1 start
  | .amend ticket teller amount segments =>
    fits 2 ticket && fits 1 teller && fits 3 amount && decide (segments.length ≤ 26) && segmentsFit segments
  | .approve ticket teller => fits 2 ticket && fits 1 teller
  | .balanceRead | .configRead | .countPoint | .enterSetup | .identify | .readAttention | .resume | .startWall => true
  | .binEmptied lane teller => fits 1 lane && fits 1 teller
  | .binSet lane count => fits 1 lane && fits 1 count
  | .clearJam ticket outcome => fits 2 ticket && fits 1 outcome
  | .configure items =>
    !items.isEmpty && itemsWellFormed items && decide ((items.flatMap itemBytes).length ≤ 60)
  | .intakeBegin ticket => fits 2 ticket
  | .intakeFinish ticket => fits 2 ticket
  | .laneQuery lane => fits 1 lane
  | .laneRestart lane => fits 1 lane
  | .list start => fits 2 start
  | .lookup ticket => fits 2 ticket
  | .openDispense teller lane amount segments =>
    fits 1 teller && fits 1 lane && fits 3 amount && decide (segments.length ≤ 27) && segmentsFit segments
  | .openEnvelope teller lane => fits 1 teller && fits 1 lane
  | .openIntake teller lane => fits 1 teller && fits 1 lane
  | .positionQuery target => fits 1 target
  | .positionReinstate position => fits 1 position
  | .positionRelease position teller => fits 1 position && fits 1 teller
  | .resolve ticket delivered teller => fits 2 ticket && fits 1 delivered && fits 1 teller
  | .settle ticket => fits 2 ticket
  | .vaultEmptied vault teller => fits 1 vault && fits 1 teller
  | .void ticket => fits 2 ticket
  | .dualApprovalExpiry _ | .approvalWindowExpiry _ | .takeTimerExpiry _ | .lostLaneTimerExpiry _ | .quiesceTimerExpiry
  | .ticketSelection | .pickerResume | .gaugeResult .. | .pickMissTimeout | .purgeBegin | .purgeCompletion _
  | .retractPromotion | .deliveryGrant | .deliveryArrival | .retractGrant | .retractCompletion _ | .sweepBegin
  | .sweepCompletion _ | .quietFound | .cassetteInsertion _ | .cassetteRemoval _ | .vaultPresenceChange ..
  | .escrowEvent _ | .notePlaced | .inputSample _ | .syncSlot _ | .laneSlot .. | .frameEnd => true
  | .identityReadEnd tries => triesWellFormed 3 tries
  | .tagWriteEnd tries => triesWellFormed 2 tries

end Sys2Proof
end

