-- ==== Sys2Proof/Machine/Port.lean ====
section
/-! DEFINITION. The Request Port (chapter 8): select periods and the held response (R173 to R175), the answer to a request (R174
step 4, R176), dual requests (R177), attention (R178, R179), identity (R180) and the wall state (R183, R184). The commands of
this family are one definition each; every other request answers through `State.answer`. -/

namespace Sys2Proof.Machine

/-! ### Select periods -/

/-- The ticket numbers of a discarded read-out that an occupied entry still holds, added to the change set (R175). -/
def State.putBackNumbers (s : State) (numbers : List Nat) : State :=
  { s with changeSet := (numbers.filter fun n => (s.ticket n).isSome).foldl (fun set n => addNumber n set) s.changeSet }

/-- The held response released, if it has been read, or discarded with its read-out put back (R175). The read-out sets are
those of an answer to READ ATTENTION and are empty under every other response (R173). -/
def State.giveUpResponse (s : State) : State :=
  let t :=
    if s.port.read then s
    else
      ({ s with reasons := s.reasons.union s.port.readOutReasons }.putBackNumbers s.port.readOutNumbers).place .port
  { t with port := { t.port with held := none, read := false, readOutReasons := .empty, readOutNumbers := [] } }

/-- The bytes a held response puts on SDOUT, from its first byte. -/
def Port.outgoing (k : Port) : List Byte :=
  match k.held with
  | some r => r.frame
  | none => []

/-- A request frame begins, by the port state in which its select begins (R173). From READY the held response is shifted out
while the host's bytes come in, as many of its bytes as the host clocks (R186; DESIGN CHOICE, log entry 19). -/
def State.beginFrame (s : State) : State :=
  match s.port.state with
  | .idle => { s with port := { s.port with state := .receiving } }
  | .ready => let t := s.giveUpResponse; { t with port := { t.port with state := .receiving, sdout := s.port.outgoing } }
  | .receiving => s
  | .acting => s.place .port

/-- The frame of a request that is now handed to its owner. A request that comes in IDLE or READY has its own frame begun first
(R173); after REQUEST_FRAME_BEGIN, or in ACTING, the port stands ready for it. -/
def State.takeFrame (s : State) : State :=
  match s.port.state with
  | .idle | .ready => s.beginFrame
  | .receiving | .acting => s

/-- The response held with response read clear, and the port READY (R174). -/
def State.hold (s : State) (r : Response) : State :=
  { s with port := { s.port with state := .ready, held := some r, read := false } }

/-- A request answered (R174 step 4, R176): refused, it leaves the records as its frame found them and the port holds the
status; taken, its effect stands and the port holds OK with the payload. -/
def State.answer (s : State) (act : State → Except Status (State × List Byte)) : State :=
  match act s.takeFrame with
  | .ok (t, payload) => t.hold ⟨.ok, payload⟩
  | .error e => s.takeFrame.hold ⟨e, []⟩

/-- REQUEST_FRAME_BEGIN (R173, R175). -/
def execRequestFrameBegin (s : State) : Host.Outcome State Fault Refusal := .next s.beginFrame

/-- FRAME_WHILE_ACTING (R173): the frame is ignored, and PORT is placed. The model answers a request in one step, so the port
is in ACTING only within that step; the event is taken in whatever port state the record shows (DESIGN CHOICE, log entry 4). -/
def execFrameWhileActing (s : State) : Host.Outcome State Fault Refusal := .next (s.place .port)

/-- The status of a frame refused at steps 1 to 3 of R174. -/
def refusalOf : FrameVerdict → Option Status
  | .badFrame => some .badFrame
  | .unknownRequest => some .unknownRequest
  | .badShape => some .range
  | .request _ => none

/-- BAD_FRAME (R174 steps 1 to 3): nothing is acted on, and the status is held. Bytes that are no request frame, or that make a
sound one, are no such event and change nothing. -/
def execBadFrame (partByte : Bool) (bytes : List Byte) (s : State) : Host.Outcome State Fault Refusal :=
  if refusedFrame partByte bytes then
    match refusalOf (judgeFrame partByte bytes) with
    | some e => .next (s.answer fun _ => .error e)
    | none => .next s
  else .next s

/-- The bytes SDOUT carries in a read select period in which some bytes are clocked (R173, R175). -/
def Port.shiftOut (k : Port) (clocked : Nat) : List Byte :=
  match k.state, k.held with
  | .ready, some r => (r.frame ++ List.replicate clocked 0xFF).take clocked
  | _, _ => List.replicate clocked 0xFF

/-- Whether a read select period clocks every byte of a held response (R175). -/
def Port.readsAll (k : Port) (clocked : Nat) : Bool :=
  match k.state, k.held with
  | .ready, some r => decide (r.frame.length ≤ clocked)
  | _, _ => false

/-- RESPONSE_READ (R173, R175). A select period with no whole byte clocked changes nothing. -/
def execResponseRead (clocked : Nat) (s : State) : Host.Outcome State Fault Refusal :=
  if clocked = 0 then .next s
  else
    .next { s with port := { s.port with sdout := s.port.shiftOut clocked,
                                         read := s.port.read || s.port.readsAll clocked } }

/-! ### Dual requests (R177) -/

/-- What an approval that has passed its checks does. -/
inductive DualVerdict
  | held | effect | mismatch
  deriving DecidableEq, Repr

/-- The table of R177, by the approval held, if any, and whether its arguments are the same. -/
def dualVerdict (held : Option Teller) (sameArguments : Bool) (teller : Teller) : DualVerdict :=
  match held with
  | none => .held
  | some first => if first = teller then .held else if sameArguments then .effect else .mismatch

/-- The dual indication for "first approval held" (R187). -/
def heldIndication : List Byte := beBytes 1 1 ++ beBytes 1 Config.dualSeconds

/-- The dual indication for "taken effect" (R187). -/
def effectIndication : List Byte := beBytes 1 2 ++ beBytes 1 0

/-- The order of the held approval list: by kind, then by target. -/
def HeldTarget.key : HeldTarget → Nat
  | .vault v => v.number
  | .bin l => 2 + l.number
  | .resolve n => 10 + n

/-- The key of an entry of the held approval list, of which there is one for each kind and target. -/
def HeldApproval.key (a : HeldApproval) : Nat := a.target.key

/-- The approval held for a kind and target. -/
def State.heldApproval (s : State) (x : HeldTarget) : Option HeldApproval := findByKey HeldApproval.key x.key s.approvals

/-- The approval held for a kind and target removed. -/
def State.dropApproval (s : State) (x : HeldTarget) : State :=
  { s with approvals := dropKey HeldApproval.key x.key s.approvals }

/-- An approval of a dual request kept in the Request Port's list, taken by the table of R177. -/
def State.approveDual (s : State) (x : HeldTarget) (delivered : Option Nat) (teller : Teller) (effect : State → State) :
    Except Status (State × List Byte) :=
  let held := s.heldApproval x
  match dualVerdict (held.map HeldApproval.teller) (decide (held.bind HeldApproval.delivered = delivered)) teller with
  | .held =>
    .ok ({ s with approvals := putByKey HeldApproval.key ⟨x, teller, delivered, Config.dualSeconds⟩ s.approvals },
      heldIndication)
  | .effect => .ok (effect (s.dropApproval x), effectIndication)
  | .mismatch => .error .valueMismatch

/-- DUAL_APPROVAL_EXPIRY (R177): the approval held for the target is discarded, with nothing placed. -/
def execDualApprovalExpiry (target : DualTarget) (s : State) : Host.Outcome State Fault Refusal :=
  .next
    (match target with
     | .release p => { s with slots := s.slots.set p { s.slot p with release := none } }
     | .vault v => s.dropApproval (.vault v)
     | .bin l => s.dropApproval (.bin l)
     | .resolve n => s.dropApproval (.resolve n))

/-! ### Attention, identity and the wall state -/

/-- READ ATTENTION (R179): both sets are returned and emptied, and kept as the read-out sets of the response. -/
def execReadAttention (s : State) : Host.Outcome State Fault Refusal :=
  .next
    (s.answer fun t =>
      .ok ({ t with reasons := .empty, changeSet := [],
                    port := { t.port with readOutReasons := t.reasons, readOutNumbers := t.changeSet } },
        t.attentionBytes))

/-- IDENTIFY (R180). -/
def execIdentify (s : State) : Host.Outcome State Fault Refusal :=
  .next
    (s.answer fun t =>
      .ok (t, beBytes 1 Config.vendorCode ++ beBytes 2 Config.partCode ++ beBytes 1 Config.revision))

/-- CONFIG READ (R180). -/
def execConfigRead (s : State) : Host.Outcome State Fault Refusal := .next (s.answer fun t => .ok (t, t.configBytes))

/-- START WALL (R183, R91): the starting mark and the sweep pending mark are set. -/
def execStartWall (s : State) : Host.Outcome State Fault Refusal :=
  .next
    (s.answer fun t =>
      need (!t.wall.service) .badState <|
      need (!t.wall.starting) .busy <|
      need t.wall.laneCountSet .badState <|
      .ok ({ t with wall := { t.wall with starting := true }, sweepPending := true },
        flagByte false ++ flagByte true))

/-- Step 4 of R184: nothing is held or moving. -/
def State.nothingHeld (s : State) : Bool :=
  decide (s.staging.owner = none) && decide (s.route = .free) && s.retracts.isEmpty
    && s.lanes.toList.all (fun r => decide (r.holder = none)) && decide (s.intakeRec.state = .idle)
    && !s.intakeRec.stray && s.handlings.toList.all fun h => decide (h.state = .idle)

/-- Step 5 of R184: every position with a cassette has been balanced since its last movement. -/
def State.allBalanced (s : State) : Bool :=
  s.slots.toList.all fun x => !x.state.live || decide (x.pickedOut = 0 ∧ x.storedIn = 0)

/-- ENTER SETUP (R184). -/
def execEnterSetup (s : State) : Host.Outcome State Fault Refusal :=
  .next
    (s.answer fun t =>
      need t.wall.service .badState <|
      need t.tickets.isEmpty .badState <|
      need (!t.counting) .busy <|
      need t.nothingHeld .busy <|
      need t.allBalanced .busy <|
      .ok ({ t with wall := { t.wall with service := false } }.reform, []))

end Sys2Proof.Machine
end

