-- ==== Sys2Proof/Machine/Tickets.lean ====
section
/-! DEFINITION. The ticket commands (chapter 1): opening (R6 to R9), approval (R12, R13), AMEND (R14 to R16), selection (R21), VOID
and SETTLE (R25 to R28), the take timer (R29), and the readings (R30, R31). -/

namespace Sys2Proof.Machine

/-! ### Opening -/

/-- The dual-control test (R7). -/
def State.dualNeeded (s : State) (amount : Nat) : Bool :=
  decide (s.params.dualLimit ≠ 0) && decide (s.params.dualLimit < amount)

/-- An approval deadline that starts now (R13). -/
def State.newWindow (s : State) : Option Deadline := some ⟨.approval, s.params.approvalWindow⟩

/-- The fields of a DISPENSE ticket as it is opened (R2, R6, R7). -/
def State.newDispense (s : State) (teller : Teller) (amount : Nat) (plan : List Segment) : Dispense :=
  { state := if s.dualNeeded amount then .awaitingSecond else .queued, amount := amount, plan := plan,
    dualRequired := s.dualNeeded amount, first := teller, second := none, queueStamp := none, goodPicked := 0,
    presented := 0, delivered := 0, retracted := 0, unresolved := 0, rejectPicks := 0, halt := none, laneLost := false,
    recalled := false, deadline := if s.dualNeeded amount then s.newWindow else none }

/-- The fields of an ENVELOPE ticket as it is opened (R2, R8, R10). -/
def newEnvelope : Envelope := { state := .awaitingEnvelope, amount := none, sequence := none }

/-- The fields of an INTAKE ticket as it is opened (R2, R9). -/
def newIntake : Intake :=
  { state := .readyIntake, amount := 0, accepted := .const 0, recycled := 0, vaulted := 0, returned := 0 }

/-- A ticket opened by a teller position at a lane, with the mark of R33. -/
def State.openFor (s : State) (teller : Teller) (l : Lane) (b : TicketBody) : State :=
  s.openTicket l (some teller) (s.markNow teller ⟨false, false⟩) b

/-- A DISPENSE ticket opened: it waits for its second approval or joins the pick queue (R6, R7). -/
def State.openDispenseTicket (s : State) (teller : Teller) (l : Lane) (amount : Nat) (plan : List Segment) : State :=
  let t := s.openFor teller l (.dispense (s.newDispense teller amount plan))
  if s.dualNeeded amount then t else t.joinQueue s.issueNumber

/-- The answer of a ticket request: the state formed anew, with the ticket's number and its state (R5). -/
def State.ticketDone (s : State) (n : Nat) : State × List Byte := (s.reform, ticketAnswer s.reform n)

/-- OPEN DISPENSE (R5, R6, R7). -/
def execOpenDispense (teller lane amount : Nat) (segments : List SegmentArg) (s : State) :
    Host.Outcome State Fault Refusal :=
  .next
    (s.answer fun t =>
      need t.wall.service .notInService <|
      named (Teller.ofNat? teller) .range fun who =>
      named (t.namedLane lane) .range fun l =>
      need (amountInRange amount) .range <|
      named (namedSegments segments) .range fun asks =>
      need t.hasFreeEntry .tableFull <|
      let plan := t.newSegments asks
      need (t.allInService plan) .unavailable <|
      need (decide (planValue plan = amount)) .valueMismatch <|
      need (t.availableFor [] plan) .short <|
      .ok ((t.openDispenseTicket who l amount plan).ticketDone t.issueNumber))

/-- OPEN ENVELOPE (R5, R8). -/
def execOpenEnvelope (teller lane : Nat) (s : State) : Host.Outcome State Fault Refusal :=
  .next
    (s.answer fun t =>
      need t.wall.service .notInService <|
      named (Teller.ofNat? teller) .range fun who =>
      named (t.namedLane lane) .range fun l =>
      need t.hasFreeEntry .tableFull <|
      .ok ((t.openFor who l (.envelope newEnvelope)).ticketDone t.issueNumber))

/-- OPEN INTAKE (R5, R9). -/
def execOpenIntake (teller lane : Nat) (s : State) : Host.Outcome State Fault Refusal :=
  .next
    (s.answer fun t =>
      need t.wall.service .notInService <|
      named (Teller.ofNat? teller) .range fun who =>
      named (t.namedLane lane) .range fun l =>
      need t.hasFreeEntry .tableFull <|
      .ok ((t.openFor who l (.intake newIntake)).ticketDone t.issueNumber))

/-! ### Approval -/

/-- The mark of a ticket that a teller position approves (R33). -/
def State.markTicket (s : State) (n : Nat) (teller : Teller) : State :=
  match s.ticket n with
  | some t => s.putTicket { t with mark := s.markNow teller t.mark }
  | none => s

/-- APPROVE (R5, R12). -/
def execApprove (ticket teller : Nat) (s : State) : Host.Outcome State Fault Refusal :=
  .next
    (s.answer fun t =>
      need t.wall.service .notInService <|
      need (numberInRange ticket) .range <|
      named (Teller.ofNat? teller) .range fun who =>
      named (t.ticket ticket) .notFound fun k =>
      match k.body with
      | .dispense d =>
        need (decide (d.state = .awaitingSecond)) .badState <|
        need (decide (who ≠ d.first)) .samePosition <|
        .ok
          ((((t.markTicket ticket who).move ticket
                (.dispense { d.enter .queued with second := some who, deadline := none })).joinQueue ticket).ticketDone
            ticket)
      | .envelope _ => .error .badState
      | .intake _ => .error .badState)

/-- APPROVAL_WINDOW_EXPIRY (R13). -/
def execApprovalWindowExpiry (ticket : Nat) (s : State) : Host.Outcome State Fault Refusal :=
  .next (s.claim ticket (· = .awaitingSecond) (Dispense.enter .expired)).reform

/-! ### AMEND -/

/-- The plan of a ticket that has not been picked, with its note values fixed anew (R14). -/
def State.revalue (s : State) (plan : List Segment) : List Segment :=
  plan.map fun g => s.newSegment ⟨g.position, g.notes⟩

/-- What AMEND in AWAITING_SECOND or QUEUED does when it is taken (R14). -/
def State.applyAmend (s : State) (n : Nat) (d : Dispense) (who : Teller) (amount : Nat) (plan : List Segment) : State :=
  if amount = d.amount then
    s.rewrite n (.dispense { d with
      plan := plan, deadline := if d.state = .awaitingSecond then s.newWindow else d.deadline })
  else
    let e : Dispense := { d.enter (if s.dualNeeded amount then .awaitingSecond else .queued) with
      amount := amount, plan := plan, first := who, second := none, dualRequired := s.dualNeeded amount,
      deadline := if s.dualNeeded amount then s.newWindow else none }
    let t := ((s.leaveQueue n).markTicket n who).move n (.dispense e)
    if s.dualNeeded amount then t else t.joinQueue n

/-- The plan AMEND asks of a ticket that has not been picked. -/
def State.resultingPlan (s : State) (d : Dispense) (asks : List Ask) : List Segment :=
  if asks.isEmpty then s.revalue d.plan else s.newSegments asks

/-- AMEND of a DISPENSE ticket in AWAITING_SECOND or QUEUED (R14). -/
def State.amendWaiting (s : State) (n : Nat) (d : Dispense) (who : Teller) (amount : Option Nat) (asks : List Ask) :
    Except Status (State × List Byte) :=
  need (amount.isSome || !asks.isEmpty) .range <|
  let plan := s.resultingPlan d asks
  need (s.allInService plan) .unavailable <|
  need (decide (planValue plan = amount.getD d.amount)) .valueMismatch <|
  need (s.availableFor d.plan plan) .short <|
  .ok ((s.applyAmend n d who (amount.getD d.amount) plan).ticketDone n)

/-- The segments a halted plan keeps: those with notes picked, each ending at its picked notes (R15). -/
def keptSegments (plan : List Segment) : List Segment :=
  (plan.filter fun g => decide (0 < g.picked)).map fun g => { g with notes := g.picked }

/-- The picker takes a ticket in PICKING (R67, R78): the pause test, the segment check and the pick. -/
def State.takeUp (s : State) (n : Nat) : State := { s with picker := { s.picker with ticket := some n } }.workPick n

/-- AMEND of a DISPENSE ticket in PICK_HALTED (R15, R78). -/
def State.amendHalted (s : State) (n : Nat) (d : Dispense) (amount : Option Nat) (asks : List Ask) :
    Except Status (State × List Byte) :=
  need (decide (amount.getD d.amount = d.amount)) .badState <|
  need (!asks.isEmpty) .range <|
  let kept := keptSegments d.plan
  need (decide (kept.length + asks.length ≤ Config.maxSegments)) .range <|
  need (decide (d.goodPicked + askedNotes asks ≤ Config.maxNotes)) .range <|
  let g := s.newSegments asks
  need (s.allInService g) .unavailable <|
  need (decide (planValue g + pickedValue d.plan = d.amount)) .valueMismatch <|
  need (s.availableFor d.plan g) .short <|
  .ok (((s.move n (.dispense { d.enter .picking with plan := kept ++ g })).takeUp n).ticketDone n)

/-- AMEND of an ENVELOPE ticket (R16). -/
def State.amendEnvelope (s : State) (n : Nat) (e : Envelope) (amount : Option Nat) : Except Status (State × List Byte) :=
  need (decide (e.state ≠ .voided)) .badState <|
  named amount .range fun a =>
  .ok ((s.rewrite n (.envelope { e with amount := some a })).ticketDone n)

/-- Whether an AMEND that names segments names them for an ENVELOPE ticket (R5 step 2, R16). -/
def State.segmentsForEnvelope (s : State) (n : Nat) (asks : List Ask) : Bool := !asks.isEmpty && (s.envelope n).isSome

/-- AMEND (R5, R14 to R16). An INTAKE ticket is refused with BAD_STATE whatever is named, as R16 says of every state, and not
with the RANGE that step 2 of R5 has for an argument its kind does not take (DESIGN CHOICE, log entry 31). -/
def execAmend (ticket teller amount : Nat) (segments : List SegmentArg) (s : State) :
    Host.Outcome State Fault Refusal :=
  .next
    (s.answer fun t =>
      need t.wall.service .notInService <|
      need (numberInRange ticket) .range <|
      named (Teller.ofNat? teller) .range fun who =>
      named (optionalAmount amount) .range fun a =>
      named (optionalSegments segments) .range fun asks =>
      need (!t.segmentsForEnvelope ticket asks) .range <|
      named (t.ticket ticket) .notFound fun k =>
      match k.body with
      | .dispense d =>
        match d.state with
        | .awaitingSecond | .queued => t.amendWaiting ticket d who a asks
        | .pickHalted => t.amendHalted ticket d a asks
        | .picking | .purging | .staged | .routing | .presented | .retracting | .disputed | .delivered | .returned
        | .voided | .expired | .resolved => .error .badState
      | .envelope e => t.amendEnvelope ticket e a
      | .intake _ => .error .badState)

/-! ### Selection -/

/-- The seven states in which a ticket keeps others of its lane from selection (R21). -/
def DispenseState.holdsLane : DispenseState → Bool
  | .picking | .pickHalted | .purging | .staged | .routing | .presented | .retracting => true
  | .awaitingSecond | .queued | .disputed | .delivered | .returned | .voided | .expired | .resolved => false

/-- Whether a ticket of a lane is in one of the seven states. -/
def Ticket.holdsLane (l : Lane) (t : Ticket) : Bool :=
  decide (t.lane = l)
    && match t.body with
       | .dispense d => d.state.holdsLane
       | .envelope _ => false
       | .intake _ => false

/-- The conditions of R21 on the wall. -/
def State.maySelect (s : State) : Bool :=
  decide (s.staging.owner = none) && decide (s.picker.state = .idle) && !s.alarms.hold && !s.alarms.lockdown
    && !s.counting

/-- The conditions of R21 on a queued ticket's lane. -/
def State.laneTakes (s : State) (n : Nat) : Bool :=
  match s.ticket n with
  | some t => decide ((s.lane t.lane).link = .online) && !s.tickets.any (Ticket.holdsLane t.lane)
  | none => false

/-- The ticket R21 selects: the oldest in the pick queue that meets every condition. -/
def State.selected (s : State) : Option Nat := if s.maySelect then s.pickQueue.find? s.laneTakes else none

/-- A selected ticket handed to the Dispense Engine (R21, R67). -/
def State.select (s : State) (n : Nat) : State :=
  let t := (s.leaveQueue n).claim n (· = .queued) (Dispense.enter .picking)
  { t with staging := { owner := some n, held := 0, value := 0, complete := false, purge := .idle } }.takeUp n

/-- TICKET_SELECTION (R21, R67). -/
def execTicketSelection (s : State) : Host.Outcome State Fault Refusal :=
  match s.selected with
  | some n => .next (s.select n).reform
  | none => .next s

/-! ### VOID -/

/-- A ticket with no pick in flight leaves PICKING or PICK_HALTED (R26, R77): PURGING with a purge asked when it has notes in
staging, or VOIDED with staging emptied. -/
def State.endPicked (s : State) (n : Nat) (d : Dispense) : State :=
  if 0 < d.goodPicked then
    { s.move n (.dispense (d.enter .purging)) with staging := { s.staging with purge := .waiting } }
  else { s.move n (.dispense (d.enter .voided)) with staging := .empty }

/-- The picker lets go of a voided ticket (R26, R77). -/
def State.letGo (s : State) (n : Nat) : State :=
  if s.picker.ticket = some n then
    { s with picker := s.picker.stop,
             gate := if s.picker.state = .waitingGate then { s.gate with waitPicker := false } else s.gate }
  else s

/-- Whether the picker is FEEDING for a ticket. -/
def State.feedingFor (s : State) (n : Nat) : Bool :=
  decide (s.picker.state = .feeding) && decide (s.picker.ticket = some n)

/-- VOID of a DISPENSE ticket (R25, R26, R77), or none in a state that refuses it. -/
def State.voidDispense (s : State) (n : Nat) (l : Lane) (d : Dispense) : Option State :=
  match d.state with
  | .awaitingSecond => some (s.move n (.dispense (d.enter .voided)))
  | .queued => some ((s.leaveQueue n).move n (.dispense (d.enter .voided)))
  | .picking =>
    if s.feedingFor n then some (s.move n (.dispense (d.enter .purging))) else some ((s.letGo n).endPicked n d)
  | .pickHalted => some (s.endPicked n d)
  | .staged =>
    some { s.move n (.dispense (d.enter .purging)) with staging := { s.staging with purge := .waiting } }
  | .presented =>
    if d.recalled then some s
    else some ((s.rewrite n (.dispense { d with recalled := true, deadline := none })).askClose l)
  | .purging | .routing | .retracting | .disputed | .delivered | .returned | .voided | .expired | .resolved => none

/-- VOID of any ticket (R25 to R27), or none in a state that refuses it. -/
def State.voidTicket (s : State) (t : Ticket) : Option State :=
  match t.body with
  | .dispense d => s.voidDispense t.number t.lane d
  | .envelope e =>
    if e.state = .awaitingEnvelope then some (s.move t.number (.envelope { e with state := .voided })) else none
  | .intake k =>
    if k.state = .readyIntake then some (s.move t.number (.intake { k with state := .voided })) else none

/-- VOID (R5, R25 to R27). -/
def execVoid (ticket : Nat) (s : State) : Host.Outcome State Fault Refusal :=
  .next
    (s.answer fun t =>
      need t.wall.service .notInService <|
      need (numberInRange ticket) .range <|
      named (t.ticket ticket) .notFound fun k =>
      named (t.voidTicket k) .badState fun u => .ok (u.ticketDone ticket))

/-! ### SETTLE -/

/-- A ticket retired (R28): its entry freed, its number out of the change set, and a settlement of a DISPENSE or INTAKE ticket
counted (R162). -/
def State.settle (s : State) (t : Ticket) : State :=
  let u := { s with tickets := dropKey Ticket.number t.number s.tickets,
                    changeSet := s.changeSet.filter (· != t.number) }
  match t.body with
  | .dispense _ => u.countSettlement
  | .intake _ => u.countSettlement
  | .envelope _ => u

/-- SETTLE (R5, R28). -/
def execSettle (ticket : Nat) (s : State) : Host.Outcome State Fault Refusal :=
  .next
    (s.answer fun t =>
      need t.wall.service .notInService <|
      need (numberInRange ticket) .range <|
      named (t.ticket ticket) .notFound fun k =>
      need k.terminal .badState <|
      .ok ((t.settle k).reform, ticketAnswer t ticket))

/-! ### The take timer -/

/-- Whether a ticket's take timer runs or has run out in this presentation (R29). -/
def Dispense.takeDeadline (d : Dispense) : Bool :=
  decide (d.state = .presented) && decide (d.deadline.map Deadline.kind = some .take)

/-- The expiry of a take timer handed to the Dispense Engine (R29, R87): close asked, and the deadline shows 0. -/
def State.takeExpired (s : State) (n : Nat) : State :=
  match s.ticket n with
  | some { lane := l, body := .dispense d, .. } =>
    if d.takeDeadline then (s.rewrite n (.dispense { d with deadline := some ⟨.take, 0⟩ })).askClose l else s
  | _ => s

/-- TAKE_TIMER_EXPIRY (R29, R87). -/
def execTakeTimerExpiry (ticket : Nat) (s : State) : Host.Outcome State Fault Refusal :=
  .next (s.takeExpired ticket).reform

/-! ### Readings -/

/-- LOOKUP (R5, R30). -/
def execLookup (ticket : Nat) (s : State) : Host.Outcome State Fault Refusal :=
  .next
    (s.answer fun t =>
      need (numberInRange ticket) .range <|
      named (t.ticket ticket) .notFound fun k => .ok (t, t.lookupBytes k))

/-- LIST (R31). -/
def execList (start : Nat) (s : State) : Host.Outcome State Fault Refusal :=
  .next (s.answer fun t => need (numberInRange start) .range <| .ok (t, t.listBytes start))

end Sys2Proof.Machine
end

