-- ==== Sys2Proof/Machine/Cassettes.lean ====
section
/-! DEFINITION. The Cassette Bank's commands (chapter 2): insertion, identification and removal (R41 to R43, R53), tag writes (R40),
REINSTATE (R50), release (R51), the vaults (R55 to R58) and POSITION QUERY (R61). -/

namespace Sys2Proof.Machine

/-! ### Cassettes -/

/-- CASSETTE_INSERTION (R41): in ABSENT the position enters IDENTIFYING and an identity read is queued. -/
def execCassetteInsertion (p : Pos) (s : State) : Host.Outcome State Fault Refusal :=
  if (s.slot p).state = .absent then .next (s.insertCassette p).reform else .next s

/-- Whether a count write-back of a position waits or is in flight. -/
def State.writeBackOf (s : State) (p : Pos) : Bool :=
  (s.transfersOf p).any fun t =>
    match t.kind with
    | .countWriteBack _ => true
    | .identityRead => false
    | .markWrite => false

/-- CASSETTE_REMOVAL (R53): the removal, with a cut count write-back reported to the Count Point Controller as failed (R38,
R167). -/
def execCassetteRemoval (p : Pos) (s : State) : Host.Outcome State Fault Refusal :=
  if (s.slot p).state = .absent then .next s
  else if s.writeBackOf p then .next ((s.remove p).handWriteBack p false).reform
  else .next (s.remove p).reform

/-- The end of an identity read at a position (R39, R42). -/
def State.endRead (s : State) (p : Pos) (tries : List TagTry) : State :=
  match readOutcome tries with
  | .good bytes => (s.judgeCassette p (Identity.ofTag bytes)).endTransfer
  | .failed why => (s.putSlot p (Slot.refusedAs why none (s.slot p).committed)).endTransfer
  | .unfinished => s

/-- IDENTITY_READ_END (R39, R42), for the read in flight. -/
def execIdentityReadEnd (tries : List TagTry) (s : State) : Host.Outcome State Fault Refusal :=
  match s.tagLink.inFlight with
  | some ⟨⟨.identityRead, p⟩, _⟩ => .next (s.endRead p tries).reform
  | some ⟨⟨.markWrite, _⟩, _⟩ => .next s
  | some ⟨⟨.countWriteBack _, _⟩, _⟩ => .next s
  | none => .next s

/-- The slot after a tag write (R40): in success the new image is the slot's, and `clears` says that tag stale is cleared; in
failure tag stale is set. -/
def Slot.afterWrite (image : List Byte) (ok clears : Bool) (x : Slot) : Slot :=
  if ok then
    { x with identity := x.identity.map fun k => { k with image := image }, tagStale := x.tagStale && !clears }
  else { x with tagStale := x.tagStale || x.state.live }

/-- TAG_WRITE_END (R40, R167), for the write in flight: the slot, the line, and for a count write-back its requester. -/
def execTagWriteEnd (tries : List TagTry) (s : State) : Host.Outcome State Fault Refusal :=
  match s.tagLink.inFlight with
  | none => .next s
  | some ⟨⟨.identityRead, _⟩, _⟩ => .next s
  | some ⟨⟨.markWrite, p⟩, image⟩ =>
    match writeOutcome image tries with
    | some ok => .next (s.putSlot p ((s.slot p).afterWrite image ok false)).endTransfer.reform
    | none => .next s
  | some ⟨⟨.countWriteBack _, p⟩, image⟩ =>
    match writeOutcome image tries with
    | some ok => .next ((s.putSlot p ((s.slot p).afterWrite image ok true)).endTransfer.handWriteBack p ok).reform
    | none => .next s

/-! ### POSITION REINSTATE -/

/-- The states that take REINSTATE (R50). -/
def PosState.reinstates : PosState → Bool
  | .inService | .suspended | .unlocked => true
  | .absent | .identifying | .refused | .releasePending => false

/-- What REINSTATE does to a slot (R46, R47, R50). -/
def Slot.reinstated (x : Slot) : Slot :=
  { x with state := .inService, window := [], missRun := 0, uncertain := false, reviewed := false,
           depleted := if x.depleted = .misses then (if x.count = 0 then .zero else .clear) else x.depleted }

/-- POSITION REINSTATE (R50). -/
def execPositionReinstate (position : Nat) (s : State) : Host.Outcome State Fault Refusal :=
  .next
    (s.answer fun t =>
      named (Pos.ofNat? position) .range fun p =>
      need (t.slot p).state.reinstates .badState <|
      need (!(t.slot p).uncertain || (t.slot p).reviewed) .badState <|
      .ok ((t.putSlot p (t.slot p).reinstated).reform, []))

/-! ### POSITION RELEASE -/

/-- Whether a ticket is being picked and an unfinished segment of it names a position (R51 step 4). -/
def Ticket.pickingFrom (p : Pos) (t : Ticket) : Bool :=
  match t.body with
  | .dispense d =>
    decide (d.state = .picking) && d.plan.any fun g => decide (g.position = p) && decide (g.picked < g.notes)
  | .envelope _ => false
  | .intake _ => false

/-- Whether a ticket is an INTAKE ticket in COLLECTING. -/
def Ticket.collecting (t : Ticket) : Bool :=
  match t.body with
  | .intake k => decide (k.state = .collecting)
  | .dispense _ => false
  | .envelope _ => false

/-- Whether an INTAKE ticket is COLLECTING. -/
def State.anyCollecting (s : State) : Bool := s.tickets.any Ticket.collecting

/-- The release takes effect (R51): RELEASE_PENDING, a claim waiting for D answered (R60), and a RELEASE count point asked. -/
def State.releasePosition (s : State) (p : Pos) : State :=
  ((s.putSlot p { s.slot p with state := .releasePending, prior := some (s.slot p).state, release := none }).recheckGate).requestCount
    .release (PosSet.single p)

/-- An approval of POSITION RELEASE that has passed its checks, by the table of R177; the arguments are the position alone. -/
def State.approveRelease (s : State) (p : Pos) (who : Teller) : Except Status (State × List Byte) :=
  match dualVerdict ((s.slot p).release.map Approval.teller) true who with
  | .held => .ok (s.putSlot p { s.slot p with release := some ⟨who, Config.dualSeconds⟩ }, heldIndication)
  | .effect => .ok ((s.releasePosition p).reform, effectIndication)
  | .mismatch => .error .valueMismatch

/-- POSITION RELEASE (R51, R177). -/
def execPositionRelease (position teller : Nat) (s : State) : Host.Outcome State Fault Refusal :=
  .next
    (s.answer fun t =>
      need t.wall.service .notInService <|
      named (Pos.ofNat? position) .range fun p =>
      named (Teller.ofNat? teller) .range fun who =>
      need (decide ((t.slot p).state = .inService ∨ (t.slot p).state = .suspended)) .badState <|
      need (!t.tickets.any (Ticket.pickingFrom p)) .busy <|
      need (!(decide (p = .d) && t.params.recycling && t.anyCollecting)) .busy <|
      t.approveRelease p who)

/-! ### The vaults -/

/-- The reject vault reported emptied (R58). Emptied out runs to 9999 (R55). -/
def RejectVault.empty (v : RejectVault) : RejectVault :=
  { v with emptied := v.emptied.raise 9999 v.count, pickRejects := 0, retracted := 0, sweep := 0, unverified := false }

/-- The intake vault reported emptied (R58). Emptied out stops at the two bytes it is read in (DESIGN CHOICE, log entry 8). -/
def IntakeVault.empty (v : IntakeVault) : IntakeVault :=
  { v with emptied := v.emptied.raise Config.max16 v.total, entries := .const 0, unverified := false }

/-- VAULT EMPTIED takes effect (R58). -/
def State.emptyVault (s : State) (v : Vault) : State :=
  let t := match v with
    | .reject => { s with rejectVault := s.rejectVault.empty }
    | .intake => { s with intakeVault := s.intakeVault.empty }
  (t.handVaults.place .position).reform

/-- Whether a vault is present. -/
def State.vaultPresent (s : State) : Vault → Bool
  | .reject => s.rejectVault.present
  | .intake => s.intakeVault.present

/-- Whether nothing moves that steps 3 and 4 of R58 wait for. -/
def State.vaultAtRest (s : State) : Vault → Bool
  | .reject => decide (s.route = .free) && decide (s.staging.purge ≠ .running) && decide (s.picker.state ≠ .feeding)
  | .intake => !s.anyCollecting

/-- VAULT EMPTIED (R58, R177). -/
def execVaultEmptied (vault teller : Nat) (s : State) : Host.Outcome State Fault Refusal :=
  .next
    (s.answer fun t =>
      named (Vault.ofNat? vault) .range fun v =>
      named (Teller.ofNat? teller) .range fun who =>
      need (t.vaultPresent v) .badState <|
      need (t.vaultAtRest v) .busy <|
      t.approveDual (.vault v) none who fun u => u.emptyVault v)

/-- A vault's present flag set as its sensor shows. -/
def State.setPresent (s : State) (v : Vault) (present : Bool) : State :=
  match v with
  | .reject => { s with rejectVault := { s.rejectVault with present := present } }
  | .intake => { s with intakeVault := { s.intakeVault with present := present } }

/-- VAULT_PRESENCE_CHANGE (R55 to R57): the flag, and the full source with it. -/
def execVaultPresenceChange (v : Vault) (present : Bool) (s : State) : Host.Outcome State Fault Refusal :=
  .next (s.setPresent v present).handVaults.reform

/-! ### POSITION QUERY -/

/-- What POSITION QUERY names: 1 to 4 the positions, 5 the reject vault, 6 the intake vault (R187). -/
def State.targetBytes (s : State) (target : Nat) : Option (List Byte) :=
  match target with
  | 5 => some (s.rejectVault.bytes ++ beBytes 2 s.rejectVault.room)
  | 6 => some s.intakeVault.bytes
  | n => (Pos.ofNat? n).map s.positionBytes

/-- POSITION QUERY (R61). -/
def execPositionQuery (target : Nat) (s : State) : Host.Outcome State Fault Refusal :=
  .next (s.answer fun t => named (t.targetBytes target) .range fun payload => .ok (t, payload))

end Sys2Proof.Machine
end

