-- ==== Sys2Proof/Machine/Dispensing.lean ====
section
/-! DEFINITION. The Dispense Engine's events (chapter 3): pick results (R72 to R77), resuming (R68), purges (R79), retracts (R65, R83,
R84), the route arbiter (R80, R81), deliveries (R82, R89) and sweeps (R91, R92); and the disputes they share with the Lane
Ring (R133, R135). -/

namespace Sys2Proof.Machine

/-! ### Picks -/

/-- PICKER_RESUME (R68): with no pause condition left, a PAUSED picker applies the segment check and the next pick. -/
def execPickerResume (s : State) : Host.Outcome State Fault Refusal :=
  match s.picker.ticket with
  | some n => if s.picker.state = .paused ∧ ¬ s.pausing then .next (s.workPick n).reform else .next s
  | none => .next s

/-- The note gauge's judgment of a passing note (R72), in its order. -/
def judgeNote (refs : GaugeRefs) (thickness length : Nat) : GaugeResult :=
  if 26 * refs.thickness < 10 * thickness then .multiple
  else if 16 * refs.thickness ≤ 10 * thickness then .double
  else if 75 * refs.thickness ≤ 100 * thickness ∧ 100 * thickness ≤ 125 * refs.thickness
      ∧ refs.length ≤ length + 4 ∧ length ≤ refs.length + 4 then .single
  else .skew

/-- What a pick result changes in the ticket it was made for, in PICKING and in PURGING (R11, R3). -/
def Dispense.takeResult (r : GaugeResult) (d : Dispense) : Dispense :=
  if d.state = .picking ∨ d.state = .purging then
    match r with
    | .single => { d with goodPicked := d.goodPicked + 1, plan := pickOne d.plan }
    | .skew | .double | .multiple => { d with rejectPicks := addUpTo Config.maxRejects d.rejectPicks r.rejected }
    | .miss => d
  else d

/-- A SINGLE note in staging (R73). -/
def Staging.takeResult (r : GaugeResult) (value : Nat) (x : Staging) : Staging :=
  match r with
  | .single => { x with held := x.held + 1, value := x.value + value }
  | .skew | .double | .multiple | .miss => x

/-- SGATE as a result leaves it (R72): a SINGLE is turned into staging, a reject onto the reject path, and a MISS turns no
note. -/
def StagingGate.turn (g : StagingGate) (r : GaugeResult) : StagingGate :=
  match r with
  | .single => .intoStaging
  | .skew | .double | .multiple => .toReject
  | .miss => g

/-- The bundle is complete (R76). -/
def State.completeBundle (s : State) (n : Nat) : State :=
  { s.claim n (· = .picking) (Dispense.enter .staged) with staging := { s.staging with complete := true } }

/-- The void of a ticket whose pick in flight has ended (R77): a purge is asked, or the ticket is VOIDED with retracted 0. -/
def State.finishVoid (s : State) (n : Nat) : State :=
  if 0 < s.staging.held then { s with staging := { s.staging with purge := .waiting } }
  else { s.claim n (· = .purging) (Dispense.enter .voided) with staging := .empty }

/-- The picker's next step after a result, with the picker out of FEEDING (R73, R75). -/
def State.nextStep (s : State) (n : Nat) (r : GaugeResult) : State :=
  match s.dispense n with
  | some d =>
    match d.state with
    | .picking =>
      if d.goodPicked = planNotes d.plan then s.completeBundle n
      else if 0 < r.rejected ∧ s.params.maxRejects < d.rejectPicks then s.haltPick n .rejects
      else s.takeUp n
    | .purging => s.finishVoid n
    | .awaitingSecond | .queued | .pickHalted | .staged | .routing | .presented | .retracting | .disputed | .delivered
    | .returned | .voided | .expired | .resolved => s
  | none => s

/-- The gauge result event (R73), of a pick at a position for a ticket: the position, the ticket and staging take the result
as the staging gate turns the note (R72), the grant of the D gate ends (R59), and the next step follows. A LOCKDOWN that the
result brings by the reject vault full source is entered before the grant ends (DESIGN CHOICE, log entry 30), and duress marks
that it claims reach a ticket which this result takes to VOIDED (R77; DESIGN CHOICE, log entry 41). -/
def State.pickResult (s : State) (n : Nat) (p : Pos) (r : GaugeResult) : State :=
  let t := s.countPick p r
  let t := t.adjust n (Dispense.takeResult r)
  let t := { t with staging := t.staging.takeResult r t.picker.refs.value, sgate := t.sgate.turn r }
  let t := if p = .d then t.freeGate else t
  { t with picker := t.picker.stop }.nextStep n r

/-- A result taken while the picker is FEEDING; at any other time no pick is in flight and there is no result to take. -/
def State.takeGauge (s : State) (r : GaugeResult) : State :=
  match s.picker.state, s.picker.ticket, s.picker.position with
  | .feeding, some n, some p => (s.pickResult n p r).reform
  | _, _, _ => s

/-- GAUGE_RESULT (R72, R73), from the measures of a note that passed. -/
def execGaugeResult (thickness length : Nat) (s : State) : Host.Outcome State Fault Refusal :=
  .next (s.takeGauge (judgeNote s.picker.refs thickness length))

/-- PICK_MISS_TIMEOUT (R72, R74): no note passed within 400 ms. -/
def execPickMissTimeout (s : State) : Host.Outcome State Fault Refusal := .next (s.takeGauge .miss)

/-! ### Retracts and purges -/

/-- The oldest OWED entry of the retract list (R65). -/
def State.oldestOwed (s : State) : Option Retract := s.retracts.find? fun e => decide (e.stage = .owed)

/-- A purge may begin (R79): it waits, its notes fit, the count point holds nothing, and it comes after the OWED retracts. -/
def State.purgeMayBegin (s : State) : Bool :=
  decide (s.staging.purge = .waiting) && s.fits s.staging.held && !s.counting
    && match s.oldestOwed with
       | some e => !s.fits e.expected
       | none => true

/-- PURGE_BEGIN (R79). -/
def execPurgeBegin (s : State) : Host.Outcome State Fault Refusal :=
  if s.purgeMayBegin then .next { s with staging := { s.staging with purge := .running } } else .next s

/-- A running purge ended with the reject-entry sensor's count (R79). The reject vault full source is handed before the ticket is
VOIDED, so duress marks that it claims reach the ticket (DESIGN CHOICE, log entry 41). -/
def State.endPurge (s : State) (count : Nat) : State :=
  let held := s.staging.held
  let t := s.changeRejectVault fun v => (v.addRetracted held).addSweep (count - held)
  let t := match s.staging.owner with
    | some n =>
      t.claim n (· = DispenseState.purging) fun d => { Dispense.enter .voided d with retracted := held }
    | none => t
  { t with staging := .empty }

/-- PURGE_COMPLETION (R79). -/
def execPurgeCompletion (count : Nat) (s : State) : Host.Outcome State Fault Refusal :=
  if s.staging.purge = .running then .next (s.endPurge count).reform else .next s

/-- Whether a lane has a retract in the list or in flight. -/
def State.retracting (s : State) (l : Lane) : Bool :=
  s.retracts.any (fun e => decide (e.lane = l)) || s.retractingFrom l

/-- A retract asked for a lane (R83); asked once for a lane at a time. -/
def State.askRetract (s : State) (e : Retract) : State :=
  if s.retracting e.lane then s
  else { s with retracts := s.retracts ++ [e] }

/-- The entry of a retract just asked for a ticket (R65). -/
def State.ticketRetract (s : State) (l : Lane) (n : Nat) (kind : RetractKind) : Retract :=
  { lane := l, holder := .ticket n, kind := kind, expected := (s.dispense n).elim 0 Dispense.presented, stage := .owed }

/-- The first OWED entry made CLAIMED. -/
def claimFirst : List Retract → List Retract
  | [] => []
  | e :: es => match e.stage with
    | .owed => { e with stage := .claimed } :: es
    | .claimed => e :: claimFirst es

/-- An entry promoted (R65): with kind TICKET its ticket enters RETRACTING (R11). A ticket that has become DISPUTED meanwhile does
not take the claim, and the entry is carried out as it stands, with kind TICKET (DESIGN CHOICE, log entry 33). -/
def State.promote (s : State) (e : Retract) : State :=
  let t := { s with retracts := claimFirst s.retracts }
  match e.kind, e.holder with
  | .ticket, .ticket n => t.claim n (· = .presented) fun d => { d.enter .retracting with deadline := none }
  | _, _ => t

/-- RETRACT_PROMOTION (R65): the oldest OWED entry becomes CLAIMED when its notes fit. -/
def execRetractPromotion (s : State) : Host.Outcome State Fault Refusal :=
  match s.oldestOwed with
  | some e => if s.fits e.expected then .next (s.promote e).reform else .next s
  | none => .next s

/-! ### The route -/

/-- The transport sweep may begin (R91). -/
def State.sweepMayBegin (s : State) : Bool :=
  s.sweepPending && s.wall.starting && decide (s.route = .free) && decide (s.staging.owner = none)
    && s.fits Config.sweepNotes

/-- The oldest CLAIMED entry of the retract list. -/
def State.oldestClaimed (s : State) : Option Retract := s.retracts.find? fun e => decide (e.stage = .claimed)

/-- The retract the arbiter grants, if it grants one now (R80). -/
def State.grantableRetract (s : State) : Option Retract :=
  if s.route = .free ∧ ¬ s.sweepMayBegin then s.oldestClaimed else none

/-- RETRACT_GRANT (R80, R84): the entry leaves the list and the route draws the drawer's contents in. -/
def execRetractGrant (s : State) : Host.Outcome State Fault Refusal :=
  match s.grantableRetract with
  | some e =>
    .next
      { s with retracts := s.retracts.erase e, route := .retracting e.lane e.holder e.kind e.expected }.reform
  | none => .next s

/-- The conditions of R81 on a lane. -/
def State.laneReady (s : State) (l : Lane) : Bool :=
  let r := s.lane l
  decide (r.link = .online) && decide (r.holder = none) && !s.retracts.any (fun e => decide (e.lane = l))
    && decide (r.repDrawer = some .locked) && decide (r.repNotes = some false) && decide (r.repFault = some false)

/-- The STAGED ticket and its lane, when the arbiter grants its delivery (R80, R81). -/
def State.grantableDelivery (s : State) : Option (Nat × Lane) :=
  match s.staging.owner.bind s.ticket with
  | some { number := n, lane := l, body := .dispense d, .. } =>
    if d.state = .staged ∧ s.route = .free ∧ ¬ s.sweepMayBegin ∧ s.oldestClaimed = none ∧ s.staging.complete
        ∧ s.laneReady l ∧ ¬ s.alarms.lockdown ∧ ¬ s.counting then
      some (n, l)
    else none
  | _ => none

/-- A delivery begins (R82). -/
def State.deliver (s : State) (n : Nat) (l : Lane) : State :=
  { s.claim n (· = .staged) (Dispense.enter .routing) with
    route := .delivering l n s.staging.held s.staging.value, staging := .empty }

/-- DELIVERY_GRANT (R80 to R82). -/
def execDeliveryGrant (s : State) : Host.Outcome State Fault Refusal :=
  match s.grantableDelivery with
  | some (n, l) => .next (s.deliver n l).reform
  | none => .next s

/-! ### Disputes -/

/-- The key of the dispute list (R135). -/
def Dispute.key (e : Dispute) : Nat := e.ticket

/-- A PRESENTED ticket enters DISPUTED (R11, R133 to R135): unresolved equals presented, a dispute entry is made, the lost
decision becomes none with its timer, and the presentation record is discarded. -/
def State.dispute (s : State) (n : Nat) (l : Lane) : State :=
  match s.dispense n with
  | some d =>
    if d.state = .presented then
      let t := s.move n (.dispense { d.enter .disputed with unresolved := d.presented, deadline := none })
      let t := { t with disputes := putByKey Dispute.key ⟨n, l, none⟩ t.disputes }
      (t.putLane l { t.lane l with lost := .idle, lostTimer := none }).putPresentation l none
    else s
  | none => s

/-! ### Arrival -/

/-- The presentation record of a bundle that arrives (R89). -/
def State.presentation (s : State) (n : Nat) : Presentation :=
  { ticket := n, openedSeen := false, closeAsked := s.alarms.lockdown, decided := s.alarms.lockdown }

/-- The bundle in the drawer (R82, R89): the holder, the claim, the presentation, and in LOCKDOWN the retract. A lost-lane
expiry that was kept for the ROUTING ticket is claimed at once (R133). -/
def State.arrive (s : State) (l : Lane) (n : Nat) : State :=
  let t := { s.putLane l { s.lane l with holder := some (.ticket n) } with route := .free }
  let t := t.claim n (· = .routing) fun d => { d.enter .presented with presented := d.goodPicked }
  let t := t.putPresentation l (some (t.presentation n))
  let t := if t.alarms.lockdown then t.askRetract (t.ticketRetract l n .ticket) else t
  if (t.lane l).lost = .owedExpired then t.dispute n l else t

/-- DELIVERY_ARRIVAL (R82, R89). -/
def execDeliveryArrival (s : State) : Host.Outcome State Fault Refusal :=
  match s.route with
  | .delivering l n _ _ => .next (s.arrive l n).reform
  | .free | .retracting .. | .sweeping => .next s

/-! ### Retract completion -/

/-- The count of a retract handed out by its kind (R84). For a TICKET retract whose ticket did not enter RETRACTING the ticket is
left as it is, and the vault takes the same two parts (DESIGN CHOICE, log entry 33). The ticket is RETURNED before the reject
vault full source is handed, so duress marks that it claims do not reach the ticket (DESIGN CHOICE, log entry 41). -/
def State.handRetract (s : State) (holder : Holder) (kind : RetractKind) (c : Nat) : State :=
  match kind, holder with
  | .ticket, .ticket n =>
    let share := min c ((s.dispense n).elim 0 Dispense.presented)
    let t := s.claim n (· = .retracting) fun d =>
      { d.enter .returned with retracted := d.retracted + share, delivered := d.presented - (d.retracted + share) }
    t.changeRejectVault fun v => (v.addRetracted share).addSweep (c - share)
  | .disputed, .ticket n =>
    let t := { s with disputes := s.disputes.map fun (e : Dispute) =>
      if e.ticket = n then { e with sweptBack := some (min Config.maxRejects c) } else e }
    t.changeRejectVault fun v => v.addSweep c
  | _, _ => s.changeRejectVault fun v => v.addSweep c

/-- A retract in flight ended (R84): the drawer holder and the presentation record go, and the route is FREE. -/
def State.endRetract (s : State) (l : Lane) (holder : Holder) (kind : RetractKind) (c : Nat) : State :=
  let t := { s.putLane l { s.lane l with holder := none } with route := .free }
  (t.handRetract holder kind c).putPresentation l none

/-- RETRACT_COMPLETION (R84). -/
def execRetractCompletion (count : Nat) (s : State) : Host.Outcome State Fault Refusal :=
  match s.route with
  | .retracting l holder kind _ => .next (s.endRetract l holder kind count).reform
  | .free | .delivering .. | .sweeping => .next s

/-! ### Sweeps -/

/-- SWEEP_BEGIN (R80, R91). -/
def execSweepBegin (s : State) : Host.Outcome State Fault Refusal :=
  if s.sweepMayBegin then .next { s with sweepPending := false, route := .sweeping }.reform else .next s

/-- The join decision of a lane's drawer by its holder and its reported notes (R92). The holder of a DISPUTED drawer that is
being swept back stays until its retract completes. -/
def State.decideDrawer (s : State) (l : Lane) : State :=
  let r := s.lane l
  match r.holder with
  | none =>
    if r.repNotes = some true ∧ ¬ s.deliveringTo l then
      (s.putLane l { r with holder := some .sweep }).askRetract
        { lane := l, holder := .sweep, kind := .sweep, expected := Config.sweepNotes, stage := .owed }
    else s
  | some (.ticket n) =>
    match s.dispense n with
    | some d =>
      if d.state = .disputed then
        if r.repNotes = some true then s.askRetract (s.ticketRetract l n .disputed)
        else if s.retracting l then s
        else s.putLane l { r with holder := none }
      else s
    | none => s
  | some .sweep => s

/-- The transport sweep ended (R91). The lanes ONLINE are decided from 1 to 8, and their retracts join the list in that order
(DESIGN CHOICE, log entry 38). -/
def State.endSweep (s : State) (count : Nat) : State :=
  let t := s.changeRejectVault fun v => v.addSweep count
  let t := { t with route := .free, sweepDone := true }
  let t := Lane.all.foldl (fun u l => if (u.lane l).link = .online then u.decideDrawer l else u) t
  t.requestCount .start .empty

/-- SWEEP_COMPLETION (R91, R92, R160). -/
def execSweepCompletion (count : Nat) (s : State) : Host.Outcome State Fault Refusal :=
  if s.route = .sweeping then .next (s.endSweep count).reform else .next s

end Sys2Proof.Machine
end

