-- ==== Sys2Proof/Machine/Deposits.lean ====
section
/-! DEFINITION. The Deposit Unit's commands and events (chapter 4): envelopes (R100 to R106), bins (R107 to R109) and intake runs
(R110 to R117). -/

namespace Sys2Proof.Machine

/-! ### Envelopes -/

/-- A claim on an ENVELOPE ticket (R23), taken in the state named. -/
def State.envelopeClaim (s : State) (n : Nat) (takenIn : EnvelopeState) (f : Envelope → Envelope) : State :=
  match s.envelope n with
  | some e => if e.state = takenIn then s.move n (.envelope (f e)) else s
  | none => s

/-- The earlier opened of two tickets (R2: the open stamp). -/
def earlier (x : Option Ticket) (t : Ticket) : Option Ticket :=
  match x with
  | some u => if t.openStamp < u.openStamp then some t else some u
  | none => some t

/-- The ENVELOPE ticket of a lane in AWAITING_ENVELOPE with the oldest open stamp (R23). -/
def State.oldestWaiting (s : State) (l : Lane) : Option Ticket :=
  (s.tickets.filter (Ticket.awaitsEnvelope l)).foldl earlier none

/-- Why an insertion is refused: the first of the steps of R100 that holds. -/
def State.refusesInsert (s : State) (l : Lane) : Option RefusalCause :=
  if ¬ s.wall.service then some .notInService
  else if s.alarms.lockdown then some .lockdown
  else if ¬ (s.lane l).binVerified then some .binUnverified
  else if Config.binSize ≤ (s.lane l).binCount then some .binFull
  else if s.awaitsEnvelope l then none
  else if ¬ s.params.autoEnvelope then some .noTicket
  else if ¬ s.hasFreeEntry then some .tableFull
  else none

/-- A capture begun for a ticket (R23, R100). -/
def State.beginCapture (s : State) (l : Lane) (n : Nat) : State :=
  (s.envelopeClaim n .awaitingEnvelope fun e => { e with state := .capturing }).putHandling l
    { s.handlings.get l with state := .capturing, ticket := some n, jam := none }

/-- An accepted insertion (R100), for the waiting ticket or for a lane-opened one made now (R10). -/
def State.acceptInsert (s : State) (l : Lane) : State :=
  match s.oldestWaiting l with
  | some t => s.beginCapture l t.number
  | none => (s.openTicket l none ⟨false, false⟩ (.envelope newEnvelope)).beginCapture l s.issueNumber

/-- A refused insertion (R100). -/
def State.refuseInsert (s : State) (l : Lane) (why : RefusalCause) : State :=
  let h := s.handlings.get l
  (s.putHandling l { h with state := .returning, lastRefusal := some why, refusals := addUpTo 255 h.refusals 1 }).place
    .envelopeRefused

/-- An insert event (R100, R101). -/
def State.insertEvent (s : State) (l : Lane) : State :=
  match (s.handlings.get l).state with
  | .idle =>
    match s.refusesInsert l with
    | some why => s.refuseInsert l why
    | none => s.acceptInsert l
  | .capturing | .returning | .jammed => s

/-- The handling of a lane back to IDLE. -/
def State.handlingIdle (s : State) (l : Lane) : State :=
  s.putHandling l { s.handlings.get l with state := .idle, ticket := none, jam := none }

/-- One more envelope in a lane's bin (R107). -/
def State.raiseBin (s : State) (l : Lane) : State :=
  let n := (s.lane l).binCount + 1
  (s.putLane l { s.lane l with binCount := n }).placeIf (decide (n = Config.binSize)) .lane

/-- A capture done event (R102). -/
def State.captureDone (s : State) (l : Lane) : State :=
  let h := s.handlings.get l
  match h.state, h.ticket with
  | .capturing, some n =>
    let t := s.raiseBin l
    (t.envelopeClaim n .capturing fun e =>
      { e with state := .envelopeHeld, sequence := some (t.lane l).binCount }).handlingIdle l
  | _, _ => s

/-- A capture that ends in a jam (R103). -/
def State.jam (s : State) (l : Lane) (why : JamCause) : State :=
  let h := s.handlings.get l
  match h.state, h.ticket with
  | .capturing, some n =>
    (s.envelopeClaim n .capturing fun e => { e with state := .jammed }).putHandling l
      { h with state := .jammed, jam := some why }
  | _, _ => s

/-- A return done event (R103, R104). -/
def State.returnDone (s : State) (l : Lane) : State :=
  match (s.handlings.get l).state with
  | .capturing => s.jam l .returned
  | .returning => s.handlingIdle l
  | .idle | .jammed => s

/-- An event handed to the Deposit Unit (R130). -/
def State.takeEvent (s : State) (l : Lane) (kind : EventKind) : State :=
  match kind with
  | .insert => s.insertEvent l
  | .captureDone => s.captureDone l
  | .captureJam => s.jam l .station
  | .returnDone => s.returnDone l

/-- The first STATUS_L after a lane's return decides a handling in CAPTURING or RETURNING (R105). -/
def State.decideHandling (s : State) (l : Lane) (x : SlotValue) : State :=
  match (s.handlings.get l).state with
  | .capturing => if x = .capture then s else s.jam l .resultLost
  | .returning => if x = .giveBack then s else s.handlingIdle l
  | .idle | .jammed => s

/-- The outcome CLEAR JAM names: 1 CAPTURED (true), 2 NOT_CAPTURED (false). -/
def jamOutcome (n : Nat) : Option Bool :=
  match n with
  | 1 => some true
  | 2 => some false
  | _ => none

/-- A cleared jam (R106). -/
def State.clearedJam (s : State) (n : Nat) (l : Lane) (captured : Bool) : State :=
  if captured then
    let t := s.raiseBin l
    (t.envelopeClaim n .jammed fun e =>
      { e with state := .envelopeHeld, sequence := some (t.lane l).binCount }).handlingIdle l
  else (s.envelopeClaim n .jammed fun e => { e with state := .voided }).handlingIdle l

/-- CLEAR JAM (R106). -/
def execClearJam (ticket outcome : Nat) (s : State) : Host.Outcome State Fault Refusal :=
  .next
    (s.answer fun t =>
      need t.wall.service .notInService <|
      need (numberInRange ticket) .range <|
      named (t.ticket ticket) .notFound fun k =>
      named (jamOutcome outcome) .range fun captured =>
      named (t.envelope ticket) .badState fun e =>
      need (decide (e.state = .jammed)) .badState <|
      .ok ((t.clearedJam ticket k.lane captured).ticketDone ticket))

/-! ### Bins -/

/-- The bin of a lane counted anew and VERIFIED (R107 to R109). -/
def State.setBin (s : State) (l : Lane) (count : Nat) : State :=
  ((s.putLane l { s.lane l with binCount := count, binVerified := true }).place .lane).reform

/-- Whether an ENVELOPE ticket of a lane points into its bin or its slot (R108 step 2). -/
def Ticket.pointsInto (l : Lane) (t : Ticket) : Bool :=
  decide (t.lane = l)
    && match t.body with
       | .envelope e => decide (e.state = .capturing ∨ e.state = .jammed ∨ e.state = .envelopeHeld)
       | .dispense _ => false
       | .intake _ => false

/-- BIN EMPTIED (R108, R177). -/
def execBinEmptied (lane teller : Nat) (s : State) : Host.Outcome State Fault Refusal :=
  .next
    (s.answer fun t =>
      named (t.namedLane lane) .range fun l =>
      named (Teller.ofNat? teller) .range fun who =>
      need (!t.tickets.any (Ticket.pointsInto l)) .badState <|
      t.approveDual (.bin l) none who fun u => u.setBin l 0)

/-- BIN SET (R109). -/
def execBinSet (lane count : Nat) (s : State) : Host.Outcome State Fault Refusal :=
  .next
    (s.answer fun t =>
      named (t.namedLane lane) .range fun l =>
      need (decide (count ≤ Config.binSize)) .range <|
      need (!(t.lane l).binVerified) .badState <|
      .ok (t.setBin l count, []))

/-! ### Intake runs -/

/-- A claim on an INTAKE ticket in COLLECTING that is no state change (R24). -/
def State.intakeCount (s : State) (n : Nat) (f : Intake → Intake) : State :=
  match s.intake n with
  | some k => if k.state = .collecting then s.rewrite n (.intake (f k)) else s
  | none => s

/-- A claim on an INTAKE ticket that changes its state (R24). -/
def State.intakeClaim (s : State) (n : Nat) (takenIn next : IntakeState) : State :=
  match s.intake n with
  | some k => if k.state = takenIn then s.move n (.intake { k with state := next }) else s
  | none => s

/-- The intake run begun (R110). The ACCEPT ON waits while a stray note is being returned. -/
def State.beginIntake (s : State) (n : Nat) : State :=
  let t := s.intakeClaim n .readyIntake .collecting
  let t := { t with intakeRec := { t.intakeRec with state := .ready, owner := some n, finishHeld := false } }
  if t.intakeRec.stray then t else t.tellHead .acceptOn

/-- INTAKE BEGIN (R110). -/
def execIntakeBegin (ticket : Nat) (s : State) : Host.Outcome State Fault Refusal :=
  .next
    (s.answer fun t =>
      need t.wall.service .notInService <|
      need (numberInRange ticket) .range <|
      named (t.ticket ticket) .notFound fun _ =>
      named (t.intake ticket) .badState fun k =>
      need (decide (k.state = .readyIntake)) .badState <|
      need (!t.alarms.lockdown) .locked <|
      need (!t.anyCollecting) .busy <|
      .ok ((t.beginIntake ticket).ticketDone ticket))

/-- The end of a run (R116, R117): the ticket enters COUNTED and the record is IDLE. -/
def State.endRun (s : State) (n : Nat) : State :=
  let t := s.intakeClaim n .collecting .counted
  { t with intakeRec := { t.intakeRec with state := .idle, owner := none, escrow := none, destination := none,
                                           finishHeld := false } }

/-- INTAKE FINISH taken (R117). Taken again with the finish held it changes nothing. -/
def State.finishIntake (s : State) (n : Nat) : State :=
  if s.intakeRec.finishHeld then s
  else
    let t := s.tellHead .acceptOff
    match t.intakeRec.state with
    | .ready => t.endRun n
    | .deciding | .waitingGate | .placing => { t with intakeRec := { t.intakeRec with finishHeld := true } }
    | .idle => t

/-- INTAKE FINISH (R117). -/
def execIntakeFinish (ticket : Nat) (s : State) : Host.Outcome State Fault Refusal :=
  .next
    (s.answer fun t =>
      need t.wall.service .notInService <|
      need (numberInRange ticket) .range <|
      named (t.ticket ticket) .notFound fun _ =>
      named (t.intake ticket) .badState fun k =>
      need (decide (k.state = .collecting)) .badState <|
      .ok ((t.finishIntake ticket).ticketDone ticket))

/-- ESCROW_EVENT (R111, R112), by the intake record's state; the value is the denomination table's for the code. -/
def execEscrowEvent (code : Option Code) (s : State) : Host.Outcome State Fault Refusal :=
  match s.intakeRec.state with
  | .idle =>
    .next ({ s with intakeRec := { s.intakeRec with stray := true } }.tellHead (.place .tray)).reform
  | .ready => .next (s.decideNote ⟨code, code.bind s.params.denominations.get⟩).reform
  | .deciding | .waitingGate | .placing => .next s

/-- A note accepted into a ticket's counts (R24). -/
def Intake.accept (c : Code) (value : Nat) (k : Intake) : Intake :=
  { k with accepted := k.accepted.set c (k.accepted.get c + 1), amount := k.amount + value }

/-- The placement claim of R24, by destination. -/
def Intake.placed (x : Destination) (e : Escrow) (k : Intake) : Intake :=
  match x, e.code, e.value with
  | .cassetteD, some c, some v => { k.accept c v with recycled := k.recycled + 1 }
  | .vault, some c, some v => { k.accept c v with vaulted := k.vaulted + 1 }
  | .tray, _, _ => { k with returned := addUpTo Config.intakeFullAt k.returned 1 }
  | _, _, _ => k

/-- The Cassette Bank's part of a note placed (R45, R57, R59). -/
def State.bankNote (s : State) (x : Destination) (e : Escrow) : State :=
  match x, e.code with
  | .cassetteD, _ => s.countStore.freeGate
  | .vault, some c => { s with intakeVault := s.intakeVault.addNote c }.handVaults
  | .vault, none => s
  | .tray, _ => s

/-- The intake record after a placement (R116). -/
def State.leavePlacing (s : State) (n : Nat) : State :=
  if s.intakeRec.finishHeld then s.endRun n
  else { s with intakeRec := { s.intakeRec with state := .ready, escrow := none, destination := none } }

/-- A note in PLACING placed (R116), counted by its three takers. The intake vault full source is handed before a held finish
takes the ticket to COUNTED, so duress marks that it claims reach the ticket (DESIGN CHOICE, log entry 41). -/
def State.notePlaced (s : State) (n : Nat) (x : Destination) (e : Escrow) : State :=
  ((s.bankNote x e).intakeCount n (Intake.placed x e)).leavePlacing n

/-- A stray note placed (R110, R111): it counts to no ticket, and in OPEN the ACCEPT ON held back is sent. -/
def State.strayPlaced (s : State) : State :=
  let t := { s with intakeRec := { s.intakeRec with stray := false } }
  if s.intakeRec.state = .ready then t.tellHead .acceptOn else t

/-- NOTE_PLACED (R111, R116). -/
def execNotePlaced (s : State) : Host.Outcome State Fault Refusal :=
  match s.intakeRec.state with
  | .placing =>
    match s.intakeRec.owner, s.intakeRec.destination, s.intakeRec.escrow with
    | some n, some x, some e => .next (s.notePlaced n x e).reform
    | _, _, _ => .next s
  | .idle | .ready => if s.intakeRec.stray then .next s.strayPlaced.reform else .next s
  | .deciding | .waitingGate => .next s

end Sys2Proof.Machine
end

