-- ==== Sys2Proof/Machine/LaneRing.lean ====
section
/-! DEFINITION. The Lane Ring Controller's commands and events (chapter 5): the slots of a frame (R119, R120, R122 to R127), the
judgment at the frame end (R128, R129), the handing on of reports (R130, R131, R193), lane loss (R132 to R134), RESOLVE (R136),
LANE RESTART (R137) and LANE QUERY (R140). -/

namespace Sys2Proof.Machine

/-! ### The sync slot -/

/-- The link states that have a word in their slot and are judged. -/
def Link.judged : Link → Bool
  | .joining | .online | .silent => true
  | .disabled | .faulted => false

/-- A lane enabled by a lane count (R138). -/
def LaneRec.enabled (r : LaneRec) : LaneRec :=
  if r.link = .disabled then
    { r with link := .joining, badRun := 0, faultRun := 0, joinRun := .idle, lastEvent := none }
  else r

/-- A lane record changed, with LANE placed when its link state changes (R129). -/
def State.changeLane (s : State) (l : Lane) (r : LaneRec) : State :=
  (s.putLane l r).placeIf (decide ((s.lane l).link ≠ r.link)) .lane

/-- A lane enabled or disabled by a lane count that acts now (R138). -/
def State.applyCountTo (count : Nat) (s : State) (l : Lane) : State :=
  let r := s.lane l
  if l.number ≤ count then s.changeLane l r.enabled
  else if r.link = .disabled then s
  else ((s.changeLane l { r with link := .disabled }).hand (.lineFault l) false).hand (.laneTamper l) false

/-- A lane count that CONFIGURE has set acts at the start of the frame (R119, R138). -/
def State.applyLaneCount (s : State) : State :=
  match s.ring.pendingCount with
  | some n =>
    let t := { s with ring := { s.ring with enabledCount := n, pendingCount := none } }
    Lane.all.foldl (State.applyCountTo n) t
  | none => s

/-- The number of a frame that starts (R119): the first after a full reset carries 0. -/
def Ring.nextFrame (r : Ring) : Nat := if r.started then (r.frameNumber + 1) % 256 else r.frameNumber

/-- SYNC_SLOT (R119, R120, R138): the STAMP to all stations, with its transmit verify. -/
def execSyncSlot (heard : RingWord) (s : State) : Host.Outcome State Fault Refusal :=
  let n := s.ring.nextFrame
  let word := stampWord 0 n
  let t := { s with ring := { s.ring with frameNumber := n, started := true, ltx := some word,
                                          syncFault := decide (heard ≠ word) } }
  .next t.applyLaneCount.reform

/-! ### Lane slots -/

/-- Whether a reported drawer value answers a drawer value sent (R123). -/
def DrawerValue.matchedBy (x : DrawerValue) (y : Option DrawerReport) : Bool :=
  match x, y with
  | .locked, some .locked => true
  | .unlocked, some .unlocked => true
  | .unlocked, some .opened => true
  | .closing, some .locked => true
  | _, _ => false

/-- The downlink word of a lane that is ONLINE: the first unmatched group, or a STAMP (R125). -/
def LaneRec.commandTo (r : LaneRec) (l : Lane) (frame : Nat) : RingWord :=
  if ¬ r.effDrawer.matchedBy r.repDrawer then commandWord l r.effDrawer.code
  else if r.repSlot ≠ some r.effSlot then commandWord l (3 + r.effSlot.code)
  else if r.repLamp ≠ some r.desiredLamp then commandWord l (7 + r.desiredLamp.code)
  else stampWord l.number frame

/-- The downlink word of a lane slot by the link state as the slot begins (R125): none in a FAULTED lane's slot, and a DISABLED
lane has none. So a lane that LANE RESTART takes to JOINING before its slot has its STAMP in the same frame, though R137 says
from the next one (DESIGN CHOICE, log entry 34). -/
def State.downlink (s : State) (l : Lane) : Option RingWord :=
  let r := s.lane l
  match r.link with
  | .online => some (r.commandTo l s.ring.frameNumber)
  | .joining | .silent => some (stampWord l.number s.ring.frameNumber)
  | .faulted | .disabled => none

/-- Whether a stamp echo is that of the current frame or of the one before it (row 5 of R127). -/
def echoRight (frame echo : Nat) : Bool := decide (echo = frame % 16) || decide (echo = (frame + 255) % 16)

/-- The reply outcome of a lane slot (R127): the first row that holds. -/
def judgeReply (frame : Nat) (reply : Reply) : SlotOutcome :=
  match reply with
  | .silent => .silentSlot
  | .word inWindow cut w =>
    if ¬ inWindow then .receiveError false
    else if cut then .receiveError false
    else
      match readUplink w with
      | none => .receiveError false
      | some (.statusL slot lamp call tamper echo) =>
        if echoRight frame echo then .valid (.statusL slot lamp call tamper echo) else .receiveError true
      | some (.statusD drawer notes fault) => .valid (.statusD drawer notes fault)
      | some (.event kind number) => .valid (.event kind number)

/-- LANE_SLOT (R120, R125, R127): the downlink word, its transmit verify and the reply outcome, which wait for the frame end.
A FAULTED lane's slot is held without a word, and a DISABLED lane has no slot. -/
def execLaneSlot (l : Lane) (heard : RingWord) (reply : Reply) (s : State) : Host.Outcome State Fault Refusal :=
  match s.downlink l with
  | some word =>
    .next
      { s.putLane l { s.lane l with slotFault := decide (heard ≠ word),
                                    slotReply := some (judgeReply s.ring.frameNumber reply) } with
        ring := { s.ring with ltx := some word } }
  | none =>
    if (s.lane l).link = .faulted then .next { s with ring := { s.ring with ltx := none } } else .next s

/-! ### A lane leaves ONLINE -/

/-- Whether a ticket is a DISPENSE ticket of a lane in ROUTING or PRESENTED. -/
def Ticket.bound (l : Lane) (t : Ticket) : Bool :=
  decide (t.lane = l)
    && match t.body with
       | .dispense d => decide (d.state = .routing ∨ d.state = .presented)
       | .envelope _ => false
       | .intake _ => false

/-- The DISPENSE ticket of a lane in ROUTING or PRESENTED. -/
def State.boundTicket (s : State) (l : Lane) : Option Nat := (s.tickets.find? (Ticket.bound l)).map Ticket.number

/-- Whether the presentation of a lane is decided. -/
def State.decided (s : State) (l : Lane) : Bool :=
  match s.presentations.get l with
  | some p => p.decided
  | none => false

/-- A lane has left ONLINE (R132, R90): its ticket is marked lane lost, a decision is owed unless its presentation is decided
NOTES, and a drawer last reported open is asked to close. With the presentation decided NOTES, or with its ticket gone on to
RETRACTING, a decision that is OWED already stays OWED and its timer is not started (DESIGN CHOICE, log entry 29). -/
def State.leftOnline (s : State) (l : Lane) : State :=
  match s.boundTicket l with
  | some n =>
    let t := s.adjust n fun d => { d with laneLost := true }
    let t :=
      if t.decided l then t
      else t.putLane l { t.lane l with lost := .owed, lostTimer := some t.params.lostLaneLimit }
    if (t.lane l).handedDrawer = some .opened then t.askClose l else t
  | none => s

/-! ### Judging the lanes at the frame end -/

/-- The line faults of the frame applied to one lane (R128). A lane that becomes FAULTED here is judged no further. A lane with no
slot outcome in the frame, such as one restarted after its idle slot, keeps its fault run even when the sync slot had a line
fault (DESIGN CHOICE, log entry 17). -/
def State.applyFault (s : State) (l : Lane) : State :=
  let r := s.lane l
  if r.link.judged ∧ r.slotReply.isSome then
    if r.slotFault ∨ s.ring.syncFault then
      let r' : LaneRec := { r with faultRun := r.faultRun + 1, lineFaults := addUpTo Config.max16 r.lineFaults 1 }
      if 2 ≤ r'.faultRun then
        let t := s.changeLane l { r' with link := .faulted, badRun := 0, joinRun := .idle }
        let t := if r.link = .online then t.leftOnline l else t
        t.hand (.lineFault l) true
      else s.putLane l r'
    else s.putLane l { r with faultRun := 0 }
  else s

/-- Whether an event number leaves a gap behind a lane's last one (R131). -/
def eventGap (last : Option Nat) (number : Nat) : Bool :=
  match last with
  | some k => decide (number ≠ k) && decide (number ≠ (k + 1) % 8)
  | none => false

/-- A bad frame (R129): the bad run, and the counter of its outcome. -/
def LaneRec.badFrame (r : LaneRec) (o : SlotOutcome) : LaneRec :=
  match o with
  | .silentSlot => { r with badRun := addUpTo 4 r.badRun 1, silentSlots := addUpTo Config.max16 r.silentSlots 1 }
  | .receiveError _ => { r with badRun := addUpTo 4 r.badRun 1, receiveErrors := addUpTo Config.max16 r.receiveErrors 1 }
  | .valid _ => { r with badRun := 0 }

/-- A valid status word in JOINING or SILENT: it completes the join when the join run holds the other kind (R129). -/
def LaneRec.joinWith (r : LaneRec) (kind other : JoinRun) : LaneRec :=
  if r.link = .joining ∧ r.joinRun = other then { r with link := .online, joinRun := .idle }
  else { r with link := .joining, joinRun := kind }

/-- The link state judged by a reply outcome (R129), the bad run and the counters having been taken. -/
def LaneRec.judge (r : LaneRec) (o : SlotOutcome) : LaneRec :=
  match r.link, o with
  | .online, .valid (.event _ number) =>
    if eventGap r.lastEvent number then { r with link := .joining, joinRun := .idle } else r
  | .online, .valid (.statusD ..) => r
  | .online, .valid (.statusL ..) => r
  | .online, .receiveError true => { r with link := .joining, joinRun := .idle }
  | .online, _ => if 4 ≤ r.badRun then { r with link := .silent } else r
  | .joining, .valid (.statusD ..) => r.joinWith .statusD .statusL
  | .joining, .valid (.statusL ..) => r.joinWith .statusL .statusD
  | .joining, .valid (.event ..) => r
  | .joining, _ =>
    if 4 ≤ r.badRun then { r with link := .silent, joinRun := .idle } else { r with joinRun := .idle }
  | .silent, .valid (.statusD ..) => r.joinWith .statusD .statusL
  | .silent, .valid (.statusL ..) => r.joinWith .statusL .statusD
  | .silent, .valid (.event ..) => { r with link := .joining, joinRun := .idle }
  | .silent, _ => r
  | .disabled, _ => r
  | .faulted, _ => r

/-- One lane judged by the reply outcome of its slot (R129, R132). The slot of the frame in which a lane has become FAULTED is not
judged (R128), and the model does not raise the counters of R121 for it (DESIGN CHOICE, log entry 35). -/
def State.judgeLane (s : State) (l : Lane) : State :=
  let r := s.lane l
  match r.link.judged, r.slotReply with
  | true, some o =>
    let r' := (r.badFrame o).judge o
    let t := s.changeLane l r'
    if r.link = .online ∧ r'.link ≠ .online then t.leftOnline l else t
  | _, _ => s

/-! ### Drawer reports -/

/-- A shut drawer decided (R88, R193): with no notes the ticket is DELIVERED and the drawer is empty; with notes a retract of
kind TICKET is asked. Either stops the take timer (R29). -/
def State.decideClose (s : State) (l : Lane) (p : Presentation) (notes : Bool) : State :=
  if notes then
    let t := s.adjust p.ticket fun d => { d with deadline := none }
    (t.putPresentation l (some { p with decided := true })).askRetract (t.ticketRetract l p.ticket .ticket)
  else
    let t := s.claim p.ticket (· = .presented) fun d => { d.enter .delivered with delivered := d.presented }
    (t.putLane l { t.lane l with holder := none }).putPresentation l none

/-- The take timer started by the first unlocked report of a presentation (R29). -/
def State.startTake (s : State) (n : Nat) : State :=
  s.adjust n fun d =>
    if d.state = .presented ∧ d.deadline = none then { d with deadline := some ⟨.take, s.params.takeTimeout⟩ } else d

/-- A STATUS_D of a lane with a presented bundle whose ticket is not lane lost (R193). -/
def State.presentReport (s : State) (l : Lane) (p : Presentation) (x : DrawerReport) (notes fault : Bool) : State :=
  if x = .opened then s.putPresentation l (some { p with openedSeen := true })
  else if fault ∨ p.decided then s
  else if p.openedSeen ∨ p.closeAsked then s.decideClose l p notes
  else if x = .unlocked then s.startTake p.ticket
  else s

/-- A STATUS_D of a returned lane whose ticket is lane lost, while the decision is owed (R134). With notes the take deadline is
removed at once, though R29 and R85 name the close report of R88 alone: R83 says that a ticket whose retract is OWED shows no
deadline (DEDUCED, log entry 29). -/
def State.lostReport (s : State) (l : Lane) (p : Presentation) (x : DrawerReport) (notes fault : Bool) : State :=
  if fault then s
  else if x = .opened then s.askClose l
  else if notes then
    let t := s.adjust p.ticket fun d => { d with deadline := none }
    let t := t.putPresentation l (some { p with decided := true })
    (t.putLane l { t.lane l with lost := .idle, lostTimer := none }).askRetract (t.ticketRetract l p.ticket .ticket)
  else
    let t := s.dispute p.ticket l
    t.putLane l { t.lane l with holder := none }

/-- A STATUS_D handed on (R130): to R134 for a lane-lost ticket whose decision is owed, to R193 for any other presented one. -/
def State.drawerReport (s : State) (l : Lane) (x : DrawerReport) (notes fault : Bool) : State :=
  match s.presentations.get l with
  | some p =>
    match s.dispense p.ticket with
    | some d =>
      if ¬ d.laneLost then s.presentReport l p x notes fault
      else if (s.lane l).lost ≠ .idle ∧ d.state = .presented then s.lostReport l p x notes fault
      else s
    | none => s
  | none => s

/-! ### Handing on -/

/-- Whether a VALID EVENT of an ONLINE lane is handed to the Deposit Unit (R131). -/
def eventHanded (last : Option Nat) (number : Nat) : Bool :=
  match last with
  | some k => decide (number = (k + 1) % 8)
  | none => false

/-- A VALID EVENT word taken into the lane record (R131): the last event number, and the unheard mark of an INSERT that is set
without being handed on. -/
def LaneRec.takeEvent (r : LaneRec) (online : Bool) (kind : EventKind) (number : Nat) : LaneRec :=
  if r.lastEvent = some number then r
  else
    { r with lastEvent := some number,
             unheard := r.unheard || (decide (kind = .insert) && !(online && eventHanded r.lastEvent number)) }

/-- The contents of a VALID reply taken into the lane record (R130, R131), `online` saying that the lane is ONLINE after the
judgment of this frame. -/
def LaneRec.take (r : LaneRec) (online : Bool) (w : Uplink) : LaneRec :=
  match w with
  | .statusD drawer notes fault => { r with repDrawer := some drawer, repNotes := some notes, repFault := some fault }
  | .statusL slot lamp call tamper echo =>
    { r with repSlot := some slot, repLamp := some lamp, callButton := some call, tamper := some tamper,
             stampEcho := some echo, unheard := r.unheard && !(online && decide (slot = .closed)) }
  | .event kind number => r.takeEvent online kind number

/-- Whether a change of the reported values places LANE (R139). -/
def LaneRec.conditions (r : LaneRec) : Option Bool × Option Bool × Option Bool := (r.callButton, r.tamper, r.repFault)

/-- The contents of a VALID reply recorded, with LANE and the lane tamper source (R130, R139). -/
def State.recordReply (s : State) (l : Lane) (online : Bool) (w : Uplink) : State :=
  let r := s.lane l
  let r' := r.take online w
  let t := (s.putLane l r').placeIf (decide (r.conditions ≠ r'.conditions)) .lane
  match w with
  | .statusL _ _ _ tamper _ => t.hand (.laneTamper l) tamper
  | .statusD .. | .event .. => t

/-- The entry to ONLINE (R130, R133): the timer stops, the drawer report and the first STATUS_L are handed on, and the drawer is
decided by R92 once the transport sweep is done. A decision owed for a ticket that is neither ROUTING nor PRESENTED any more
(one that R89 decided at its arrival in LOCKDOWN) ends here with its timer (DESIGN CHOICE, log entry 29). -/
def State.enterOnline (s : State) (l : Lane) : State :=
  let r := s.lane l
  let t := s.putLane l
    { r with lostTimer := none, lost := if r.lost = .idle ∨ s.boundTicket l = none then .idle else .owed,
             handedDrawer := r.repDrawer }
  let t :=
    match r.repDrawer, r.repNotes, r.repFault with
    | some x, some notes, some fault => t.drawerReport l x notes fault
    | _, _, _ => t
  let t :=
    match r.repSlot with
    | some x => t.decideHandling l x
    | none => t
  if t.sweepDone then t.decideDrawer l else t

/-- A report handed on by a lane that was ONLINE and is (R130, R131). -/
def State.handReport (s : State) (l : Lane) (last : Option Nat) (w : Uplink) : State :=
  match w with
  | .statusD x notes fault => (s.putLane l { s.lane l with handedDrawer := some x }).drawerReport l x notes fault
  | .statusL .. => s
  | .event kind number => if eventHanded last number then s.takeEvent l kind else s

/-- The VALID reply of one lane handed on (R130); `before` is the lane record as the frame end found it. A lane that has become
FAULTED has its reply discarded (R128). -/
def State.handOn (s : State) (l : Lane) (before : LaneRec) : State :=
  match (s.lane l).link.judged, before.slotReply with
  | true, some (.valid w) =>
    let online := decide ((s.lane l).link = .online)
    let t := s.recordReply l online w
    if ¬ online then t
    else if before.link = .online then t.handReport l before.lastEvent w
    else t.enterOnline l
  | _, _ => s

/-- The outcomes of the frame cleared for the next. -/
def State.clearFrame (s : State) : State :=
  { s with lanes := s.lanes.mapWith fun _ r => { r with slotFault := false, slotReply := none },
           ring := { s.ring with syncFault := false } }

/-- The frame end (R128 to R130), each pass over the lanes from 1 to 8: the rules do not order the lanes of one frame, and an
earlier lane's report is taken before a later one's (DESIGN CHOICE, log entry 38). -/
def State.endFrame (s : State) : State :=
  let t := Lane.all.foldl State.applyFault s
  let t := Lane.all.foldl State.judgeLane t
  (Lane.all.foldl (fun u l => u.handOn l (s.lane l)) t).clearFrame

/-- FRAME_END (R119, R128 to R130). A lane whose slot has recorded no outcome in this frame is not judged. -/
def execFrameEnd (s : State) : Host.Outcome State Fault Refusal := .next s.endFrame.reform

/-! ### The lost-lane timer, RESOLVE, LANE RESTART and LANE QUERY -/

/-- The lost-lane timer of a lane expires (R133). With its ticket in neither state the claim is left and the timer is done. -/
def State.lostExpired (s : State) (l : Lane) : State :=
  match s.boundTicket l with
  | some n =>
    match s.dispense n with
    | some d =>
      if d.state = .presented then s.dispute n l
      else s.putLane l { s.lane l with lost := .owedExpired, lostTimer := some 0 }
    | none => s
  | none => s.putLane l { s.lane l with lost := .idle, lostTimer := none }

/-- LOST_LANE_TIMER_EXPIRY (R133), while the timer runs. -/
def execLostLaneTimerExpiry (l : Lane) (s : State) : Host.Outcome State Fault Refusal :=
  if (s.lane l).lostTimer.isSome then .next (s.lostExpired l).reform else .next s

/-- The swept back count of a ticket's dispute entry, 0 when absent (R136). -/
def State.sweptBack (s : State) (n : Nat) : Nat :=
  match findByKey Dispute.key n s.disputes with
  | some e => e.sweptBack.getD 0
  | none => 0

/-- RESOLVE takes effect (R136), with the ticket's delivered count. -/
def State.resolve (s : State) (n : Nat) (l : Lane) (d : Dispense) (delivered : Nat) : State :=
  let share := d.unresolved - delivered
  let t := s.move n
    (.dispense { d.enter .resolved with delivered := delivered, retracted := d.retracted + share, unresolved := 0 })
  let t := { t with
    countPoint := { t.countPoint with
      writtenOff := t.countPoint.writtenOff.raise Config.max16 (share - min (s.sweptBack n) share) },
    disputes := dropKey Dispute.key n t.disputes }
  if (t.lane l).holder = some (.ticket n) then t.putLane l { t.lane l with holder := none } else t

/-- Whether a retract of kind DISPUTED for a ticket is in the list or in flight (R136 step 6). -/
def State.sweepingBack (s : State) (n : Nat) : Bool :=
  s.retracts.any (fun e => decide (e.kind = .disputed) && decide (e.holder = .ticket n))
    || match s.route with
       | .retracting _ holder kind _ => decide (kind = .disputed) && decide (holder = .ticket n)
       | .free => false
       | .delivering .. => false
       | .sweeping => false

/-- RESOLVE (R136, R177). -/
def execResolve (ticket delivered teller : Nat) (s : State) : Host.Outcome State Fault Refusal :=
  .next
    (s.answer fun t =>
      need t.wall.service .notInService <|
      named (Teller.ofNat? teller) .range fun who =>
      need (numberInRange ticket) .range <|
      named (t.ticket ticket) .notFound fun k =>
      named (t.dispense ticket) .badState fun d =>
      need (decide (d.state = .disputed)) .badState <|
      need (decide (delivered ≤ d.unresolved)) .range <|
      need (!t.sweepingBack ticket) .busy <|
      t.approveDual (.resolve ticket) (some delivered) who fun u => (u.resolve ticket k.lane d delivered).reform)

/-- LANE RESTART (R137). -/
def execLaneRestart (lane : Nat) (s : State) : Host.Outcome State Fault Refusal :=
  .next
    (s.answer fun t =>
      named (t.namedLane lane) .range fun l =>
      need (decide ((t.lane l).link = .faulted)) .badState <|
      .ok
        (((t.changeLane l { t.lane l with link := .joining, faultRun := 0, badRun := 0, joinRun := .idle }).hand
            (.lineFault l) false).reform, []))

/-- LANE QUERY (R140). -/
def execLaneQuery (lane : Nat) (s : State) : Host.Outcome State Fault Refusal :=
  .next (s.answer fun t => named (Lane.ofNat? lane) .range fun l => .ok (t, t.laneBytes l))

end Sys2Proof.Machine
end

