-- ==== Sys2Proof/Machine/Alarms.lean ====
section
/-! DEFINITION. The Alarm Unit's commands (chapter 6): the input samples (R141), ALARM ACK (R149), ALARM LIST (R150) and RESUME
(R155). -/

namespace Sys2Proof.Machine

/-- The pattern judged from the last three samples, once there are three (R141). -/
def judgedPattern (samples : List (BitVec 6)) : Option (BitVec 6) :=
  match samples with
  | x :: y :: z :: _ => some (majorityOf x y z)
  | _ => none

/-- A sample taken (R141, R142): the pattern changes when the judged levels do, as one event of the LOCAL source. -/
def State.sample (s : State) (levels : BitVec 6) : State :=
  let samples := (levels :: s.alarms.samples).take 3
  let t := { s with alarms := { s.alarms with samples := samples } }
  match judgedPattern samples with
  | some pattern => if pattern = s.alarms.pattern then t else t.reclassInputs pattern
  | none => t

/-- INPUT_SAMPLE (R141). -/
def execInputSample (levels : BitVec 6) (s : State) : Host.Outcome State Fault Refusal := .next (s.sample levels).reform

/-- An acknowledged record (R149): a RAISED one becomes ACKED with its current class alone, a STANDING one is retired. -/
def State.acknowledge (s : State) (r : AlarmRecord) : State :=
  match r.state with
  | .raised =>
    s.setRecords
      (putByKey AlarmRecord.key { r with state := .acked, classes := ClassSet.empty.add r.current } s.alarms.records) false
  | .standing => s.setRecords (dropKey AlarmRecord.key r.key s.alarms.records) false
  | .acked => s

/-- ALARM ACK (R149). -/
def execAlarmAck (source : Nat) (s : State) : Host.Outcome State Fault Refusal :=
  .next
    (s.answer fun t =>
      need (decide (source ≤ 22)) .range <|
      named (t.alarmRecord source) .notFound fun r =>
      need (decide (r.state ≠ .acked)) .badState <|
      .ok ((t.acknowledge r).reform, []))

/-- ALARM LIST (R150). -/
def execAlarmList (start : Nat) (s : State) : Host.Outcome State Fault Refusal :=
  .next (s.answer fun t => need (decide (start ≤ 22)) .range <| .ok (t, t.alarmBytes start))

/-- LOCKDOWN left by RESUME (R155, R151). -/
def State.leaveLockdown (s : State) : State := { s with alarms := { s.alarms with lockdown := false } }.place .alarm

/-- RESUME (R155). -/
def execResume (s : State) : Host.Outcome State Fault Refusal :=
  .next
    (s.answer fun t =>
      need t.alarms.lockdown .badState <|
      need (!t.alarms.records.any fun r => r.classes.lockdown) .locked <|
      .ok (t.leaveLockdown.reform, []))

end Sys2Proof.Machine
end

