-- ==== Sys2Proof/Machine/CountPoints.lean ====
section
/-! DEFINITION. The Count Point Controller's commands (chapter 7): COUNT POINT (R160), quiet found (R164, R166), the quiesce timer
(R165) and BALANCE READ (R172). -/

namespace Sys2Proof.Machine

/-- Whether a request joins the count point under way (1) or the pending one (2) (R161, R187). -/
def State.joined (s : State) : Nat := if s.countPoint.state = .balancing then 2 else 1

/-- COUNT POINT (R160, R161). -/
def execCountPoint (s : State) : Host.Outcome State Fault Refusal :=
  .next
    (s.answer fun t =>
      need t.wall.service .notInService <|
      let u := (t.requestCount .requested .empty).reform
      .ok (u, beBytes 1 u.countPoint.state.code ++ beBytes 1 t.joined))

/-- QUIET_FOUND (R164, R166): taken in QUIESCING while the wall is quiet. -/
def execQuietFound (s : State) : Host.Outcome State Fault Refusal :=
  if s.countPoint.state = .quiescing ∧ s.quiet then .next s.enterBalancing.reform else .next s

/-- QUIESCE_TIMER_EXPIRY (R165), in QUIESCING. -/
def execQuiesceTimerExpiry (s : State) : Host.Outcome State Fault Refusal :=
  if s.countPoint.state = .quiescing then .next s.timeOutCount.reform else .next s

/-- BALANCE READ (R172). -/
def execBalanceRead (s : State) : Host.Outcome State Fault Refusal := .next (s.answer fun t => .ok (t, t.balanceBytes))

end Sys2Proof.Machine
end

