-- ==== Sys2Proof/Machine/Configuration.lean ====
section
/-! DEFINITION. CONFIGURE (R181, R182) and the full reset (R185). -/

namespace Sys2Proof.Machine

/-! ### The checks of R181 -/

/-- A value within a range, both limits included. -/
def within (low high n : Nat) : Bool := decide (low ≤ n ∧ n ≤ high)

/-- A run of table entries that stays in the table: its first entry and its last. -/
def runWithin (low high first k : Nat) : Bool := within low high first && decide (first + k ≤ high + 1)

/-- Class codes, each one of the five (R187). -/
def classesNamed (classes : List Nat) : Bool := classes.all fun c => (AlarmClass.ofNat? c).isSome

/-- Step 1 of R181: the item names a parameter, and its value lies in the range of R182. -/
def itemInRange : ConfigItem → Bool
  | .laneCount n => within 1 8 n
  | .denominations first values => runWithin 1 8 first values.length && values.all fun v => decide (v ≤ 10000)
  | .classTable first classes =>
    runWithin 0 63 first classes.length && classesNamed classes && (decide (first ≠ 0) || decide (classes.headD 0 = 0))
  | .sourceClasses first classes => runWithin 1 22 first classes.length && classesNamed classes
  | .dualLimit n => decide (n ≤ 999999)
  | .approvalWindow n => within 30 600 n
  | .takeTimeout n => within 10 250 n
  | .lostLaneLimit n => within 30 600 n
  | .quiesceTimeout n => within 5 60 n
  | .periodicCount n => decide (n ≤ 250)
  | .busyLevel n => within 1 32 n
  | .maxRejects n => within 1 50 n
  | .suspendThreshold n => within 2 8 n
  | .lowLevel p n => within 1 4 p && decide (n ≤ 500)
  | .recycling n => decide (n ≤ 1)
  | .autoEnvelope n => decide (n ≤ 1)
  | .unnamed _ => false

/-- The parameters changeable in SETUP alone (R182). -/
def setupOnly : ConfigItem → Bool
  | .laneCount _ | .denominations .. | .classTable .. | .sourceClasses .. => true
  | .dualLimit _ | .approvalWindow _ | .takeTimeout _ | .lostLaneLimit _ | .quiesceTimeout _ | .periodicCount _
  | .busyLevel _ | .maxRejects _ | .suspendThreshold _ | .lowLevel .. | .recycling _ | .autoEnvelope _
  | .unnamed _ => false

/-- The steps of R181 for one item. -/
def Wall.checkItem (w : Wall) (x : ConfigItem) : Option Status :=
  if ¬ itemInRange x then some .range
  else if setupOnly x ∧ w.service then some .badState
  else if setupOnly x ∧ w.starting then some .busy
  else none

/-- The checks of R181, item by item: the first that fails. A request with no item has not the shape of CONFIGURE. -/
def Wall.checkItems (w : Wall) : List ConfigItem → Option Status
  | [] => none
  | x :: xs =>
    match w.checkItem x with
    | some e => some e
    | none => w.checkItems xs

/-! ### Applying -/

/-- The denomination table with a run of entries: 0 stands for no entry (R190). -/
def setDenominations (table : PerCode (Option Nat)) : Nat → List Nat → PerCode (Option Nat)
  | _, [] => table
  | n, v :: vs =>
    match Code.ofNat? n with
    | some c => setDenominations (table.set c (if v = 0 then none else some v)) (n + 1) vs
    | none => table

/-- The class table with a run of entries. -/
def setClasses (table : List AlarmClass) : Nat → List Nat → List AlarmClass
  | _, [] => table
  | n, c :: cs => setClasses (table.set n ((AlarmClass.ofNat? c).getD .none)) (n + 1) cs

/-- The source of the alarm table a number from 1 to 22 names (R143). -/
def ownedOfNat (n : Nat) : Option Owned :=
  if n ≤ 8 then (Lane.ofNat? n).map .laneTamper
  else if n ≤ 16 then (Lane.ofNat? (n - 8)).map .lineFault
  else if n ≤ 20 then (Pos.ofNat? (n - 16)).map .cassetteTamper
  else if n = 21 then some .rejectFull
  else if n = 22 then some .intakeFull
  else none

/-- The source classes with a run of entries. -/
def setSources (table : PerOwned AlarmClass) : Nat → List Nat → PerOwned AlarmClass
  | _, [] => table
  | n, c :: cs =>
    match ownedOfNat n with
    | some o => setSources (table.set o ((AlarmClass.ofNat? c).getD .none)) (n + 1) cs
    | none => table

/-- The parameters with one item in place. -/
def Params.apply (q : Params) : ConfigItem → Params
  | .laneCount n => { q with laneCount := n }
  | .denominations first values => { q with denominations := setDenominations q.denominations first values }
  | .classTable first classes => { q with classTable := setClasses q.classTable first classes }
  | .sourceClasses first classes => { q with sourceClasses := setSources q.sourceClasses first classes }
  | .dualLimit n => { q with dualLimit := n }
  | .approvalWindow n => { q with approvalWindow := n }
  | .takeTimeout n => { q with takeTimeout := n }
  | .lostLaneLimit n => { q with lostLaneLimit := n }
  | .quiesceTimeout n => { q with quiesceTimeout := n }
  | .periodicCount n => { q with periodicCount := n }
  | .busyLevel n => { q with busyLevel := n }
  | .maxRejects n => { q with maxRejects := n }
  | .suspendThreshold n => { q with suspendThreshold := n }
  | .lowLevel p n =>
    match Pos.ofNat? p with
    | some x => { q with lowLevels := q.lowLevels.set x n }
    | none => q
  | .recycling n => { q with recycling := decide (n = 1) }
  | .autoEnvelope n => { q with autoEnvelope := decide (n = 1) }
  | .unnamed _ => q

/-- Whether an item names the lane count. -/
def namesLaneCount : ConfigItem → Bool
  | .laneCount _ => true
  | .denominations .. | .classTable .. | .sourceClasses .. | .dualLimit _ | .approvalWindow _ | .takeTimeout _
  | .lostLaneLimit _ | .quiesceTimeout _ | .periodicCount _ | .busyLevel _ | .maxRejects _ | .suspendThreshold _
  | .lowLevel .. | .recycling _ | .autoEnvelope _ | .unnamed _ => false

/-- A lane count item sets its mark and acts at the next frame (R138, R181, R182). -/
def State.announceLanes (s : State) (items : List ConfigItem) : State :=
  if items.any namesLaneCount then
    { s with wall := { s.wall with laneCountSet := true },
             ring := { s.ring with pendingCount := some s.params.laneCount } }
  else s

/-- A slot under a changed suspend threshold (R49) and low level (R46). -/
def State.reslot (newThreshold : Bool) (s : State) (p : Pos) : State :=
  let x := s.slot p
  let y := if newThreshold then x.judgeQuality s.params.suspendThreshold else x
  s.putSlot p (y.formLow (s.params.lowLevels.get p))

/-- A changed periodic count that the settled counter has reached already requests PERIODIC, in SERVICE (R162). -/
def State.recountPeriodic (s : State) (before : Nat) : State :=
  if s.wall.service ∧ s.params.periodicCount ≠ before ∧ 1 ≤ s.params.periodicCount
      ∧ s.params.periodicCount ≤ s.countPoint.settled then
    s.requestCount .periodic .empty
  else s

/-- Every item applied together, each change acting as R182 gives for its parameter (R181). Of two items that name one parameter
or table entry the later stands, and the changes act in the order below: a claim waiting for D is answered before PERIODIC is
requested (DESIGN CHOICE, log entry 37). -/
def State.configured (s : State) (items : List ConfigItem) : State :=
  let t := ({ s with params := items.foldl Params.apply s.params }).announceLanes items
  let t := if t.params.denominations = s.params.denominations then t else Pos.all.foldl State.rejudge t
  let t := if t.params.classTable = s.params.classTable then t else t.reclassInputs t.alarms.pattern
  let t := Pos.all.foldl (State.reslot (decide (t.params.suspendThreshold ≠ s.params.suspendThreshold))) t
  (t.recheckGate).recountPeriodic s.params.periodicCount

/-- CONFIGURE (R181, R182). -/
def execConfigure (items : List ConfigItem) (s : State) : Host.Outcome State Fault Refusal :=
  .next
    (s.answer fun t =>
      need (!items.isEmpty) .range <|
      match t.wall.checkItems items with
      | some e => .error e
      | none => .ok ((t.configured items).reform, []))

/-! ### The full reset -/

/-- The cassette of a position whose presence line shows one taken as an insertion (R37). -/
def State.seePosition (s : State) (p : Pos) (present : Bool) : State := if present then s.insertCassette p else s

/-- The machine when a full reset ends (section 8.7), with what the presence lines show: each vault full source is handed, and
the cassettes present are taken as insertions in the order A to D (R37, R56, R57). -/
def State.afterReset (prsA prsB prsC prsD rejectPresent intakePresent : Bool) : State :=
  let s := State.reset
  let s := { s with rejectVault := { s.rejectVault with present := rejectPresent },
                    intakeVault := { s.intakeVault with present := intakePresent } }.handVaults
  ((((s.seePosition .a prsA).seePosition .b prsB).seePosition .c prsC).seePosition .d prsD).reform

/-- FULL_RESET (R185). The commands that wait are kept: they are not the machine's own. -/
def execFullReset (prsA prsB prsC prsD rejectPresent intakePresent : Bool) (s : State) :
    Host.Outcome State Fault Refusal :=
  .next { State.afterReset prsA prsB prsC prsD rejectPresent intakePresent with pending := s.pending }

end Sys2Proof.Machine
end

