-- ==== Sys2Proof/Machine/Timers.lean ====
section
/-! DEFINITION. One second on the clock: every seconds-remaining field that runs falls by one and stops at 0. That a timer has
run out is a command of its own (R13, R29, R133, R165, R177). -/

namespace Sys2Proof.Machine

/-- A deadline one second later. -/
def Deadline.tick (d : Deadline) : Deadline := { d with seconds := d.seconds - 1 }

/-- The deadline of a DISPENSE ticket one second later (R2, R13, R29). -/
def Ticket.tick (t : Ticket) : Ticket :=
  match t.body with
  | .dispense d => { t with body := .dispense { d with deadline := d.deadline.map Deadline.tick } }
  | .envelope _ => t
  | .intake _ => t

/-- One second passes: the ticket deadlines, the lost-lane timers (R133), the quiesce timer (R163), and the held first approvals
of both places they are kept in (R51, R177). -/
def State.tick (s : State) : State :=
  { s with
    clock := s.clock + 1,
    tickets := s.tickets.map Ticket.tick,
    lanes := s.lanes.mapWith fun _ r => { r with lostTimer := r.lostTimer.map (· - 1) },
    countPoint := { s.countPoint with timer := s.countPoint.timer.map (· - 1) },
    approvals := s.approvals.map fun a => { a with seconds := a.seconds - 1 },
    slots := s.slots.mapWith fun _ x =>
      { x with release := x.release.map fun a => { a with seconds := a.seconds - 1 } } }

end Sys2Proof.Machine
end

