-- ==== Sys2Proof/Machine/Dispatch.lean ====
section
/-! DEFINITION. The command dispatch: one arm for each constructor of `Instr`, in the order of spec/opcode_table.json. -/

namespace Sys2Proof.Machine

def exec (i : Instr) (s : State) : Host.Outcome State Fault Refusal :=
  match i with
  | .fullReset prsA prsB prsC prsD rejectPresent intakePresent => Sys2Proof.Machine.execFullReset prsA prsB prsC prsD rejectPresent intakePresent s
  | .requestFrameBegin => Sys2Proof.Machine.execRequestFrameBegin s
  | .frameWhileActing => Sys2Proof.Machine.execFrameWhileActing s
  | .badFrame partByte bytes => Sys2Proof.Machine.execBadFrame partByte bytes s
  | .responseRead clocked => Sys2Proof.Machine.execResponseRead clocked s
  | .alarmAck source => Sys2Proof.Machine.execAlarmAck source s
  | .alarmList start => Sys2Proof.Machine.execAlarmList start s
  | .amend ticket teller amount segments => Sys2Proof.Machine.execAmend ticket teller amount segments s
  | .approve ticket teller => Sys2Proof.Machine.execApprove ticket teller s
  | .balanceRead => Sys2Proof.Machine.execBalanceRead s
  | .binEmptied lane teller => Sys2Proof.Machine.execBinEmptied lane teller s
  | .binSet lane count => Sys2Proof.Machine.execBinSet lane count s
  | .clearJam ticket outcome => Sys2Proof.Machine.execClearJam ticket outcome s
  | .configRead => Sys2Proof.Machine.execConfigRead s
  | .configure items => Sys2Proof.Machine.execConfigure items s
  | .countPoint => Sys2Proof.Machine.execCountPoint s
  | .enterSetup => Sys2Proof.Machine.execEnterSetup s
  | .identify => Sys2Proof.Machine.execIdentify s
  | .intakeBegin ticket => Sys2Proof.Machine.execIntakeBegin ticket s
  | .intakeFinish ticket => Sys2Proof.Machine.execIntakeFinish ticket s
  | .laneQuery lane => Sys2Proof.Machine.execLaneQuery lane s
  | .laneRestart lane => Sys2Proof.Machine.execLaneRestart lane s
  | .list start => Sys2Proof.Machine.execList start s
  | .lookup ticket => Sys2Proof.Machine.execLookup ticket s
  | .openDispense teller lane amount segments => Sys2Proof.Machine.execOpenDispense teller lane amount segments s
  | .openEnvelope teller lane => Sys2Proof.Machine.execOpenEnvelope teller lane s
  | .openIntake teller lane => Sys2Proof.Machine.execOpenIntake teller lane s
  | .positionQuery target => Sys2Proof.Machine.execPositionQuery target s
  | .positionReinstate position => Sys2Proof.Machine.execPositionReinstate position s
  | .positionRelease position teller => Sys2Proof.Machine.execPositionRelease position teller s
  | .readAttention => Sys2Proof.Machine.execReadAttention s
  | .resolve ticket delivered teller => Sys2Proof.Machine.execResolve ticket delivered teller s
  | .resume => Sys2Proof.Machine.execResume s
  | .settle ticket => Sys2Proof.Machine.execSettle ticket s
  | .startWall => Sys2Proof.Machine.execStartWall s
  | .vaultEmptied vault teller => Sys2Proof.Machine.execVaultEmptied vault teller s
  | .void ticket => Sys2Proof.Machine.execVoid ticket s
  | .dualApprovalExpiry target => Sys2Proof.Machine.execDualApprovalExpiry target s
  | .approvalWindowExpiry ticket => Sys2Proof.Machine.execApprovalWindowExpiry ticket s
  | .takeTimerExpiry ticket => Sys2Proof.Machine.execTakeTimerExpiry ticket s
  | .lostLaneTimerExpiry lane => Sys2Proof.Machine.execLostLaneTimerExpiry lane s
  | .quiesceTimerExpiry => Sys2Proof.Machine.execQuiesceTimerExpiry s
  | .ticketSelection => Sys2Proof.Machine.execTicketSelection s
  | .pickerResume => Sys2Proof.Machine.execPickerResume s
  | .gaugeResult thickness length => Sys2Proof.Machine.execGaugeResult thickness length s
  | .pickMissTimeout => Sys2Proof.Machine.execPickMissTimeout s
  | .purgeBegin => Sys2Proof.Machine.execPurgeBegin s
  | .purgeCompletion count => Sys2Proof.Machine.execPurgeCompletion count s
  | .retractPromotion => Sys2Proof.Machine.execRetractPromotion s
  | .deliveryGrant => Sys2Proof.Machine.execDeliveryGrant s
  | .deliveryArrival => Sys2Proof.Machine.execDeliveryArrival s
  | .retractGrant => Sys2Proof.Machine.execRetractGrant s
  | .retractCompletion count => Sys2Proof.Machine.execRetractCompletion count s
  | .sweepBegin => Sys2Proof.Machine.execSweepBegin s
  | .sweepCompletion count => Sys2Proof.Machine.execSweepCompletion count s
  | .quietFound => Sys2Proof.Machine.execQuietFound s
  | .cassetteInsertion position => Sys2Proof.Machine.execCassetteInsertion position s
  | .cassetteRemoval position => Sys2Proof.Machine.execCassetteRemoval position s
  | .identityReadEnd tries => Sys2Proof.Machine.execIdentityReadEnd tries s
  | .tagWriteEnd tries => Sys2Proof.Machine.execTagWriteEnd tries s
  | .vaultPresenceChange vault present => Sys2Proof.Machine.execVaultPresenceChange vault present s
  | .escrowEvent code => Sys2Proof.Machine.execEscrowEvent code s
  | .notePlaced => Sys2Proof.Machine.execNotePlaced s
  | .inputSample levels => Sys2Proof.Machine.execInputSample levels s
  | .syncSlot heard => Sys2Proof.Machine.execSyncSlot heard s
  | .laneSlot lane heard reply => Sys2Proof.Machine.execLaneSlot lane heard reply s
  | .frameEnd => Sys2Proof.Machine.execFrameEnd s

end Sys2Proof.Machine
end

