-- ==== Sys2Proof/Safety.lean ====
section
/-! DEFINITION. What the statements speak of beside the machine itself: when a request stands to be answered, and the invariants
that hold at reset and that every step keeps. No rule of the DW8 stops it, so a safe run is one whose states meet the
invariants. -/

namespace Sys2Proof.Machine

/-! ### Requests -/

/-- The commands that are host requests: those with a frame (R187). -/
def isRequest (i : Instr) : Bool := (requestBytes i).isSome

/-- A request's frame has begun (R173), so that the request's own command comes next. -/
abbrev State.frameBegun (s : State) : Prop := s.port.state = .receiving

/-- A request refused with a status: every record is as its frame found it, and the port holds the status (R176). -/
def State.refusedWith (s : State) (e : Status) : Host.Outcome State Fault Refusal := .next (s.hold ⟨e, []⟩)

/-- A request taken, its effect being the state, and OK held with the payload (R174). -/
def State.answeredOk (t : State) (payload : List Byte) : Host.Outcome State Fault Refusal := .next (t.hold ⟨.ok, payload⟩)

/-- Fields sent one after the other, each with its width in bytes: a number, or all ones when it is absent (R187). -/
def fields (xs : List (Nat × Option Nat)) : List Byte :=
  xs.flatMap fun x => x.2.elim (List.replicate x.1 0xFF) (beBytes x.1)

/-! ### Records as the rules leave them -/

/-- A ticket's record put back after a state change: its number joins the change set, with the reason TICKETS (R32). -/
def State.ticketEnters (s : State) (t : Ticket) : State :=
  { s with tickets := putByKey Ticket.number t s.tickets, changeSet := addNumber t.number s.changeSet,
           reasons := s.reasons.add .tickets }

/-- A DISPENSE ticket held under a number, with its record. -/
abbrev State.holdsDispense (s : State) (t : Ticket) (d : Dispense) : Prop :=
  s.ticket t.number = some t ∧ t.body = .dispense d

/-- An ENVELOPE ticket held under a number, with its record. -/
abbrev State.holdsEnvelope (s : State) (t : Ticket) (e : Envelope) : Prop :=
  s.ticket t.number = some t ∧ t.body = .envelope e

/-- An INTAKE ticket held under a number, with its record. -/
abbrev State.holdsIntake (s : State) (t : Ticket) (k : Intake) : Prop :=
  s.ticket t.number = some t ∧ t.body = .intake k

/-- What a publish leaves (R52, R161, R168, R169), from the state with the slots as they stand at the publish: the record formed
at the balance moment completed with the next number, the result and the failures; the slots with their base counts restarted;
the wall in SERVICE when START was among the causes; and the count point IDLE, or with a pending one QUIESCING for its causes
and its release set with a timer of its own. `written` holds the positions whose write-back succeeded, `release` the release
set. -/
def State.publishes (s u : State) (slots : PerPos Slot) (b : Balance) (result : CountResult) (failures written release : PosSet) :
    Prop :=
  let number := if s.countPoint.number < 65535 then s.countPoint.number + 1 else 1
  u.balance = some { b with number := number, result := result, failures := failures } ∧ u.forming = none
    ∧ u.countPoint.number = number ∧ u.countPoint.writeBack = .empty ∧ u.countPoint.written = .empty
    ∧ u.countPoint.settled = 0 ∧ u.reasons.balance = true
    ∧ (s.countPoint.pending = false →
        u.countPoint.state = .idle ∧ u.countPoint.causes = .empty ∧ u.countPoint.timer = none
        ∧ u.countPoint.release = .empty)
    ∧ (s.countPoint.pending = true →
        u.countPoint.state = .quiescing ∧ u.countPoint.causes = s.countPoint.pendingCauses
        ∧ u.countPoint.release = s.countPoint.pendingRelease ∧ u.countPoint.timer = some s.params.quiesceTimeout
        ∧ u.countPoint.failures = .empty ∧ u.countPoint.pending = false ∧ u.countPoint.pendingCauses = .empty
        ∧ u.countPoint.pendingRelease = .empty)
    ∧ u.wall = (if s.countPoint.causes.start then { s.wall with service := true, starting := false } else s.wall)
    ∧ ∀ q,
        let x := slots.get q
        let decided := release.get q && decide (x.state = .releasePending)
        u.slot q =
          if x.state.live then
            { x with
              base := x.count, pickedOut := 0, storedIn := 0, unverified := x.unverified && !written.get q,
              markOwed := x.markOwed || written.get q, reviewed := x.reviewed || (x.uncertain && decide (result = .clean)),
              state := if decided then (if written.get q then .unlocked else x.prior.getD .inService) else x.state,
              prior := if decided then none else x.prior, committed := u.committedAt q }
          else { x with committed := u.committedAt q }

/-- The figures since the last publish of the vaults and of the Count Point Controller, restarted at a publish that ends
BALANCING from what they took since the balance moment (R168). -/
def State.restartsFigures (s u : State) : Prop :=
  let restarted (x : Since) : Since := ⟨x.late, x.late⟩
  u.rejectVault = { s.rejectVault with
      sincePick := restarted s.rejectVault.sincePick, sinceRetracted := restarted s.rejectVault.sinceRetracted,
      sinceSweep := restarted s.rejectVault.sinceSweep, emptied := restarted s.rejectVault.emptied, unverified := false }
    ∧ u.intakeVault = { s.intakeVault with
        since := s.intakeVault.since.mapWith fun _ x => restarted x, emptied := restarted s.intakeVault.emptied,
        unverified := false }
    ∧ u.countPoint.writtenOff = restarted s.countPoint.writtenOff
    ∧ u.countPoint.storedAfter = restarted s.countPoint.storedAfter

/-- The same at a publish that is its own balance moment (R168): every figure restarts from 0, and every retiring copy and
carry has been taken by the record. -/
def State.startsPeriod (s u : State) : Prop :=
  let zero : Since := ⟨0, 0⟩
  u.rejectVault = { s.rejectVault with
      sincePick := zero, sinceRetracted := zero, sinceSweep := zero, emptied := zero, unverified := false }
    ∧ u.intakeVault = { s.intakeVault with since := .const zero, emptied := zero, unverified := false }
    ∧ u.countPoint.writtenOff = zero ∧ u.countPoint.storedAfter = zero
    ∧ (∀ p, u.retiring.get p = none) ∧ ∀ p, u.carries.get p = ⟨zero, zero, zero⟩

/-- The image a tag write writes over an old one of 64 bytes, for a position with a count (R40, R192): a count write-back
changes bytes 10h to 14h and a mark write byte 14h; the checksum byte makes the sum 0. -/
def writesTag (kind : TransferKind) (count : Nat) (old new : List Byte) : Prop :=
  old.length = 64 → kind ≠ .identityRead →
    new.length = 64 ∧ byteSum new = 0
    ∧ (kind = .markWrite → ∀ a, a < 63 → new[a]? = if a = 20 then some 1 else old[a]?)
    ∧ ∀ number, kind = .countWriteBack number → ∀ a, a < 63 →
        new[a]? =
          if a = 16 then some (BitVec.ofNat 8 (count / 256)) else if a = 17 then some (BitVec.ofNat 8 count)
          else if a = 18 then some (BitVec.ofNat 8 (number / 256)) else if a = 19 then some (BitVec.ofNat 8 number)
          else if a = 20 then some 0 else old[a]?

/-- A pick claim that waited for the D gate answered "not fit" (R60, R70, R71): the claim is gone, the picker is IDLE, and its
ticket is halted with the reason. -/
def State.haltsWaiting (s u : State) (why : HaltReason) : Prop :=
  ∀ (t : Ticket) (d : Dispense), s.gate.waitPicker = true → s.picker.ticket = some t.number → s.holdsDispense t d →
    d.state = .picking →
    u.gate.waitPicker = false ∧ u.picker.state = .idle ∧ u.picker.ticket = none
    ∧ u.dispense t.number = some { d with state := .pickHalted, halt := some why }

/-- A store claim that waited for the D gate answered "not fit" (R60, R114): the note goes to the intake vault, or to the tray
when the wall pauses, the owner's figures would pass their ranges, or the vault is full (R112). -/
def State.redecidesWaiting (s u : State) (pauses : Bool) : Prop :=
  ∀ (c : Code) (v n : Nat) (k : Intake), s.gate.waitDeposit = true → s.intakeRec.escrow = some ⟨some c, some v⟩ →
    s.intakeRec.owner = some n → s.intake n = some k →
    let x : Destination :=
      if pauses ∨ 2500 ≤ k.recycled + k.vaulted ∨ 999999 < k.amount + v ∨ s.intakeVault.full then .tray else .vault
    u.gate.waitDeposit = false ∧ u.headSent = s.headSent ++ [.place x]
    ∧ u.intakeRec = { s.intakeRec with state := .placing, destination := some x, storedTo := .slot }

/-- Whether position D takes a store as it stands (R60). -/
def State.takesStores (s : State) : Prop :=
  (s.slot .d).state = .inService ∧ s.params.recycling = true
    ∧ ∃ k, (s.slot .d).identity = some k ∧ k.recycle = true ∧ (s.slot .d).count < k.capacity

/-- The waiting pick claim decided as the D gate frees (R59, R60, R71), for a gate with no store claim: FREE with no claim, or
the claim granted with the feed command, or the ticket halted with the first reason that D, or else a full reject vault (R56;
DEDUCED, log entry 9), gives. -/
def State.servesPick (s u : State) : Prop :=
  (s.gate.waitPicker = false → u.gate = { s.gate with granted := none } ∧ u.picker = s.picker)
    ∧ ∀ (t : Ticket) (d : Dispense), s.gate.waitPicker = true → s.picker.ticket = some t.number → s.holdsDispense t d →
        d.state = .picking →
        let x := u.slot .d
        let why : Option HaltReason :=
          match x.state with
          | .absent => some .removed
          | .suspended => some .suspended
          | .identifying | .refused | .releasePending | .unlocked => some .notReady
          | .inService =>
            if x.depleted ≠ .clear then some .depleted else if s.rejectVault.full then some .rejectFull else none
        (∀ r, why = some r →
            u.gate = { s.gate with granted := none, waitPicker := false } ∧ u.picker.state = .idle ∧ u.picker.ticket = none
            ∧ u.dispense t.number = some { d with state := .pickHalted, halt := some r })
        ∧ (why = none → ∀ k, x.identity = some k →
            u.gate = { s.gate with granted := some .picker, last := some .picker, waitPicker := false }
            ∧ u.picker =
                { state := .feeding, ticket := some t.number, position := some .d,
                  refs := ⟨k.thickness, k.length, k.noteValue⟩, feedStarted := some s.clock, fedFrom := .slot }
            ∧ u.dispense t.number = some d)

/-- What a pause condition that arises leaves of the claims that wait for the D gate (R68, R115), from the state before to the
state after: the picker waiting there withdraws its claim and is PAUSED with its ticket kept, the note waiting there is sent to
the tray, and a picker, a note and a grant in any other state are as they were. -/
def State.withdrawsClaims (s u : State) : Prop :=
  u.gate.granted = s.gate.granted
    ∧ (s.picker.state = .waitingGate →
        u.picker = { s.picker with state := .paused, position := none, feedStarted := none } ∧ u.gate.waitPicker = false)
    ∧ (s.picker.state ≠ .waitingGate → u.picker = s.picker ∧ u.gate.waitPicker = s.gate.waitPicker)
    ∧ (∀ e, s.intakeRec.state = .waitingGate → s.intakeRec.escrow = some e →
        u.intakeRec = { s.intakeRec with state := .placing, destination := some .tray, storedTo := .slot }
        ∧ u.headSent = s.headSent ++ [.place .tray] ∧ u.gate.waitDeposit = false)
    ∧ (s.intakeRec.state ≠ .waitingGate →
        u.intakeRec = s.intakeRec ∧ u.headSent = s.headSent ∧ u.gate.waitDeposit = s.gate.waitDeposit)

/-- What a change of an alarm record does in the other blocks: when it enters LOCKDOWN, the claims that wait are withdrawn (R68,
R115) and close is asked of every presentation held (R87, R153); when it does not, they are as they were. -/
def State.locksDownWith (s u : State) : Prop :=
  (s.alarms.lockdown = false → u.alarms.lockdown = true →
      s.withdrawsClaims u
      ∧ ∀ l, u.presentations.get l = (s.presentations.get l).map fun p => { p with closeAsked := true })
    ∧ (u.alarms.lockdown = s.alarms.lockdown →
        u.picker = s.picker ∧ u.gate = s.gate ∧ u.intakeRec = s.intakeRec ∧ u.headSent = s.headSent
        ∧ u.presentations = s.presentations)

/-- The LOCAL source after a change of its class, by the pattern and the class table's class for it (R144, R146 to R148). A
LOCAL record is STANDING while the class is NONE. -/
def State.localFollows (s u : State) (pattern : BitVec 6) (now : AlarmClass) : Prop :=
  let was := s.alarms.inputs.current
  let old := s.alarmRecord 0
  u.alarms.pattern = pattern ∧ u.alarms.inputs = ⟨decide (now ≠ AlarmClass.none), now⟩
    ∧ (was = .none → now = .none → u.alarms.records = s.alarms.records)
    ∧ (was = .none → now ≠ .none → (∀ r, old = some r → r.state = .standing) → u.reasons.alarm = true)
    ∧ (was = .none → now ≠ .none → u.alarms.lockdown = (s.alarms.lockdown || decide (now = .lockdown)))
    ∧ (was = .none → now ≠ .none → old = none →
        u.alarms.records = putByKey AlarmRecord.key
          { source := .inputs, state := .raised, classes := (⟨false, false, false, false⟩ : ClassSet).add now,
            current := now, timesRaised := 1, pattern := some pattern.toNat } s.alarms.records)
    ∧ (∀ r, was = .none → now ≠ .none → old = some r → r.state = .standing →
        u.alarms.records = putByKey AlarmRecord.key
          { r with state := .raised, classes := r.classes.add now, current := now,
                   timesRaised := min 255 (r.timesRaised + 1), pattern := some pattern.toNat } s.alarms.records)
    ∧ (∀ r, was ≠ .none → now ≠ .none → old = some r →
        let above := ∀ c, r.classes.has c = true → c.rank < now.rank
        u.alarms.records = putByKey AlarmRecord.key
          { r with state := if r.state = .acked ∧ r.classes.highest.rank < now.rank then .raised else r.state,
                   classes := r.classes.add now, current := now, pattern := some pattern.toNat } s.alarms.records
        ∧ (r.classes.highest.rank < now.rank ↔ above)
        ∧ u.alarms.lockdown = (s.alarms.lockdown || (decide (now = .lockdown) && !r.classes.lockdown)))
    ∧ (∀ r, was ≠ .none → now = .none → old = some r → u.alarms.lockdown = s.alarms.lockdown
        ∧ (r.state = .raised → u.alarms.records =
            putByKey AlarmRecord.key { r with state := .standing, current := .none } s.alarms.records)
        ∧ (r.state = .acked → u.alarms.records = s.alarms.records.filter fun x => x.key != 0))

/-- The duress marks claimed by a change of the pattern, or of a record, that leaves DURESS set (R33, R156): for each teller
position whose duress input is in the pattern when DURESS is set by the change, and has joined it when DURESS held before, every
ticket that is not terminal and names the position has it in its mark. Otherwise no mark is claimed. -/
def State.claimsMarks (s u : State) : Prop :=
  let claimed (input : Nat) : Bool :=
    u.alarms.duress && u.alarms.pattern.getLsbD input && !(s.alarms.duress && s.alarms.pattern.getLsbD input)
  (∀ (p : Teller) (t : Ticket), t.names p = true ↔
      t.opener = some p ∨ ∃ d, t.body = .dispense d ∧ (d.first = p ∨ d.second = some p))
    ∧ u.tickets = s.tickets.map fun t =>
        { t with mark := ⟨t.mark.a || (claimed 0 && t.names .a && !t.terminal),
                          t.mark.b || (claimed 1 && t.names .b && !t.terminal)⟩ }

/-! ### Invariants -/

/-- Every keyed table is in ascending order with no key twice, the ticket table holds at most 32 tickets, and every number
issued or to issue is from 1 to 9999 (R1, R4, R32, R135, R145, R177). -/
def State.tablesOrdered (s : State) : Prop :=
  risingBy Ticket.number s.tickets = true ∧ s.tickets.length ≤ 32
    ∧ (∀ t ∈ s.tickets, 1 ≤ t.number ∧ t.number ≤ 9999) ∧ 1 ≤ s.nextNumber ∧ s.nextNumber ≤ 9999
    ∧ risingBy id s.changeSet = true ∧ risingBy Dispute.key s.disputes = true
    ∧ risingBy AlarmRecord.key s.alarms.records = true ∧ risingBy HeldApproval.key s.approvals = true

/-- The pick queue holds exactly the DISPENSE tickets in QUEUED, each once (R20). -/
def State.queueRight (s : State) : Prop :=
  s.pickQueue.Nodup ∧ ∀ n, n ∈ s.pickQueue ↔ ∃ d, s.dispense n = some d ∧ d.state = .queued

/-- At most one ticket of each lane is in the seven states of R21. -/
def State.lanesHeldOnce (s : State) : Prop := ∀ l, (s.tickets.filter (Ticket.holdsLane l)).length ≤ 1

/-- At most one retract for each lane, in the list or in flight (R65, R83). -/
def State.retractsOnce (s : State) : Prop :=
  (s.retracts.map Retract.lane).Nodup ∧ ∀ e ∈ s.retracts, s.retractingFrom e.lane = false

/-- The count of a slot equals its base count plus stored in less picked out (R34). -/
def Slot.counts (x : Slot) : Prop := x.count + x.pickedOut = x.base + x.storedIn

/-- The counts of every slot, and of every retiring copy, hold. -/
def State.slotsCount (s : State) : Prop :=
  (∀ p, (s.slot p).counts) ∧ ∀ p r, s.retiring.get p = some r → r.slot.counts

/-- A since-last figure within its range. -/
def Since.upTo (most : Nat) (x : Since) : Prop := x.total ≤ most ∧ x.late ≤ most

/-- Each field of the reject vault within its range (R55). -/
def RejectVault.inRange (v : RejectVault) : Prop :=
  v.pickRejects ≤ 999 ∧ v.retracted ≤ 999 ∧ v.sweep ≤ 999 ∧ v.sincePick.upTo 999 ∧ v.sinceRetracted.upTo 999
    ∧ v.sinceSweep.upTo 999 ∧ v.emptied.upTo 9999

/-- HOLD and DURESS are set while a record has that class among its classes (R152, R154). -/
def State.modesFormed (s : State) : Prop :=
  s.alarms.hold = s.alarms.records.any (fun r => r.classes.hold)
    ∧ s.alarms.duress = s.alarms.records.any fun r => r.classes.duress

end Sys2Proof.Machine
end

