-- ==== Sys2Proof/Certificates/Slice0/Obligations.lean ====
section
/-! DEFINITION. The statements for the provers, chapter by chapter: what each command does, then the invariants that every step
keeps. A statement about a request has the premise that its frame has begun (R173). -/

open Sys2Proof Sys2Proof.Machine

/-! ### The machine -/

/-- A step takes the command at the front of the queue and is `exec` of it on the state with the queue's rest. -/
def Obligations.StepTakesTheFrontCommand : Prop :=
  ∀ (c : Instr) (rest : List Instr) (s : State), s.pending = c :: rest → step s = exec c { s with pending := rest }

/-- Model's choice (log entry 1): a step on an empty queue is one second. Every deadline, lost-lane timer, quiesce timer
and held first approval that runs shows one second less, stopping at 0 (R13, R29, R133, R163, R177), and nothing else
changes. -/
def Obligations.IdleStepIsOneSecond : Prop :=
  ∀ s : State, s.pending = [] →
    ∃ t, step s = .next t ∧ t.clock = s.clock + 1
      ∧ (∀ n, t.dispense n = (s.dispense n).map fun d =>
          { d with deadline := d.deadline.map fun x => { x with seconds := x.seconds - 1 } })
      ∧ (∀ n, t.envelope n = s.envelope n) ∧ (∀ n, t.intake n = s.intake n)
      ∧ t.tickets.map (fun x => (x.number, x.lane, x.opener, x.openStamp, x.mark))
          = s.tickets.map (fun x => (x.number, x.lane, x.opener, x.openStamp, x.mark))
      ∧ (∀ l, t.lane l = { s.lane l with lostTimer := (s.lane l).lostTimer.map (· - 1) })
      ∧ t.countPoint = { s.countPoint with timer := s.countPoint.timer.map (· - 1) }
      ∧ t.approvals = s.approvals.map (fun a => { a with seconds := a.seconds - 1 })
      ∧ (∀ p, t.slot p = { s.slot p with release := (s.slot p).release.map fun a => { a with seconds := a.seconds - 1 } })
      ∧ t = { s with clock := t.clock, tickets := t.tickets, lanes := t.lanes, countPoint := t.countPoint,
                     approvals := t.approvals, slots := t.slots }

/-! ### The Request Port (chapter 8) -/

/-- (a) REQUEST_FRAME_BEGIN by the port state in which the select begins (R173, R175): from IDLE the port is RECEIVING;
from READY a response that has been read is released, and one that has not is discarded with its reasons and those of
its numbers that an occupied entry holds put back and PORT placed, while SDOUT carries it from its first byte (R186; how
much of it is clocked is model's choice, log entry 19); in ACTING the frame is ignored with PORT placed. (b) Model's
choice (log entry 4): FRAME_WHILE_ACTING, which R173 gives for ACTING alone, places PORT in the attention reason set and
changes nothing else in whatever port state the record shows. -/
def Obligations.FrameBeginsByPortState : Prop :=
  (∀ s : State,
      (s.port.state = .idle → exec .requestFrameBegin s = .next { s with port := { s.port with state := .receiving } })
      ∧ (s.port.state = .acting → exec .requestFrameBegin s = .next { s with reasons := s.reasons.add .port })
      ∧ (s.port.state = .ready → ∃ t, exec .requestFrameBegin s = .next t
          ∧ t.port = { s.port with state := .receiving, held := none, read := false, readOutReasons := .empty,
                                   readOutNumbers := [], sdout := (s.port.held.map Response.frame).getD [] }
          ∧ t.reasons = (if s.port.read then s.reasons else (s.reasons.union s.port.readOutReasons).add .port)
          ∧ (∀ n, n ∈ t.changeSet ↔
              n ∈ s.changeSet ∨ s.port.read = false ∧ n ∈ s.port.readOutNumbers ∧ (s.ticket n).isSome)
          ∧ t = { s with port := t.port, reasons := t.reasons, changeSet := t.changeSet }))
  ∧ (∀ s : State, exec .frameWhileActing s = .next { s with reasons := s.reasons.add .port })

/-- A request is refused with the records as its frame found them, the port alone holding the status, or it is answered
OK; in either case the port is READY with the response not yet read (R174 step 4, R176). -/
def Obligations.RefusedRequestChangesNothing : Prop :=
  ∀ (i : Instr) (s : State), isRequest i = true → s.frameBegun →
    ∃ t r, exec i s = .next t ∧ t.port.state = .ready ∧ t.port.held = some r ∧ t.port.read = false
      ∧ (r.status ≠ .ok → r.payload = []
          ∧ t = { s with port := { s.port with state := .ready, held := some r, read := false } })

/-- (a) BAD_FRAME (R174 steps 1 to 3): a request frame that is malformed, that carries a code not assigned, or whose
payload has no shape the request takes is answered BAD_FRAME, UNKNOWN_REQUEST or RANGE, in that order, and nothing is
acted on. (b) RESPONSE_READ of at least one whole byte (R173, R175): in READY the response frame is shifted out, with
FFh after its end, and response read is set once every byte of it has been clocked; in any other port state every byte
is FFh. Nothing but the port changes. -/
def Obligations.BadFrameIsAnsweredAndResponseRead : Prop :=
  (∀ (partByte : Bool) (first : Byte) (bytes : List Byte) (s : State), s.frameBegun → first ≠ 0 →
      (frameSound partByte (first :: bytes) = false →
        exec (.badFrame partByte (first :: bytes)) s = s.refusedWith .badFrame)
      ∧ (frameSound partByte (first :: bytes) = true → 0x20 < first.toNat →
        exec (.badFrame partByte (first :: bytes)) s = s.refusedWith .unknownRequest)
      ∧ (frameSound partByte (first :: bytes) = true → first.toNat ≤ 0x20 →
        readRequest first.toNat ((bytes.drop 1).take (bytes.length - 3)) = none →
        exec (.badFrame partByte (first :: bytes)) s = s.refusedWith .range))
  ∧ (∀ (clocked : Nat) (s : State), 1 ≤ clocked →
       (∀ r, s.port.state = .ready → s.port.held = some r →
         exec (.responseRead clocked) s =
           .next { s with port :=
             { s.port with sdout := (r.frame ++ List.replicate clocked 0xFF).take clocked,
                           read := s.port.read || decide (r.frame.length ≤ clocked) } })
       ∧ (s.port.state ≠ .ready →
         exec (.responseRead clocked) s =
           .next { s with port := { s.port with sdout := List.replicate clocked 0xFF } }))

/-- The layouts of chapter 9. (a) A number goes high byte first (R186), bit i of a mask is the i-th member of its set (R187),
and a frame is its status, its length and its payload with their CRC. (b) The codes of R186 to R190. (c) LOOKUP, LIST and
READ ATTENTION (R188). (d) The slot block, POSITION QUERY and the vaults, and (e) BALANCE READ (R189). (f) LANE QUERY and
ALARM LIST, and (g) CONFIG READ (R190), with the lengths the rules sum up. What is absent in a state that holds no counts
is DEDUCED (log entry 12). That an absent duress mark is sent as the empty mask is model's choice (log entry 39), and so is
01h for a set flag where the rules give a flag's byte no values (log entry 40). -/
def Obligations.PayloadsAreLaidOut : Prop :=
  ((∀ k n, (beBytes k n).length = k ∧ ∀ i, i < k → (beBytes k n)[i]? = some (BitVec.ofNat 8 (n / 256 ^ (k - 1 - i))))
    ∧ (∀ (flags : List Bool) i, (flagMask flags).testBit i = flags.getD i false)
    ∧ (∀ r : Response, r.frame = withCrc (fields [(1, some r.status.code), (2, some r.payload.length)] ++ r.payload)))
  ∧ ([Status.ok, .notFound, .badState, .tableFull, .range, .valueMismatch, .short, .unavailable, .samePosition,
        .notInService, .locked, .busy, .badFrame, .unknownRequest].map Status.code = List.range 14
    ∧ [DispenseState.awaitingSecond, .queued, .picking, .pickHalted, .purging, .staged, .routing, .presented, .retracting,
        .disputed, .delivered, .returned, .voided, .expired, .resolved].map DispenseState.code = (List.range 15).map (· + 1)
    ∧ [EnvelopeState.awaitingEnvelope, .capturing, .jammed, .envelopeHeld, .voided].map EnvelopeState.code
        = [0x10, 0x11, 0x12, 0x13, 0x0D]
    ∧ [IntakeState.readyIntake, .collecting, .counted, .voided].map IntakeState.code = [0x18, 0x19, 0x1A, 0x0D]
    ∧ [HaltReason.depleted, .suspended, .notReady, .rejectFull, .rejects, .removed].map HaltReason.code = [1, 2, 3, 4, 5, 6]
    ∧ [PosState.absent, .identifying, .refused, .inService, .suspended, .releasePending, .unlocked].map PosState.code
        = List.range 7
    ∧ [RefusedReason.tagUnreadable, .tagChecksum, .denomination, .capacity, .gaugeReference].map RefusedReason.code
        = [1, 2, 3, 4, 5]
    ∧ [Depleted.clear, .zero, .misses].map Depleted.code = [0, 1, 2]
    ∧ [RemovalKind.released, .unreleased].map RemovalKind.code = [1, 2]
    ∧ [CountState.idle, .quiescing, .balancing].map CountState.code = [0, 1, 2]
    ∧ [CountResult.clean, .tagWriteFailed, .timedOut].map CountResult.code = [1, 2, 3]
    ∧ [Link.disabled, .joining, .online, .silent, .faulted].map Link.code = [0, 1, 2, 3, 4]
    ∧ [JoinRun.idle, .statusD, .statusL].map JoinRun.code = [0, 1, 2]
    ∧ [DrawerValue.locked, .unlocked, .closing].map DrawerValue.code = [0, 1, 2]
    ∧ [DrawerReport.locked, .unlocked, .opened].map DrawerReport.code = [0, 1, 2]
    ∧ [SlotValue.opened, .closed, .capture, .giveBack].map SlotValue.code = [0, 1, 2, 3]
    ∧ [Lamp.idle, .wait, .take, .deposit, .laneClosed].map Lamp.code = [0, 1, 2, 3, 4]
    ∧ [LostDecision.idle, .owed, .owedExpired].map LostDecision.code = [0, 1, 2]
    ∧ [HandlingState.idle, .capturing, .returning, .jammed].map HandlingState.code = [0, 1, 2, 3]
    ∧ [JamCause.station, .returned, .resultLost].map JamCause.code = [1, 2, 3]
    ∧ [RefusalCause.notInService, .lockdown, .binUnverified, .binFull, .noTicket, .tableFull].map RefusalCause.code
        = [1, 2, 3, 4, 5, 6]
    ∧ [AlarmState.raised, .acked, .standing].map AlarmState.code = [1, 2, 3]
    ∧ [AlarmClass.none, .notice, .hold, .lockdown, .duress].map AlarmClass.rank = [0, 1, 2, 3, 4]
    ∧ (∀ n, holderCode none = 0 ∧ holderCode (some .sweep) = 0xFFFE ∧ holderCode (some (.ticket n)) = n))
  ∧ ((∀ (s : State) (t : Ticket),
        let kind := match t.body with
          | .dispense _ => 1
          | .envelope _ => 2
          | .intake _ => 3
        let code := match t.body with
          | .dispense d => d.state.code
          | .envelope e => e.state.code
          | .intake k => k.state.code
        let amount := match t.body with
          | .dispense d => some d.amount
          | .envelope e => e.amount
          | .intake k => some k.amount
        let common := fields [(2, some t.number), (1, some kind), (1, some t.lane.number), (1, some code),
          (1, t.opener.map Teller.number), (1, some (flagMask [t.mark.a, t.mark.b])), (3, amount)]
        (∀ d, t.body = .dispense d →
          s.lookupBytes t = common
            ++ fields [(1, some d.dualRequired.toNat), (1, some d.first.number), (1, d.second.map Teller.number),
                (1, if t.number ∈ s.pickQueue then some (s.pickQueue.idxOf t.number + 1) else none),
                (1, some d.goodPicked), (2, some d.rejectPicks), (1, some d.presented), (1, some d.delivered),
                (1, some d.retracted), (1, some d.unresolved), (1, d.halt.map HaltReason.code),
                (1, some (flagMask [d.laneLost, d.recalled])),
                (1, some (d.deadline.elim 0 fun x => if x.kind = .approval then 1 else 2)),
                (2, d.deadline.map Deadline.seconds), (1, some d.plan.length)]
            ++ d.plan.flatMap (fun g =>
                fields [(1, some g.position.number), (1, some g.notes), (1, some g.picked), (2, some g.value)])
          ∧ (s.lookupBytes t).length = 27 + 5 * d.plan.length)
        ∧ (∀ e, t.body = .envelope e →
          s.lookupBytes t = common ++ fields [(1, e.sequence)] ∧ (s.lookupBytes t).length = 11)
        ∧ (∀ k, t.body = .intake k →
          let entries := Code.all.filter fun c => decide (0 < k.accepted.get c)
          s.lookupBytes t = common
            ++ fields [(2, some k.recycled), (2, some k.vaulted), (2, some k.returned), (1, some entries.length)]
            ++ entries.flatMap (fun c => fields [(1, some c.number), (2, some (k.accepted.get c))])
          ∧ (s.lookupBytes t).length = 17 + 3 * entries.length))
    ∧ (∀ (s : State) (start : Nat),
        let found := s.tickets.filter fun t => decide (start ≤ t.number)
        s.listBytes start = fields [(1, some (decide (16 < found.length)).toNat), (1, some (found.take 16).length)]
            ++ (found.take 16).flatMap (fun t =>
                fields [(2, some t.number), (1, some t.kindCode), (1, some t.stateCode)])
          ∧ (s.listBytes start).length = 2 + 4 * min 16 found.length)
    ∧ (∀ s : State,
        s.attentionBytes = fields [(1, some (flagMask [s.reasons.alarm, s.reasons.tickets, s.reasons.position,
              s.reasons.lane, s.reasons.balance, s.reasons.envelopeRefused, s.reasons.port])),
            (1, some s.changeSet.length)] ++ s.changeSet.flatMap (fun n => fields [(2, some n)])
          ∧ s.attentionBytes.length = 2 + 2 * s.changeSet.length))
  ∧ ((∀ x : Slot,
        let known := fun (v : Nat) => if x.state.live then some v else none
        let ofTag := fun (f : Identity → Nat) => x.identity.map f
        x.block = fields [(1, some x.state.code), (1, x.refused.map RefusedReason.code)]
          ++ (x.identity.map Identity.serial).getD (List.replicate 8 0xFF)
          ++ fields [(1, ofTag Identity.code), (2, ofTag Identity.noteValue), (2, ofTag Identity.capacity),
              (1, ofTag Identity.thickness), (1, ofTag Identity.length), (1, ofTag fun k => k.recycle.toNat),
              (2, known x.base), (2, known x.count), (2, known x.pickedOut), (2, known x.storedIn),
              (2, known x.totalPickedOut), (2, known x.totalStoredIn), (1, known x.overrun), (2, some x.committed),
              (1, some x.window.length), (1, some (flagMask x.window)), (1, some x.missRun), (1, some x.depleted.code),
              (1, some (flagMask [x.low, x.uncertain, x.reviewed, x.unverified, x.tagStale, x.markOwed])),
              (1, x.prior.map PosState.code), (1, x.release.map fun a => a.teller.number),
              (1, x.release.map Approval.seconds)]
        ∧ ((∀ k, x.identity = some k → k.serial.length = 8) → x.block.length = 41))
    ∧ (∀ (s : State) (p : Pos),
        let x := s.slot p
        s.positionBytes p = x.block
          ++ fields [(2, some (if x.state = .inService then x.count - x.committed else 0))]
          ++ (x.identity.map Identity.image).getD (List.replicate 64 0xFF)
          ++ (match s.retiring.get p with
              | some r => fields [(1, some 1)] ++ r.slot.block ++ fields [(1, some r.kind.code), (2, some r.number)]
              | none => fields [(1, some 0), (44, none)])
          ++ fields [(1, some (s.carries.get p).copies.total), (3, some (s.carries.get p).notes.total),
              (4, some (s.carries.get p).value.total)]
        ∧ ((∀ k, x.identity = some k → k.serial.length = 8 ∧ k.image.length = 64) →
            (∀ r, s.retiring.get p = some r → r.slot.block.length = 41) → (s.positionBytes p).length = 160))
    ∧ (∀ v : RejectVault,
        v.bytes = fields [(2, some v.pickRejects), (2, some v.retracted), (2, some v.sweep), (2, some v.count),
          (2, some v.sincePick.total), (2, some v.sinceRetracted.total), (2, some v.sinceSweep.total),
          (2, some v.emptied.total), (1, some v.present.toNat), (1, some v.unverified.toNat)] ∧ v.bytes.length = 18)
    ∧ (∀ v : IntakeVault,
        v.bytes = fields (Code.all.map (fun c => (2, some (v.entries.get c))) ++ [(2, some v.total)]
          ++ Code.all.map (fun c => (2, some (v.since.get c).total))
          ++ [(2, some v.emptied.total), (1, some v.present.toNat), (1, some v.unverified.toNat)])
        ∧ v.bytes.length = 38))
  ∧ ((∀ s : State,
        let c := s.countPoint
        s.balanceBytes = fields [(1, some c.state.code),
            (1, some (flagMask [c.causes.requested, c.causes.release, c.causes.periodic, c.causes.start])),
            (1, some c.pending.toNat),
            (1, some (flagMask [c.pendingCauses.requested, c.pendingCauses.release, c.pendingCauses.periodic,
              c.pendingCauses.start])),
            (1, c.timer)] ++ s.balance.elim [] Balance.bytes)
    ∧ (∀ b : Balance,
        b.bytes = fields [(2, some b.number),
            (1, some (flagMask [b.causes.requested, b.causes.release, b.causes.periodic, b.causes.start])),
            (1, some b.result.code), (1, some (flagMask [b.failures.a, b.failures.b, b.failures.c, b.failures.d])),
            (1, some (flagMask [b.notAtRest.picker, b.notAtRest.route, b.notAtRest.purge, b.notAtRest.intake]))]
          ++ Pos.all.flatMap (fun p => (b.slots.get p).block)
          ++ Pos.all.flatMap (fun p =>
              match b.retiring.get p with
              | some r => fields [(1, some 1)] ++ r.slot.block ++ fields [(1, some r.kind.code), (2, some r.number)]
              | none => fields [(1, some 0), (44, none)])
          ++ Pos.all.flatMap (fun p => fields [(1, some (b.carries.get p).copies.total),
              (3, some (b.carries.get p).notes.total), (4, some (b.carries.get p).value.total)])
          ++ b.reject.bytes ++ b.intake.bytes ++ fields [(1, some b.laneCount)]
          ++ Lane.all.flatMap (fun l =>
              if l.number ≤ b.laneCount then
                fields [(1, some (b.binCounts.get l)), (1, some (b.binVerified.get l).toNat)]
              else fields [(1, none), (1, none)])
          ++ fields [(1, some b.openTickets), (2, some b.heldNotes), (3, some b.heldValue), (2, some b.unresolved),
              (2, some b.writtenOff), (2, some b.storedAfter)]
        ∧ ((∀ p, (b.slots.get p).block.length = 41) → (∀ p r, b.retiring.get p = some r → r.slot.block.length = 41) →
            b.bytes.length + 5 = 472)))
  ∧ ((∀ (s : State) (l : Lane),
        let r := s.lane l
        let h := s.handlings.get l
        let entries := s.disputes.filter fun d => decide (d.lane = l)
        s.laneBytes l = fields [(1, some r.link.code), (1, some r.badRun), (1, some r.faultRun), (1, some r.joinRun.code),
            (1, r.lastEvent), (1, some r.desiredDrawer.code), (1, some r.desiredSlot.code), (1, some r.desiredLamp.code),
            (1, some r.effDrawer.code), (1, some r.effSlot.code), (1, r.repDrawer.map DrawerReport.code),
            (1, r.repNotes.map Bool.toNat), (1, r.repFault.map Bool.toNat), (1, r.repSlot.map SlotValue.code),
            (1, r.repLamp.map Lamp.code), (1, r.callButton.map Bool.toNat), (1, r.tamper.map Bool.toNat),
            (1, r.stampEcho), (2, some (holderCode r.holder)), (2, r.lostTimer), (1, some r.lost.code),
            (2, some r.receiveErrors), (2, some r.silentSlots), (2, some r.lineFaults), (1, some r.binCount),
            (1, some r.binVerified.toNat), (1, some h.state.code), (2, h.ticket), (1, h.jam.map JamCause.code),
            (1, h.lastRefusal.map RefusalCause.code), (1, some h.refusals), (1, some entries.length)]
          ++ entries.flatMap (fun d => fields [(2, some d.ticket), (2, d.sweptBack)])
        ∧ (s.laneBytes l).length = 38 + 4 * entries.length)
    ∧ (∀ (s : State) (start : Nat),
        let found := s.alarms.records.filter fun r => decide (start ≤ r.source.number)
        s.alarmBytes start = fields [(1, some (flagMask [s.alarms.hold, s.alarms.lockdown, s.alarms.duress])),
            (1, some (flagMask [s.alarms.duress, s.alarms.lockdown])), (1, some s.alarms.pattern.toNat),
            (1, some (s.localClass s.alarms.pattern).rank), (1, some (decide (8 < found.length)).toNat),
            (1, some (found.take 8).length)]
          ++ (found.take 8).flatMap (fun r =>
              fields [(1, some r.source.number), (1, some r.state.code),
                (1, some (flagMask [r.classes.notice, r.classes.hold, r.classes.lockdown, r.classes.duress])),
                (1, some r.classes.highest.rank), (1, some r.current.rank), (1, some r.timesRaised), (1, r.pattern)])
        ∧ (s.alarmBytes start).length = 6 + 7 * min 8 found.length))
  ∧ (∀ s : State,
      let q := s.params
      let c := q.sourceClasses
      s.configBytes = fields [(1, some q.laneCount), (3, some q.dualLimit), (2, some q.approvalWindow),
          (1, some q.takeTimeout), (2, some q.lostLaneLimit), (1, some q.quiesceTimeout), (1, some q.periodicCount),
          (1, some q.busyLevel), (1, some q.maxRejects), (1, some q.suspendThreshold), (1, some q.recycling.toNat),
          (1, some q.autoEnvelope.toNat)]
        ++ fields (Pos.all.map fun p => (2, some (q.lowLevels.get p)))
        ++ fields (Code.all.map fun k => (2, some ((q.denominations.get k).getD 0)))
        ++ fields (q.classTable.map fun k => (1, some k.rank))
        ++ fields (Lane.all.map (fun l => (1, some (c.laneTamper.get l).rank))
            ++ Lane.all.map (fun l => (1, some (c.lineFault.get l).rank))
            ++ Pos.all.map (fun p => (1, some (c.cassetteTamper.get p).rank))
            ++ [(1, some c.rejectFull.rank), (1, some c.intakeFull.rank)])
        ++ fields [(1, some s.wall.service.toNat), (1, some s.wall.starting.toNat), (1, some s.wall.laneCountSet.toNat),
            (1, some s.approvals.length)]
        ++ s.approvals.flatMap (fun a =>
            (match a.target with
             | .vault v => fields [(1, some 1), (2, some v.number)]
             | .bin l => fields [(1, some 2), (2, some l.number)]
             | .resolve n => fields [(1, some 3), (2, some n)])
            ++ fields [(1, some a.teller.number), (1, some a.seconds), (1, a.delivered)])
      ∧ (q.classTable.length = 64 → s.configBytes.length = 130 + 6 * s.approvals.length))

/-- The frame of every well-formed request is read back as that request, so no argument of a request is dropped on the
line (R174, R186, R187, R190). -/
def Obligations.RequestFrameReadsBack : Prop :=
  ∀ (i : Instr) (bytes : List Byte), i.wellFormed = true → requestFrame i = some bytes →
    judgeFrame false bytes = .request i

/-- READ ATTENTION returns both sets, empties them, and keeps what it returned as the read-out sets of its response
(R179). -/
def Obligations.ReadAttentionEmptiesBothSets : Prop :=
  ∀ s : State, s.frameBegun →
    exec .readAttention s =
      State.answeredOk
        { s with reasons := .empty, changeSet := [],
                 port := { s.port with readOutReasons := s.reasons, readOutNumbers := s.changeSet } }
        (beBytes 1 s.reasons.mask ++ beBytes 1 s.changeSet.length ++ s.changeSet.flatMap (beBytes 2))

/-- (a) IDENTIFY changes no record and returns 2Bh, 0D08h and 03h; CONFIG READ and BALANCE READ change no record and
return the parameters and the balance record (R172, R180). (b) LOOKUP, LIST, ALARM LIST, LANE QUERY and POSITION QUERY
change no record: each is refused by its rule, or answered with the payload of what it names (R5, R30, R31, R61, R140,
R150). -/
def Obligations.ReadingsChangeNoRecord : Prop :=
  (∀ s : State, s.frameBegun →
      exec .identify s = s.answeredOk [0x2B, 0x0D, 0x08, 0x03]
      ∧ exec .configRead s = s.answeredOk s.configBytes
      ∧ exec .balanceRead s = s.answeredOk s.balanceBytes)
  ∧ (∀ (n : Nat) (s : State), s.frameBegun →
      exec (.lookup n) s =
        (if n = 0 ∨ 9999 < n then s.refusedWith .range
         else match s.ticket n with
           | none => s.refusedWith .notFound
           | some t => s.answeredOk (s.lookupBytes t))
      ∧ exec (.list n) s = (if n = 0 ∨ 9999 < n then s.refusedWith .range else s.answeredOk (s.listBytes n))
      ∧ exec (.alarmList n) s = (if 22 < n then s.refusedWith .range else s.answeredOk (s.alarmBytes n))
      ∧ exec (.laneQuery n) s =
        (match Lane.ofNat? n with
         | none => s.refusedWith .range
         | some l => s.answeredOk (s.laneBytes l))
      ∧ exec (.positionQuery n) s =
        (match Pos.ofNat? n with
         | some p => s.answeredOk (s.positionBytes p)
         | none =>
           if n = 5 then s.answeredOk (s.rejectVault.bytes ++ beBytes 2 s.rejectVault.room)
           else if n = 6 then s.answeredOk s.intakeVault.bytes
           else s.refusedWith .range))

/-- (a) START WALL (R183): BAD_STATE in SERVICE, BUSY while starting, BAD_STATE before CONFIGURE has named the lane
count; taken, it sets the starting mark and the sweep pending mark (R91), and answers SETUP with the mark as 01h (model's
choice, log entry 40). (b) ENTER SETUP makes the five checks in their
order; taken, the wall state is SETUP, the desired values are formed anew, and every other record stays as it is (R184).
-/
def Obligations.WallStateRequestsCheckInOrder : Prop :=
  (∀ s : State, s.frameBegun →
      exec .startWall s =
        if s.wall.service then s.refusedWith .badState
        else if s.wall.starting then s.refusedWith .busy
        else if ¬ s.wall.laneCountSet then s.refusedWith .badState
        else State.answeredOk { s with wall := { s.wall with starting := true }, sweepPending := true } [0, 1])
  ∧ (∀ s : State, s.frameBegun →
      exec .enterSetup s =
        if ¬ s.wall.service then s.refusedWith .badState
        else if s.tickets ≠ [] then s.refusedWith .badState
        else if s.countPoint.state ≠ .idle then s.refusedWith .busy
        else if s.staging.owner ≠ none ∨ s.route ≠ .free ∨ s.retracts ≠ [] ∨ Lane.all.any (fun l => (s.lane l).holder.isSome)
            ∨ s.intakeRec.state ≠ .idle ∨ s.intakeRec.stray
            ∨ Lane.all.any (fun l => decide ((s.handlings.get l).state ≠ .idle)) then s.refusedWith .busy
        else if Pos.all.any (fun p =>
            (s.slot p).state.live && decide (0 < (s.slot p).pickedOut ∨ 0 < (s.slot p).storedIn)) then s.refusedWith .busy
        else State.answeredOk (State.reform { s with wall := { s.wall with service := false } }) [])

/-! ### Tickets (chapter 1) -/

/-- The number issued is one no occupied entry holds, and is the first such searched upward from the counter, wrapping
from 9999 to 1 (R4). -/
def Obligations.NumberIssuedIsTheFirstFree : Prop :=
  ∀ s : State, s.tablesOrdered → s.hasFreeEntry = true →
    s.ticket s.issueNumber = none ∧ 1 ≤ s.issueNumber ∧ s.issueNumber ≤ 9999
      ∧ ∀ m, 1 ≤ m → m ≤ 9999 → s.ticket m = none →
          (s.issueNumber + 9999 - s.nextNumber) % 9999 ≤ (m + 9999 - s.nextNumber) % 9999

/-- (a) OPEN DISPENSE (R5, R6): the checks in their order, each refused with its status. (b) OPEN DISPENSE taken (R6,
R7): a record with a new number and open stamp; the opener and first approval are the named position, with the mark of
R33; the segments as asked with their note values fixed and nothing picked; it waits for its second approval when the
limit asks for one, and else joins the pick queue at its tail. -/
def Obligations.OpenDispenseChecksAndOpens : Prop :=
  (∀ (teller lane amount : Nat) (segs : List SegmentArg) (s : State), s.frameBegun →
      (s.wall.service = false → exec (.openDispense teller lane amount segs) s = s.refusedWith .notInService)
      ∧ (s.wall.service = true →
          (teller = 0 ∨ 2 < teller ∨ lane = 0 ∨ s.params.laneCount < lane ∨ amount = 0 ∨ 999999 < amount ∨ segs = []
            ∨ 4 < segs.length ∨ (∃ g ∈ segs, g.position = 0 ∨ 4 < g.position ∨ g.notes = 0 ∨ 200 < g.notes)
            ∨ 200 < (segs.map SegmentArg.notes).sum) →
          exec (.openDispense teller lane amount segs) s = s.refusedWith .range)
      ∧ ∀ who l asks, s.wall.service = true → Teller.ofNat? teller = some who → s.namedLane lane = some l →
          1 ≤ amount → amount ≤ 999999 → namedSegments segs = some asks →
          (s.hasFreeEntry = false → exec (.openDispense teller lane amount segs) s = s.refusedWith .tableFull)
          ∧ (s.hasFreeEntry = true → (∃ x ∈ asks, (s.slot x.position).state ≠ .inService) →
              exec (.openDispense teller lane amount segs) s = s.refusedWith .unavailable)
          ∧ (s.hasFreeEntry = true → (∀ x ∈ asks, (s.slot x.position).state = .inService) →
              ((asks.map fun x => x.notes * s.noteValueAt x.position).sum ≠ amount →
                exec (.openDispense teller lane amount segs) s = s.refusedWith .valueMismatch)
              ∧ ((asks.map fun x => x.notes * s.noteValueAt x.position).sum = amount →
                (∃ p, (s.slot p).state = .inService ∧
                  (s.slot p).count - (s.slot p).committed < (asks.map fun x => if x.position = p then x.notes else 0).sum) →
                exec (.openDispense teller lane amount segs) s = s.refusedWith .short)))
  ∧ (∀ (teller lane amount : Nat) (segs : List SegmentArg) (who : Teller) (l : Lane) (asks : List Ask) (s : State),
      s.frameBegun → s.wall.service = true → Teller.ofNat? teller = some who → s.namedLane lane = some l → 1 ≤ amount →
      amount ≤ 999999 → namedSegments segs = some asks → s.hasFreeEntry = true →
      (∀ x ∈ asks, (s.slot x.position).state = .inService) →
      (asks.map fun x => x.notes * s.noteValueAt x.position).sum = amount →
      (∀ p, (asks.map fun x => if x.position = p then x.notes else 0).sum ≤ (s.slot p).count - (s.slot p).committed) →
      let n := s.issueNumber
      let dual := decide (s.params.dualLimit ≠ 0 ∧ s.params.dualLimit < amount)
      let mark := if s.alarms.duress ∧ duressInput s.alarms.pattern who then TellerSet.add ⟨false, false⟩ who
        else ⟨false, false⟩
      let record : Ticket :=
        { number := n, lane := l, opener := some who, openStamp := s.nextStamp, mark := mark,
          body := .dispense
            { state := if dual then .awaitingSecond else .queued, amount := amount,
              plan := asks.map fun x =>
                { position := x.position, notes := x.notes, picked := 0, value := s.noteValueAt x.position },
              dualRequired := dual, first := who, second := none,
              queueStamp := if dual then none else some (s.nextStamp + 1), goodPicked := 0, presented := 0, delivered := 0,
              retracted := 0, unresolved := 0, rejectPicks := 0, halt := none, laneLost := false, recalled := false,
              deadline := if dual then some ⟨.approval, s.params.approvalWindow⟩ else none } }
      exec (.openDispense teller lane amount segs) s =
        State.answeredOk
          (State.reform
            { s.ticketEnters record with
              nextNumber := if n < 9999 then n + 1 else 1,
              nextStamp := if dual then s.nextStamp + 1 else s.nextStamp + 2,
              pickQueue := if dual then s.pickQueue else s.pickQueue ++ [n] })
          (beBytes 2 n ++ beBytes 1 (if dual then 0x01 else 0x02)))

/-- (a) OPEN ENVELOPE and OPEN INTAKE (R5, R8, R9): refused with NOT_IN_SERVICE, RANGE or TABLE_FULL in that order; taken,
a new record in AWAITING_ENVELOPE with amount and sequence absent, or in READY_INTAKE with every figure 0. (b) APPROVE
(R12): the checks in their order; taken, the second approval is the named position, the deadline is removed, and the
ticket enters QUEUED at the tail of the pick queue, with the mark of R33. -/
def Obligations.OpenEnvelopeIntakeAndApprove : Prop :=
  (∀ (teller lane : Nat) (s : State), s.frameBegun →
      let n := s.issueNumber
      let opened (who : Teller) (l : Lane) (b : TicketBody) : State :=
        State.reform
          { s.ticketEnters
              { number := n, lane := l, opener := some who, openStamp := s.nextStamp,
                mark := if s.alarms.duress ∧ duressInput s.alarms.pattern who then TellerSet.add ⟨false, false⟩ who
                  else ⟨false, false⟩,
                body := b } with
            nextNumber := if n < 9999 then n + 1 else 1, nextStamp := s.nextStamp + 1 }
      let answer (b : TicketBody) (code : Nat) : Host.Outcome State Fault Refusal :=
        if ¬ s.wall.service then s.refusedWith .notInService
        else
          match Teller.ofNat? teller, s.namedLane lane with
          | some who, some l =>
            if 32 ≤ s.tickets.length then s.refusedWith .tableFull
            else (opened who l b).answeredOk (beBytes 2 n ++ beBytes 1 code)
          | _, _ => s.refusedWith .range
      exec (.openEnvelope teller lane) s =
          answer (.envelope { state := .awaitingEnvelope, amount := none, sequence := none }) 0x10
        ∧ exec (.openIntake teller lane) s =
          answer (.intake { state := .readyIntake, amount := 0, accepted := PerCode.const 0, recycled := 0, vaulted := 0,
                            returned := 0 }) 0x18)
  ∧ (∀ (n teller : Nat) (s : State), s.frameBegun →
       exec (.approve n teller) s =
         if ¬ s.wall.service then s.refusedWith .notInService
         else if n = 0 ∨ 9999 < n then s.refusedWith .range
         else
           match Teller.ofNat? teller, s.ticket n with
           | none, _ => s.refusedWith .range
           | some _, none => s.refusedWith .notFound
           | some who, some t =>
             match t.body with
             | .dispense d =>
               if d.state ≠ .awaitingSecond then s.refusedWith .badState
               else if who = d.first then s.refusedWith .samePosition
               else
                 State.answeredOk
                   (State.reform
                     { s.ticketEnters
                         { t with
                           mark := if s.alarms.duress ∧ duressInput s.alarms.pattern who then t.mark.add who else t.mark,
                           body := .dispense { d with state := .queued, second := some who, deadline := none, halt := none,
                                                      queueStamp := some s.nextStamp } } with
                       pickQueue := s.pickQueue ++ [n], nextStamp := s.nextStamp + 1 })
                   (beBytes 2 n ++ beBytes 1 0x02)
             | .envelope _ => s.refusedWith .badState
             | .intake _ => s.refusedWith .badState)

/-- The rows by which the formed values stand, in every state in which they stand as formed
(`Obligations.StepKeepsTheFormedValues`): the desired drawer by the last report handed to the Dispense Engine (R86, R130;
row 1 before the sentence on retracts is model's choice, log entry 28), the desired slot (R97), the desired lamp (R22,
R98), what the LOCKDOWN override leaves (R124), and the committed notes of each position (R17). They are so for all eight
lanes (DEDUCED, log entry 15). -/
def Obligations.FormedValuesFollowTheirRows : Prop :=
  ∀ s : State, s.formed = true →
    (∀ l : Lane,
      let r := s.lane l
      let h := (s.handlings.get l).state
      let awaits := ∃ t ∈ s.tickets, t.lane = l ∧ ∃ e, t.body = .envelope e ∧ e.state = .awaitingEnvelope
      let collects := ∃ t ∈ s.tickets, t.lane = l ∧ ∃ k, t.body = .intake k ∧ k.state = .collecting
      let shut := s.wall.service = false ∨ s.alarms.lockdown = true
      let deposit := awaits ∧ r.desiredSlot = .opened ∨ h = .capturing ∨ collects
      (r.desiredDrawer = .closing ↔
          ∃ p, s.presentations.get l = some p ∧ p.closeAsked = true ∧ r.handedDrawer ≠ some .locked)
      ∧ (r.desiredDrawer = .unlocked ↔
          ∃ p, s.presentations.get l = some p ∧ p.decided = false ∧ p.closeAsked = false ∧ r.link = .online
            ∧ (∀ d, s.dispense p.ticket = some d → d.laneLost = false) ∧ s.alarms.lockdown = false)
      ∧ (r.desiredSlot = .capture ↔ h = .capturing) ∧ (r.desiredSlot = .giveBack ↔ h = .returning)
      ∧ (r.desiredSlot = .opened ↔
          h = .idle ∧ s.wall.service = true
            ∧ (awaits ∨ s.params.autoEnvelope = true ∧ s.tickets.length < 32)
            ∧ r.binVerified = true ∧ r.binCount < 120 ∧ s.alarms.lockdown = false ∧ r.link ≠ .faulted
            ∧ r.unheard = false)
      ∧ (r.desiredLamp = .laneClosed ↔ shut)
      ∧ (r.desiredLamp = .take ↔ ¬ shut ∧ r.desiredDrawer = .unlocked)
      ∧ (r.desiredLamp = .deposit ↔ ¬ shut ∧ r.desiredDrawer ≠ .unlocked ∧ deposit)
      ∧ (r.desiredLamp = .wait ↔
          ¬ shut ∧ r.desiredDrawer ≠ .unlocked ∧ ¬ deposit ∧ r.link = .online
            ∧ s.params.busyLevel ≤ s.pickQueue.length)
      ∧ r.effDrawer = (if s.alarms.lockdown then (if r.repDrawer = some .opened then .closing else .locked)
                       else r.desiredDrawer)
      ∧ r.effSlot = (if s.alarms.lockdown then .closed else r.desiredSlot))
    ∧ ∀ p : Pos, (s.slot p).committed =
        (s.tickets.map fun t =>
          match t.body with
          | .dispense d =>
            if d.state = .awaitingSecond ∨ d.state = .queued ∨ d.state = .picking ∨ d.state = .pickHalted then
              ((d.plan.filter fun g => decide (g.position = p)).map fun g => g.notes - g.picked).sum
            else 0
          | .envelope _ => 0
          | .intake _ => 0).sum

/-- (a) The approval window's expiry takes a ticket in AWAITING_SECOND to EXPIRED with its deadline removed (R13). (b)
The take timer's expiry on a PRESENTED ticket with a take deadline: the lane's presentation is asked to close (R29,
R87), and the deadline shows 0 (model's choice, log entry 10). (c) The running out of a held first approval discards it,
wherever it is held, and changes nothing else (R177). -/
def Obligations.TimersOfTicketsAndApprovalsRunOut : Prop :=
  (∀ (t : Ticket) (d : Dispense) (s : State), s.holdsDispense t d → d.state = .awaitingSecond →
      exec (.approvalWindowExpiry t.number) s =
        .next (s.ticketEnters { t with body := .dispense { d with state := .expired, halt := none, deadline := none } }).reform)
  ∧ (∀ (t : Ticket) (d : Dispense) (x : Deadline) (p : Presentation) (s : State), s.holdsDispense t d → d.state = .presented →
      d.deadline = some x → x.kind = .take → s.presentations.get t.lane = some p →
      exec (.takeTimerExpiry t.number) s =
        .next
          (State.reform
            { s.putTicket { t with body := .dispense { d with deadline := some ⟨.take, 0⟩ } } with
              presentations := s.presentations.set t.lane (some { p with closeAsked := true }) }))
  ∧ (∀ s : State,
      (∀ p, exec (.dualApprovalExpiry (.release p)) s =
        .next { s with slots := s.slots.set p { s.slot p with release := none } })
      ∧ (∀ v, exec (.dualApprovalExpiry (.vault v)) s =
        .next { s with approvals := s.approvals.filter fun a => a.target.key != (HeldTarget.vault v).key })
      ∧ (∀ l, exec (.dualApprovalExpiry (.bin l)) s =
        .next { s with approvals := s.approvals.filter fun a => a.target.key != (HeldTarget.bin l).key })
      ∧ ∀ n, exec (.dualApprovalExpiry (.resolve n)) s =
        .next { s with approvals := s.approvals.filter fun a => a.target.key != (HeldTarget.resolve n).key })

/-- (a) AMEND in AWAITING_SECOND or QUEUED that is taken (R14): the plan is the one named, or the ticket's own, with its
note values fixed anew and nothing picked. With the amount unchanged the approvals and the place in the queue are kept,
and in AWAITING_SECOND the window starts again. With the amount changed the amending position is the first approval and
the only one, the dual-control test is applied again, and the ticket waits for a second approval or stands at the
queue's tail. (b) AMEND of any ticket is refused with NOT_IN_SERVICE in SETUP, RANGE for an argument out of its range,
and NOT_FOUND for a number no entry holds, in that order (R5). (c) AMEND in AWAITING_SECOND or QUEUED is refused with
RANGE when it names neither an amount nor segments, and else with UNAVAILABLE, VALUE_MISMATCH or SHORT, in that order
(R14). -/
def Obligations.AmendBeforePicking : Prop :=
  (∀ (t : Ticket) (d : Dispense) (teller amount : Nat) (segs : List SegmentArg) (who : Teller) (asks : List Ask)
      (named : Option Nat) (s : State),
      s.frameBegun → s.wall.service = true → 1 ≤ t.number → t.number ≤ 9999 → Teller.ofNat? teller = some who →
      optionalAmount amount = some named → optionalSegments segs = some asks → s.holdsDispense t d →
      (d.state = .awaitingSecond ∨ d.state = .queued) → (named ≠ none ∨ asks ≠ []) →
      let result := named.getD d.amount
      let wanted := if asks = [] then d.plan.map fun g => (⟨g.position, g.notes⟩ : Ask) else asks
      let plan : List Segment := wanted.map fun x =>
        { position := x.position, notes := x.notes, picked := 0, value := s.noteValueAt x.position }
      let dual := decide (s.params.dualLimit ≠ 0 ∧ s.params.dualLimit < result)
      (∀ x ∈ wanted, (s.slot x.position).state = .inService) → planValue plan = result →
      (∀ p, (wanted.map fun x => if x.position = p then x.notes else 0).sum
          ≤ (s.slot p).count - ((s.slot p).committed - unpickedAt p d.plan)) →
      ∃ u, exec (.amend t.number teller amount segs) s = .next u ∧ u.port.held.map Response.status = some .ok
        ∧ (result = d.amount →
            u = State.hold
              (State.reform
                (s.putTicket { t with body := .dispense { d with
                  plan := plan,
                  deadline := if d.state = .awaitingSecond then some ⟨.approval, s.params.approvalWindow⟩
                    else d.deadline } }))
              ⟨.ok, beBytes 2 t.number ++ beBytes 1 d.state.code⟩)
        ∧ (result ≠ d.amount →
            u = State.hold
              (State.reform
                { s.ticketEnters { t with
                    mark := if s.alarms.duress ∧ duressInput s.alarms.pattern who then t.mark.add who else t.mark,
                    body := .dispense { d with
                      state := if dual then .awaitingSecond else .queued, amount := result, plan := plan,
                      dualRequired := dual, first := who, second := none, halt := none,
                      queueStamp := if dual then d.queueStamp else some s.nextStamp,
                      deadline := if dual then some ⟨.approval, s.params.approvalWindow⟩ else none } } with
                  pickQueue := s.pickQueue.filter (· != t.number) ++ (if dual then [] else [t.number]),
                  nextStamp := if dual then s.nextStamp else s.nextStamp + 1 })
              ⟨.ok, beBytes 2 t.number ++ beBytes 1 (if dual then 0x01 else 0x02)⟩))
  ∧ (∀ (ticket teller amount : Nat) (segs : List SegmentArg) (s : State), s.frameBegun →
      (s.wall.service = false → exec (.amend ticket teller amount segs) s = s.refusedWith .notInService)
      ∧ (s.wall.service = true →
          (ticket = 0 ∨ 9999 < ticket ∨ teller = 0 ∨ 2 < teller ∨ amount = 0 ∨ (999999 < amount ∧ amount ≠ 0xFFFFFF)
            ∨ 4 < segs.length ∨ (∃ g ∈ segs, g.position = 0 ∨ 4 < g.position ∨ g.notes = 0 ∨ 200 < g.notes)
            ∨ 200 < (segs.map SegmentArg.notes).sum) →
          exec (.amend ticket teller amount segs) s = s.refusedWith .range)
      ∧ ∀ who asks named, s.wall.service = true → 1 ≤ ticket → ticket ≤ 9999 → Teller.ofNat? teller = some who →
          optionalAmount amount = some named → optionalSegments segs = some asks → s.ticket ticket = none →
          exec (.amend ticket teller amount segs) s = s.refusedWith .notFound)
  ∧ (∀ (t : Ticket) (d : Dispense) (teller amount : Nat) (segs : List SegmentArg) (who : Teller) (asks : List Ask)
      (named : Option Nat) (s : State),
      s.frameBegun → s.wall.service = true → 1 ≤ t.number → t.number ≤ 9999 → Teller.ofNat? teller = some who →
      optionalAmount amount = some named → optionalSegments segs = some asks → s.holdsDispense t d →
      (d.state = .awaitingSecond ∨ d.state = .queued) →
      let wanted := if asks = [] then d.plan.map fun g => (⟨g.position, g.notes⟩ : Ask) else asks
      let value := (wanted.map fun x => x.notes * s.noteValueAt x.position).sum
      let refused (e : Status) : Prop := exec (.amend t.number teller amount segs) s = s.refusedWith e
      (named = none → asks = [] → refused .range)
      ∧ ((named ≠ none ∨ asks ≠ []) →
          ((∃ x ∈ wanted, (s.slot x.position).state ≠ .inService) → refused .unavailable)
          ∧ ((∀ x ∈ wanted, (s.slot x.position).state = .inService) →
              (value ≠ named.getD d.amount → refused .valueMismatch)
              ∧ (value = named.getD d.amount →
                  (∃ x ∈ wanted, (s.slot x.position).count - ((s.slot x.position).committed - unpickedAt x.position d.plan)
                    < (wanted.map fun y => if y.position = x.position then y.notes else 0).sum) →
                  refused .short))))

/-- (a) AMEND in PICK_HALTED (R15): the checks in their order; taken, the segments with notes picked are kept, each
ending at its picked notes, the new ones follow, and the ticket is again in PICKING without a halt reason, handed to the
picker. (b) AMEND of an ENVELOPE ticket sets the declared amount in every state but VOIDED, with no state change; it
refuses segments and an absent amount with RANGE (R16). (c) AMEND of an INTAKE ticket, and of a DISPENSE ticket in any
state but AWAITING_SECOND, QUEUED and PICK_HALTED, is refused with BAD_STATE (R16); that an INTAKE ticket is so refused
when segments are named too is the model's choice (log entry 31). -/
def Obligations.AmendInOtherStatesAndKinds : Prop :=
  (∀ (t : Ticket) (d : Dispense) (teller amount : Nat) (segs : List SegmentArg) (who : Teller) (asks : List Ask)
      (named : Option Nat) (s : State),
      s.frameBegun → s.wall.service = true → 1 ≤ t.number → t.number ≤ 9999 → Teller.ofNat? teller = some who →
      optionalAmount amount = some named → optionalSegments segs = some asks → s.holdsDispense t d →
      d.state = .pickHalted →
      let kept : List Segment := (d.plan.filter fun g => decide (0 < g.picked)).map fun g => { g with notes := g.picked }
      let fresh : List Segment := asks.map fun x =>
        { position := x.position, notes := x.notes, picked := 0, value := s.noteValueAt x.position }
      exec (.amend t.number teller amount segs) s =
        if ¬ (named = none ∨ named = some d.amount) then s.refusedWith .badState
        else if asks = [] then s.refusedWith .range
        else if 6 < kept.length + fresh.length ∨ 200 < d.goodPicked + planNotes fresh then s.refusedWith .range
        else if fresh.any (fun g => decide ((s.slot g.position).state ≠ .inService)) then s.refusedWith .unavailable
        else if planValue fresh + pickedValue d.plan ≠ d.amount then s.refusedWith .valueMismatch
        else if fresh.any (fun g => decide ((s.slot g.position).count
            - ((s.slot g.position).committed - unpickedAt g.position d.plan) < unpickedAt g.position fresh)) then
          s.refusedWith .short
        else
          let u := (s.ticketEnters
            { t with body := .dispense { d with state := .picking, halt := none, plan := kept ++ fresh } }).takeUp t.number
          u.reform.answeredOk (ticketAnswer u.reform t.number))
  ∧ (∀ (t : Ticket) (e : Envelope) (teller amount : Nat) (segs : List SegmentArg) (who : Teller) (asks : List Ask)
      (named : Option Nat) (s : State),
      s.frameBegun → s.wall.service = true → 1 ≤ t.number → t.number ≤ 9999 → Teller.ofNat? teller = some who →
      optionalAmount amount = some named → optionalSegments segs = some asks → s.holdsEnvelope t e →
      exec (.amend t.number teller amount segs) s =
        if asks ≠ [] then s.refusedWith .range
        else if e.state = .voided then s.refusedWith .badState
        else
          match named with
          | none => s.refusedWith .range
          | some a =>
            State.answeredOk (s.putTicket { t with body := .envelope { e with amount := some a } }).reform
              (beBytes 2 t.number ++ beBytes 1 e.state.code))
  ∧ (∀ (t : Ticket) (teller amount : Nat) (segs : List SegmentArg) (who : Teller) (asks : List Ask) (named : Option Nat)
      (s : State),
      s.frameBegun → s.wall.service = true → 1 ≤ t.number → t.number ≤ 9999 → Teller.ofNat? teller = some who →
      optionalAmount amount = some named → optionalSegments segs = some asks →
      ((∃ k, s.holdsIntake t k)
        ∨ ∃ d, s.holdsDispense t d ∧ d.state ≠ .awaitingSecond ∧ d.state ≠ .queued ∧ d.state ≠ .pickHalted) →
      exec (.amend t.number teller amount segs) s = s.refusedWith .badState)

/-- (a) VOID of a DISPENSE ticket by its state (R25, R26), but for PICKING: VOIDED from AWAITING_SECOND and QUEUED,
which leaves the queue; PURGING with a purge asked from STAGED and, with notes picked, from PICK_HALTED, which is VOIDED
with staging emptied without; recall with close asked in PRESENTED; BAD_STATE in every other state. (b) VOID in PICKING
(R26): with a pick in flight the ticket is PURGING at once and the picker goes on; with none, the picker lets go, a
waiting gate claim is withdrawn, and the ticket is PURGING with a purge asked, or VOIDED with staging emptied when
nothing was picked. (c) VOID of an ENVELOPE ticket is taken in AWAITING_ENVELOPE, and of an INTAKE ticket in
READY_INTAKE; every other state refuses it with BAD_STATE (R27). -/
def Obligations.VoidByKindAndState : Prop :=
  (∀ (t : Ticket) (d : Dispense) (s : State), s.frameBegun → s.wall.service = true → 1 ≤ t.number → t.number ≤ 9999 →
      s.holdsDispense t d →
      let entered (st : DispenseState) : State :=
        s.ticketEnters
          { t with body := .dispense { d with
              state := st, halt := none, deadline := if st = .voided then none else d.deadline } }
      let answered (u : State) (code : Nat) : Prop :=
        exec (.void t.number) s = u.reform.answeredOk (beBytes 2 t.number ++ beBytes 1 code)
      (d.state = .awaitingSecond → answered (entered .voided) 0x0D)
      ∧ (d.state = .queued →
          answered { entered .voided with pickQueue := s.pickQueue.filter (· != t.number) } 0x0D)
      ∧ (d.state = .pickHalted → 0 < d.goodPicked →
          answered { entered .purging with staging := { s.staging with purge := .waiting } } 0x05)
      ∧ (d.state = .pickHalted → d.goodPicked = 0 → answered { entered .voided with staging := .empty } 0x0D)
      ∧ (d.state = .staged → answered { entered .purging with staging := { s.staging with purge := .waiting } } 0x05)
      ∧ (d.state = .presented → d.recalled = false →
          answered
            { s.putTicket { t with body := .dispense { d with recalled := true, deadline := none } } with
              presentations := match s.presentations.get t.lane with
                | some p => s.presentations.set t.lane (some { p with closeAsked := true })
                | none => s.presentations } 0x08)
      ∧ (d.state = .presented → d.recalled = true → answered s 0x08)
      ∧ (d.state = .purging ∨ d.state = .routing ∨ d.state = .retracting ∨ d.state = .disputed ∨ d.state.terminal = true →
          exec (.void t.number) s = s.refusedWith .badState))
  ∧ (∀ (t : Ticket) (d : Dispense) (s : State), s.frameBegun → s.wall.service = true → 1 ≤ t.number → t.number ≤ 9999 →
      s.holdsDispense t d → d.state = .picking → s.picker.ticket = some t.number →
      let entered (st : DispenseState) : State :=
        s.ticketEnters
          { t with body := .dispense { d with
              state := st, halt := none, deadline := if st = .voided then none else d.deadline } }
      exec (.void t.number) s =
        if s.picker.state = .feeding then
          (entered .purging).reform.answeredOk (beBytes 2 t.number ++ beBytes 1 0x05)
        else
          State.answeredOk
            (State.reform
              { (if 0 < d.goodPicked then entered .purging else entered .voided) with
                staging := if 0 < d.goodPicked then { s.staging with purge := .waiting } else .empty,
                picker := { s.picker with state := .idle, ticket := none, position := none, feedStarted := none },
                gate := if s.picker.state = .waitingGate then { s.gate with waitPicker := false } else s.gate })
            (beBytes 2 t.number ++ beBytes 1 (if 0 < d.goodPicked then 0x05 else 0x0D)))
  ∧ (∀ (t : Ticket) (s : State), s.frameBegun → s.wall.service = true → 1 ≤ t.number → t.number ≤ 9999 →
      (∀ e, s.holdsEnvelope t e →
        exec (.void t.number) s =
          if e.state = .awaitingEnvelope then
            (s.ticketEnters { t with body := .envelope { e with state := .voided } }).reform.answeredOk
              (beBytes 2 t.number ++ beBytes 1 0x0D)
          else s.refusedWith .badState)
      ∧ (∀ k, s.holdsIntake t k →
        exec (.void t.number) s =
          if k.state = .readyIntake then
            (s.ticketEnters { t with body := .intake { k with state := .voided } }).reform.answeredOk
              (beBytes 2 t.number ++ beBytes 1 0x0D)
          else s.refusedWith .badState))

/-- SETTLE (R28, R162): taken in a terminal state of the ticket's kind, it frees the entry, takes the number out of the
change set, and counts one settlement unless the ticket is an envelope, which requests PERIODIC when it brings the
settled counter to the periodic count; in any other state it is refused with BAD_STATE. -/
def Obligations.SettleRetiresATerminalTicket : Prop :=
  ∀ (n : Nat) (s : State), s.frameBegun → s.wall.service = true → 1 ≤ n → n ≤ 9999 →
    exec (.settle n) s =
      match s.ticket n with
      | none => s.refusedWith .notFound
      | some t =>
        let freed : State := { s with tickets := s.tickets.filter fun x => x.number != n,
                                      changeSet := s.changeSet.filter (· != n) }
        let raised : State :=
          { freed with countPoint := { s.countPoint with settled := min 250 (s.countPoint.settled + 1) } }
        let counted : State :=
          if s.countPoint.settled < 250 ∧ s.countPoint.settled + 1 = s.params.periodicCount then
            raised.requestCount .periodic .empty
          else raised
        let ended : Bool :=
          match t.body with
          | .dispense d => decide (d.state = .delivered ∨ d.state = .returned ∨ d.state = .voided ∨ d.state = .expired
              ∨ d.state = .resolved)
          | .envelope e => decide (e.state = .envelopeHeld ∨ e.state = .voided)
          | .intake k => decide (k.state = .counted ∨ k.state = .voided)
        if ¬ ended then s.refusedWith .badState
        else
          State.answeredOk
            (State.reform
              (match t.body with
               | .envelope _ => freed
               | .dispense _ => counted
               | .intake _ => counted))
            (beBytes 2 n ++ beBytes 1 t.stateCode)

/-- TICKET_SELECTION (R21): while some queued ticket meets all six conditions, the oldest such ticket leaves the queue,
enters PICKING, owns the empty staging and is taken up by the picker; else nothing changes (model's choice, log entry
7). -/
def Obligations.SelectionTakesTheOldest : Prop :=
  ∀ s : State,
    let wallTakes : Bool :=
      decide (s.staging.owner = none) && decide (s.picker.state = .idle) && !s.alarms.hold && !s.alarms.lockdown
        && decide (s.countPoint.state = .idle)
    let laneTakes (n : Nat) : Bool :=
      (s.ticket n).any fun t => decide ((s.lane t.lane).link = .online) && !s.tickets.any (Ticket.holdsLane t.lane)
    (∀ before n after t d, wallTakes = true → s.pickQueue = before ++ n :: after →
        (∀ m ∈ before, laneTakes m = false) → laneTakes n = true → s.ticket n = some t → s.holdsDispense t d →
        d.state = .queued →
        exec .ticketSelection s =
          .next
            (State.reform
              (State.takeUp
                { s.ticketEnters { t with body := .dispense { d with state := .picking, halt := none } } with
                  pickQueue := s.pickQueue.filter (· != n),
                  staging := { owner := some n, held := 0, value := 0, complete := false, purge := .idle } }
                n)))
    ∧ (wallTakes = false ∨ (∀ n ∈ s.pickQueue, laneTakes n = false) → exec .ticketSelection s = .next s)

/-! ### Cassettes, vaults and tags (chapter 2) -/

/-- (a) CASSETTE_INSERTION in ABSENT: the position enters IDENTIFYING with every count and flag clear, and an identity
read is queued, or taken at once while the line is free (R38, R41); in any other state nothing changes (model's choice,
log entry 7). (b) CASSETTE_REMOVAL in any state but ABSENT (R36, R38, R53, R54), with no count write-back of the
position waiting or in flight: the slot is cleared and ABSENT; from a state with counts its copy stands in the retiring
slot, RELEASED from UNLOCKED and UNRELEASED otherwise, an earlier copy going to the carry; the tamper source is active
after an unreleased removal; and every transfer of the position is cut. A claim that waits for D is answered "not fit" when D
is drawn out: the picker's ticket is halted with REMOVED, and the note goes to the vault or the tray (R60, R112, R114),
before the tamper source acts (model's choice, log entry 30). That the position leaves the release set is read
from R169, which leaves it undecided (DEDUCED, log entry 24). The removal with a count write-back waiting or in flight is
stated in `Obligations.TagWriteEndSetsTheSlotAndPublishes`. -/
def Obligations.InsertionAndRemoval : Prop :=
  (∀ (p : Pos) (s : State),
      ((s.slot p).state ≠ .absent → exec (.cassetteInsertion p) s = .next s)
      ∧ ((s.slot p).state = .absent → s.transfersOf p = [] →
          ∃ t, exec (.cassetteInsertion p) s = .next t
            ∧ t.slot p = { Slot.empty with state := .identifying, committed := s.committedAt p }
            ∧ t.reasons.position = true
            ∧ (s.tagLink.inFlight = none → s.tagLink.queue = [] →
                t.tagLink = { queue := [], inFlight := some ⟨⟨.identityRead, p⟩, []⟩ })
            ∧ (s.tagLink.inFlight ≠ none → t.tagLink = { s.tagLink with queue := s.tagLink.queue ++ [⟨.identityRead, p⟩] })
            ∧ (∀ q, q ≠ p → t.slot q = { s.slot q with committed := s.committedAt q })
            ∧ t = { s with slots := t.slots, reasons := t.reasons, tagLink := t.tagLink, lanes := t.lanes }))
  ∧ (∀ (p : Pos) (s : State), (s.slot p).state ≠ .absent → s.writeBackOf p = false →
      ∃ t, exec (.cassetteRemoval p) s = .next t
        ∧ { t.slot p with committed := 0 } = Slot.empty
        ∧ (∀ q, q ≠ p → t.slot q = { s.slot q with committed := t.committedAt q })
        ∧ t.retiring.get p =
            (if (s.slot p).state.live then
              some { slot := { s.slot p with
                      tagStale := (s.slot p).tagStale || (s.transfersOf p).any fun x => decide (x.kind ≠ .identityRead) },
                     kind := if (s.slot p).state = .unlocked then .released else .unreleased,
                     number := s.countPoint.number, taken := false }
             else s.retiring.get p)
        ∧ t.carries.get p =
            (match (s.slot p).state.live, s.retiring.get p with
             | true, some old => (s.carries.get p).add old
             | _, _ => s.carries.get p)
        ∧ (((s.slot p).state = .inService ∨ (s.slot p).state = .suspended ∨ (s.slot p).state = .releasePending) →
            (t.alarms.sources.cassetteTamper.get p).active = true)
        ∧ t.transfersOf p = []
        ∧ t.countPoint.release.get p = false
        ∧ (p = .d → s.haltsWaiting t .removed
            ∧ s.redecidesWaiting t (s.alarms.lockdown || decide (s.countPoint.state ≠ .idle))))

/-- IDENTITY_READ_END for the read in flight (R39, R42): a read that failed refuses the cassette with its reason and no
identity; a good tag is judged by its denomination, its capacity and balance count, and its gauge references, in that
order, and refused with its identity, or accepted with the fields of R42. The line goes to the next transfer (R38). -/
def Obligations.IdentityReadJudgesTheCassette : Prop :=
  ∀ (p : Pos) (tries : List TagTry) (image : List Byte) (s : State),
    s.tagLink.inFlight = some ⟨⟨.identityRead, p⟩, image⟩ → readOutcome tries ≠ .unfinished →
    ∃ t, exec (.identityReadEnd tries) s = .next t
      ∧ t.tagLink.queue = s.tagLink.queue.tail ∧ t.tagLink.inFlight.map InFlight.transfer = s.tagLink.queue.head?
      ∧ (∀ why, readOutcome tries = .failed why →
          t.slot p = { Slot.empty with state := .refused, refused := some why, committed := s.committedAt p })
      ∧ (∀ bytes, readOutcome tries = .good bytes →
          let k := Identity.ofTag bytes
          let listed : Bool :=
            match Code.ofNat? k.code with
            | some c => decide (s.params.denominations.get c = some k.noteValue)
            | none => false
          let fault : Option RefusedReason :=
            if ¬ listed then some .denomination
            else if k.capacity < 100 ∨ 3000 < k.capacity ∨ k.capacity < tagBalance bytes then some .capacity
            else if k.thickness < 50 ∨ 250 < k.thickness ∨ k.length < 100 ∨ 200 < k.length then some .gaugeReference
            else none
          (∀ why, fault = some why →
            t.slot p = { Slot.empty with
              state := .refused, refused := some why, identity := some k, committed := s.committedAt p })
          ∧ (fault = none →
            (t.alarms.sources.cassetteTamper.get p).active = false
            ∧ t.slot p = { Slot.empty with
                state := .inService, identity := some k, base := tagBalance bytes, count := tagBalance bytes,
                committed := t.committedAt p, low := decide (tagBalance bytes ≤ s.params.lowLevels.get p),
                depleted := if tagBalance bytes = 0 then .zero else .clear, unverified := tagOpenMark bytes,
                markOwed := !tagOpenMark bytes }))

/-- (a) TAG_WRITE_END (R40, R167). A mark write, and a count write-back while the write-back set holds a further
position: in success the new image is the slot's; in failure tag stale is set and the image stays. A count write-back
that succeeds clears tag stale, and its outcome goes to the count point record. The write that takes the line next
writes the image of its position with its own bytes changed and the checksum formed anew (R40, R192). (b) TAG_WRITE_END
of the last count write-back publishes (R167, R168): CLEAN when no write-back has failed, else TAG_WRITE_FAILED. A
position of the release set is UNLOCKED when its own write-back succeeded, and else in the state it had before (R52,
R169). The figures since the last publish restart from what they took since the balance moment, the copies and carries
that the record took are gone, and with a count point pending the next one begins at once (R161). (c) CASSETTE_REMOVAL
with a count write-back of the position waiting or in flight (R38, R167): the write-back counts as failed and the
position leaves the sets (DEDUCED, log entry 24); when it was the last, TAG_WRITE_FAILED is published. -/
def Obligations.TagWriteEndSetsTheSlotAndPublishes : Prop :=
  (∀ (p : Pos) (kind : TransferKind) (tries : List TagTry) (image : List Byte) (ok : Bool) (k : Identity) (s : State),
      s.tagLink.inFlight = some ⟨⟨kind, p⟩, image⟩ → kind ≠ .identityRead → writeOutcome image tries = some ok →
      (s.slot p).identity = some k → (s.slot p).state.live = true →
      (∀ number, kind = .countWriteBack number → ∃ q, q ≠ p ∧ s.countPoint.writeBack.get q = true) →
      ∃ t, exec (.tagWriteEnd tries) s = .next t
        ∧ t.tagLink.queue = s.tagLink.queue.tail ∧ t.tagLink.inFlight.map InFlight.transfer = s.tagLink.queue.head?
        ∧ t.slot p = { s.slot p with
            committed := s.committedAt p,
            identity := some (if ok then { k with image := image } else k),
            tagStale := if ok then (s.slot p).tagStale && decide (kind = .markWrite) else true }
        ∧ (∀ q, q ≠ p → t.slot q = { s.slot q with committed := s.committedAt q })
        ∧ t.countPoint =
            (if kind = .markWrite then s.countPoint
             else { s.countPoint with
               writeBack := s.countPoint.writeBack.set p false,
               written := if ok then s.countPoint.written.set p true else s.countPoint.written,
               failures := if ok then s.countPoint.failures else s.countPoint.failures.set p true })
        ∧ ∀ x rest k', s.tagLink.queue = x :: rest → (t.slot x.position).identity = some k' →
            ∃ new, t.tagLink.inFlight = some ⟨x, new⟩ ∧ writesTag x.kind (t.slot x.position).count k'.image new)
  ∧ (∀ (p : Pos) (number : Nat) (tries : List TagTry) (image : List Byte) (ok : Bool) (k : Identity) (b : Balance) (s : State),
      s.tagLink.inFlight = some ⟨⟨.countWriteBack number, p⟩, image⟩ → writeOutcome image tries = some ok →
      (s.slot p).identity = some k → (s.slot p).state.live = true → s.countPoint.state = .balancing →
      s.countPoint.writeBack = PosSet.single p → s.forming = some b →
      let failures := if ok then s.countPoint.failures else s.countPoint.failures.set p true
      let written := if ok then s.countPoint.written.set p true else s.countPoint.written
      let x := { s.slot p with
        identity := some (if ok then { k with image := image } else k), tagStale := !ok }
      ∃ u, exec (.tagWriteEnd tries) s = .next u
        ∧ s.publishes u (s.slots.set p x) b (if failures = .empty then .clean else .tagWriteFailed) failures written
            s.countPoint.release
        ∧ s.restartsFigures u
        ∧ ∀ q, u.retiring.get q = (s.retiring.get q).filter (fun r => !r.taken)
            ∧ u.carries.get q =
                let c := s.carries.get q
                ⟨⟨c.copies.late, c.copies.late⟩, ⟨c.notes.late, c.notes.late⟩, ⟨c.value.late, c.value.late⟩⟩)
  ∧ (∀ (p : Pos) (s : State), (s.slot p).state ≠ .absent → s.writeBackOf p = true → s.countPoint.state = .balancing →
      ∃ u, exec (.cassetteRemoval p) s = .next u ∧ (u.slot p).state = .absent ∧ u.transfersOf p = []
        ∧ (∀ q, q ≠ p → s.countPoint.writeBack.get q = true →
            u.countPoint.state = .balancing ∧ u.countPoint.writeBack = s.countPoint.writeBack.set p false
            ∧ u.countPoint.failures = s.countPoint.failures.set p true
            ∧ u.countPoint.release = s.countPoint.release.set p false
            ∧ u.countPoint.written = s.countPoint.written.set p false)
        ∧ (∀ b, (∀ q, q ≠ p → s.countPoint.writeBack.get q = false) → s.forming = some b →
            let cut : State :=
              { s with countPoint := { s.countPoint with pendingRelease := s.countPoint.pendingRelease.set p false } }
            cut.publishes u (s.slots.set p Slot.empty) b .tagWriteFailed (s.countPoint.failures.set p true)
              (s.countPoint.written.set p false) (s.countPoint.release.set p false)
            ∧ s.restartsFigures u))

/-- POSITION REINSTATE (R50): refused with RANGE for no position, with BAD_STATE in ABSENT, IDENTIFYING, REFUSED or
RELEASE_PENDING, and with BAD_STATE while uncertain is not reviewed; taken, the window and the miss run are emptied, a
MISSES depletion is decided by the count, uncertain is cleared, and the position is IN_SERVICE. -/
def Obligations.ReinstateReturnsToService : Prop :=
  ∀ (position : Nat) (s : State), s.frameBegun →
    exec (.positionReinstate position) s =
      match Pos.ofNat? position with
      | none => s.refusedWith .range
      | some p =>
        let x := s.slot p
        if x.state = .absent ∨ x.state = .identifying ∨ x.state = .refused ∨ x.state = .releasePending then
          s.refusedWith .badState
        else if x.uncertain ∧ ¬ x.reviewed then s.refusedWith .badState
        else
          State.answeredOk
            (s.putSlot p
              { x with
                state := .inService, window := [], missRun := 0, uncertain := false, reviewed := false,
                depleted := if x.depleted = .misses then (if x.count = 0 then .zero else .clear) else x.depleted }).reform
            []

/-- POSITION RELEASE (R51, R177): the checks in their order; a first approval, or one by the same position, is held for
60 s; the complementary one puts the position in RELEASE_PENDING with its prior state kept and asks the RELEASE count
point, which begins in IDLE, joins the one in QUIESCING, and is the pending one in BALANCING (R161). At D a claim that waits
for the gate is answered "not fit" (R51, R60, R71, R114). -/
def Obligations.ReleaseTakesTwoTellers : Prop :=
  ∀ (position teller : Nat) (s : State), s.frameBegun →
    (s.wall.service = false → exec (.positionRelease position teller) s = s.refusedWith .notInService)
    ∧ (s.wall.service = true → (position = 0 ∨ 4 < position ∨ teller = 0 ∨ 2 < teller) →
        exec (.positionRelease position teller) s = s.refusedWith .range)
    ∧ ∀ p who, s.wall.service = true → Pos.ofNat? position = some p → Teller.ofNat? teller = some who →
        ((s.slot p).state ≠ .inService → (s.slot p).state ≠ .suspended →
          exec (.positionRelease position teller) s = s.refusedWith .badState)
        ∧ ((s.slot p).state = .inService ∨ (s.slot p).state = .suspended →
            (s.tickets.any (Ticket.pickingFrom p) = true ∨ p = .d ∧ s.params.recycling = true ∧ s.anyCollecting = true →
              exec (.positionRelease position teller) s = s.refusedWith .busy)
            ∧ (s.tickets.any (Ticket.pickingFrom p) = false →
                ¬ (p = .d ∧ s.params.recycling = true ∧ s.anyCollecting = true) →
                ((s.slot p).release = none ∨ (s.slot p).release.map Approval.teller = some who →
                  exec (.positionRelease position teller) s =
                    State.answeredOk { s with slots := s.slots.set p { s.slot p with release := some ⟨who, 60⟩ } } [1, 60])
                ∧ (∀ held, (s.slot p).release = some held → held.teller = who.complement →
                  ∃ t, exec (.positionRelease position teller) s = .next t
                    ∧ t.port.held = some ⟨.ok, [2, 0]⟩
                    ∧ t.slot p = { s.slot p with
                        state := .releasePending, prior := some (s.slot p).state, release := none,
                        committed := t.committedAt p }
                    ∧ t.reasons.position = true
                    ∧ (p = .d → s.haltsWaiting t .notReady
                        ∧ s.redecidesWaiting t (s.alarms.lockdown || decide (s.countPoint.state ≠ .idle)))
                    ∧ (s.countPoint.state = .idle →
                        t.countPoint.state = .quiescing ∧ t.countPoint.causes = ⟨false, true, false, false⟩
                          ∧ t.countPoint.release = PosSet.single p)
                    ∧ (s.countPoint.state = .quiescing →
                        t.countPoint = { s.countPoint with
                          causes := s.countPoint.causes.add .release, release := s.countPoint.release.set p true })
                    ∧ (s.countPoint.state = .balancing →
                        t.countPoint = { s.countPoint with
                          pending := true, pendingCauses := s.countPoint.pendingCauses.add .release,
                          pendingRelease := s.countPoint.pendingRelease.set p true }))))

/-- (a) VAULT EMPTIED (R58, R177): RANGE for no vault or no teller position, BAD_STATE for a vault not present, BUSY
while it may be counted into; the first approval is held for 60 s, in the place that log entry 23 gives the held list
(model's choice); the complementary one adds the vault's count to emptied out, empties it, clears unverified, forms its
full source anew and places POSITION. The intake vault's emptied out stops at 65535 by log entry 8 (model's choice). (b)
VAULT_PRESENCE_CHANGE sets the vault's present flag, and the vault's full source is active while it is not present or its
count has reached its limit (R55 to R57). -/
def Obligations.VaultsAreEmptiedAndSeen : Prop :=
  (∀ (vault teller : Nat) (s : State), s.frameBegun → (vault = 0 ∨ 2 < vault ∨ teller = 0 ∨ 2 < teller) →
      exec (.vaultEmptied vault teller) s = s.refusedWith .range)
  ∧ (∀ (teller : Nat) (who : Teller) (v : Vault) (s : State), s.frameBegun → Teller.ofNat? teller = some who →
      (s.vaultPresent v = false → exec (.vaultEmptied v.number teller) s = s.refusedWith .badState)
      ∧ (s.vaultPresent v = true →
          (v = .reject ∧ (s.route ≠ .free ∨ s.staging.purge = .running ∨ s.picker.state = .feeding)
            ∨ v = .intake ∧ s.anyCollecting = true) →
          exec (.vaultEmptied v.number teller) s = s.refusedWith .busy)
      ∧ (s.vaultPresent v = true →
          (v = .reject → s.route = .free ∧ s.staging.purge ≠ .running ∧ s.picker.state ≠ .feeding) →
          (v = .intake → s.anyCollecting = false) →
          ((s.heldApproval (.vault v)).map HeldApproval.teller ≠ some who.complement →
            exec (.vaultEmptied v.number teller) s =
              State.answeredOk
                { s with approvals := putByKey HeldApproval.key ⟨.vault v, who, none, 60⟩ s.approvals } [1, 60])
          ∧ (∀ held, s.heldApproval (.vault v) = some held → held.teller = who.complement → held.delivered = none →
            ∃ t, exec (.vaultEmptied v.number teller) s = .next t ∧ t.port.held = some ⟨.ok, [2, 0]⟩
              ∧ t.heldApproval (.vault v) = none ∧ t.reasons.position = true
              ∧ (v = .reject →
                  t.rejectVault = { s.rejectVault with
                    pickRejects := 0, retracted := 0, sweep := 0, unverified := false,
                    emptied := s.rejectVault.emptied.raise 9999 s.rejectVault.count }
                  ∧ t.intakeVault = s.intakeVault ∧ t.alarms.sources.rejectFull.active = false)
              ∧ (v = .intake →
                  t.intakeVault = { s.intakeVault with
                    entries := .const 0, unverified := false,
                    emptied := ⟨min 65535 (s.intakeVault.emptied.total + s.intakeVault.total),
                      min 65535 (s.intakeVault.emptied.late + s.intakeVault.total)⟩ }
                  ∧ t.intakeVault.total = 0
                  ∧ t.rejectVault = s.rejectVault ∧ t.alarms.sources.intakeFull.active = false))))
  ∧ (∀ (v : Vault) (present : Bool) (s : State), ∃ t, exec (.vaultPresenceChange v present) s = .next t
      ∧ (v = .reject → t.rejectVault = { s.rejectVault with present := present } ∧ t.intakeVault = s.intakeVault)
      ∧ (v = .intake → t.intakeVault = { s.intakeVault with present := present } ∧ t.rejectVault = s.rejectVault)
      ∧ t.alarms.sources.rejectFull.active =
          decide (600 ≤ min 999 (t.rejectVault.pickRejects + t.rejectVault.retracted + t.rejectVault.sweep)
            ∨ t.rejectVault.present = false)
      ∧ t.alarms.sources.intakeFull.active =
          decide (2500 ≤ t.intakeVault.entries.toList.sum ∨ t.intakeVault.present = false))

/-! ### Dispensing (chapter 3) -/

/-- (a) The note gauge's judgment, in its order (R72): over 2.6 times the thickness reference MULTIPLE; from 1.6 times
DOUBLE; from 0.75 to 1.25 times with a length within 4 mm SINGLE; else SKEW. (b) A pick result at its position (R44,
R46, R49): a pick in flight whose cassette is still in the slot. The notes removed lower the count, and go to overrun
when it is at 0; a pick that would raise picked out past 65535 first lowers picked out and stored in by the smaller of the two
(R34); uncertain is set by a MULTIPLE or an overrun; the outcome joins the quality window, which may suspend
the position; a MISS raises the miss run; and a mark that is owed is written (R48). (c) With the cassette drawn out since
the feed command the result counts to the retiring copy, or to written off once a publish has taken that copy, and the
slot stays as it is (R44, R170). (d) The notes rejected are counted into the reject vault's pick rejects, and its full
source with them (R55, R56); the staging gate turns a SINGLE into staging and a reject onto the reject path (R72), and that
a MISS leaves it as it was is model's choice (log entry 26). (e) A result at D after which D takes no stores answers a store
claim that waits "not fit": its note goes to the vault or the tray (R60, R112, R114), a LOCKDOWN by the reject vault full
source coming first (model's choice, log entry 30). -/
def Obligations.PickResultAtThePosition : Prop :=
  (∀ (refs : GaugeRefs) (thickness length : Nat),
      (26 * refs.thickness < 10 * thickness → judgeNote refs thickness length = .multiple)
      ∧ (16 * refs.thickness ≤ 10 * thickness → 10 * thickness ≤ 26 * refs.thickness →
          judgeNote refs thickness length = .double)
      ∧ (10 * thickness < 16 * refs.thickness →
          judgeNote refs thickness length =
            if 75 * refs.thickness ≤ 100 * thickness ∧ 100 * thickness ≤ 125 * refs.thickness
                ∧ refs.length ≤ length + 4 ∧ length ≤ refs.length + 4 then .single
            else .skew))
  ∧ (∀ (i : Instr) (r : GaugeResult) (n : Nat) (p : Pos) (s : State),
      (i = .pickMissTimeout ∧ r = .miss
        ∨ ∃ thickness length, i = .gaugeResult thickness length ∧ r = judgeNote s.picker.refs thickness length) →
      s.picker.state = .feeding → s.picker.ticket = some n → s.picker.position = some p → s.picker.fedFrom = .slot →
      let x := s.slot p
      let removed := match r with
        | .single => 1
        | .skew => 1
        | .double => 2
        | .multiple => 2
        | .miss => 0
      let window := (decide (r ≠ .single) :: x.window).take 8
      let count := x.count - removed
      let missRun := if r = .miss then min 3 (x.missRun + 1) else 0
      let emptied : Depleted := if 0 < x.count ∧ count = 0 then x.depleted.atZero else x.depleted
      let lowered :=
        if count < x.count ∧ 65535 < x.pickedOut + (x.count - count) then min x.pickedOut x.storedIn else 0
      ∃ t, exec i s = .next t
        ∧ t.slot p =
          { x with
            count := count, pickedOut := x.pickedOut - lowered + (x.count - count), storedIn := x.storedIn - lowered,
            totalPickedOut := if count = x.count then x.totalPickedOut
              else min 65535 (x.totalPickedOut + (x.count - count)),
            overrun := if x.count < removed then min 255 (x.overrun + (removed - x.count)) else x.overrun,
            uncertain := x.uncertain || decide (r = .multiple ∨ x.count < removed),
            reviewed := x.reviewed && !decide (r = .multiple ∨ x.count < removed),
            window := window,
            state := if x.state = .inService ∧ s.params.suspendThreshold ≤ windowFails window then .suspended else x.state,
            missRun := missRun,
            depleted := if r = .miss ∧ 3 ≤ x.missRun + 1 then .misses else emptied,
            low := x.state.live && decide (count ≤ s.params.lowLevels.get p),
            markOwed := false, committed := t.committedAt p }
        ∧ (∀ q, q ≠ p → t.slot q = { s.slot q with committed := t.committedAt q })
        ∧ (x.markOwed = true → ∃ y ∈ t.transfersOf p, y.kind = .markWrite)
        ∧ (x.markOwed = false → t.tagLink = s.tagLink))
  ∧ (∀ (i : Instr) (r : GaugeResult) (n : Nat) (p : Pos) (s : State),
      (i = .pickMissTimeout ∧ r = .miss
        ∨ ∃ thickness length, i = .gaugeResult thickness length ∧ r = judgeNote s.picker.refs thickness length) →
      s.picker.state = .feeding → s.picker.ticket = some n → s.picker.position = some p →
      let removed := match r with
        | .single => 1
        | .skew => 1
        | .double => 2
        | .multiple => 2
        | .miss => 0
      ∃ t, exec i s = .next t
        ∧ (s.picker.fedFrom = .copy → t.slot p = { s.slot p with committed := t.committedAt p }
            ∧ t.countPoint = s.countPoint
            ∧ ∀ c, s.retiring.get p = some c →
                let count := c.slot.count - removed
                let lowered :=
                  if count < c.slot.count ∧ 65535 < c.slot.pickedOut + (c.slot.count - count) then
                    min c.slot.pickedOut c.slot.storedIn
                  else 0
                t.retiring.get p = some { c with slot := { c.slot with
                  count := count, pickedOut := c.slot.pickedOut - lowered + (c.slot.count - count),
                  storedIn := c.slot.storedIn - lowered,
                  totalPickedOut := if count = c.slot.count then c.slot.totalPickedOut
                    else min 65535 (c.slot.totalPickedOut + (c.slot.count - count)),
                  overrun := if c.slot.count < removed then min 255 (c.slot.overrun + (removed - c.slot.count))
                    else c.slot.overrun } })
        ∧ (s.picker.fedFrom = .gone → t.slot p = { s.slot p with committed := t.committedAt p }
            ∧ t.retiring = s.retiring
            ∧ t.countPoint.writtenOff.total = min 65535 (s.countPoint.writtenOff.total + removed)))
  ∧ (∀ (i : Instr) (r : GaugeResult) (n : Nat) (p : Pos) (s : State),
      (i = .pickMissTimeout ∧ r = .miss
        ∨ ∃ thickness length, i = .gaugeResult thickness length ∧ r = judgeNote s.picker.refs thickness length) →
      s.picker.state = .feeding → s.picker.ticket = some n → s.picker.position = some p →
      let rejected := match r with
        | .single => 0
        | .skew => 1
        | .double => 2
        | .multiple => 2
        | .miss => 0
      ∃ t, exec i s = .next t
        ∧ t.sgate = (if r = .single then .intoStaging else if r = .miss then s.sgate else .toReject)
        ∧ t.rejectVault =
            (if rejected = 0 then s.rejectVault
             else { s.rejectVault with
               pickRejects := min 999 (s.rejectVault.pickRejects + rejected),
               sincePick := ⟨min 999 (s.rejectVault.sincePick.total + rejected),
                 min 999 (s.rejectVault.sincePick.late + rejected)⟩ })
        ∧ (rejected ≠ 0 → t.alarms.sources.rejectFull.active =
            decide (600 ≤ min 999 (t.rejectVault.pickRejects + t.rejectVault.retracted + t.rejectVault.sweep)
              ∨ t.rejectVault.present = false)))
  ∧ (∀ (i : Instr) (n : Nat) (s : State),
      (i = .pickMissTimeout ∨ ∃ thickness length, i = .gaugeResult thickness length) →
      s.picker.state = .feeding → s.picker.ticket = some n → s.picker.position = some .d →
      ∃ t, exec i s = .next t
        ∧ (¬ t.takesStores → s.redecidesWaiting t (t.alarms.lockdown || decide (s.countPoint.state ≠ .idle))))

/-- (a) A pick result at its ticket in PICKING (R3, R11, R73, R75, R76): a SINGLE raises good picked, the current
segment and staging and may complete the bundle; a reject raises reject picks and may halt the ticket with reason
REJECTS. Else the picker goes on from the records as the result leaves them: under LOCKDOWN or a count point it is
PAUSED with the ticket PICKING (R68); if not, the segment check halts the ticket with its first reason (R69, R70), or
the next pick is fed, at D once the gate is granted, which a store claim that waited is first (R59, R60, R71, R74). (b)
A pick result at a ticket voided meanwhile, in PURGING (R26, R73, R77): it counts as in PICKING, the picker lets the
ticket go, and a purge is asked, or with no note in staging the ticket is VOIDED and staging is empty. -/
def Obligations.PickResultAtTheTicket : Prop :=
  (∀ (i : Instr) (r : GaugeResult) (t : Ticket) (d : Dispense) (p : Pos) (s : State),
      (i = .pickMissTimeout ∧ r = .miss
        ∨ ∃ thickness length, i = .gaugeResult thickness length ∧ r = judgeNote s.picker.refs thickness length) →
      s.picker.state = .feeding → s.picker.ticket = some t.number → s.picker.position = some p →
      s.gate.waitPicker = false → s.holdsDispense t d → d.state = .picking →
      let rejects := min 999 (d.rejectPicks + r.rejected)
      ∃ u e, exec i s = .next u ∧ u.dispense t.number = some e
        ∧ e.goodPicked = (if r = .single then d.goodPicked + 1 else d.goodPicked)
        ∧ e.plan = (if r = .single then pickOne d.plan else d.plan)
        ∧ e.rejectPicks = (if r.rejected = 0 then d.rejectPicks else rejects)
        ∧ u.staging.owner = s.staging.owner
        ∧ u.staging.held = (if r = .single then s.staging.held + 1 else s.staging.held)
        ∧ u.staging.value = (if r = .single then s.staging.value + s.picker.refs.value else s.staging.value)
        ∧ (e.goodPicked = planNotes e.plan →
            e.state = .staged ∧ u.staging.complete = true ∧ u.picker.state = .idle ∧ u.picker.ticket = none)
        ∧ (e.goodPicked ≠ planNotes e.plan → 0 < r.rejected → s.params.maxRejects < rejects →
            e.state = .pickHalted ∧ e.halt = some .rejects ∧ u.picker.state = .idle ∧ u.picker.ticket = none)
        ∧ (e.goodPicked ≠ planNotes e.plan → ¬ (0 < r.rejected ∧ s.params.maxRejects < rejects) →
            (e.state = .picking ∨ e.state = .pickHalted ∧ e.halt.isSome = true)
            ∧ (u.alarms.lockdown = true ∨ u.countPoint.state ≠ .idle →
                e.state = .picking ∧ u.picker.state = .paused ∧ u.picker.ticket = some t.number
                ∧ u.picker.position = none)
            ∧ ∀ g, u.alarms.lockdown = false → u.countPoint.state = .idle → currentSegment e.plan = some g →
                let x := u.slot g.position
                let why : Option HaltReason :=
                  if u.rejectVault.full then some .rejectFull
                  else
                    match x.state with
                    | .absent => some .removed
                    | .suspended => some .suspended
                    | .identifying | .refused | .releasePending | .unlocked => some .notReady
                    | .inService =>
                      if x.identity.map Identity.noteValue ≠ some g.value then some .notReady
                      else if x.depleted ≠ .clear then some .depleted
                      else none
                let fed (k : Identity) : Picker :=
                  { state := .feeding, ticket := some t.number, position := some g.position,
                    refs := ⟨k.thickness, k.length, k.noteValue⟩, feedStarted := some s.clock, fedFrom := .slot }
                let held : Prop :=
                  if p = .d then s.gate.waitDeposit = true ∧ u.storeFit = true else s.gate.granted ≠ none
                (∀ c, why = some c →
                  e.state = .pickHalted ∧ e.halt = some c ∧ u.picker.state = .idle ∧ u.picker.ticket = none)
                ∧ (why = none → e.state = .picking
                    ∧ (g.position ≠ .d → ∀ k, x.identity = some k → u.picker = fed k)
                    ∧ (g.position = .d → ¬ held → u.gate.granted = some .picker ∧ u.gate.waitPicker = false
                        ∧ ∀ k, x.identity = some k → u.picker = fed k)
                    ∧ (g.position = .d → held → u.picker.state = .waitingGate ∧ u.picker.ticket = some t.number
                        ∧ u.gate.waitPicker = true
                        ∧ u.gate.granted = (if p = .d then some .deposit else s.gate.granted)))))
  ∧ (∀ (i : Instr) (r : GaugeResult) (t : Ticket) (d : Dispense) (p : Pos) (s : State),
      (i = .pickMissTimeout ∧ r = .miss
        ∨ ∃ thickness length, i = .gaugeResult thickness length ∧ r = judgeNote s.picker.refs thickness length) →
      s.picker.state = .feeding → s.picker.ticket = some t.number → s.picker.position = some p →
      s.gate.waitPicker = false → s.holdsDispense t d → d.state = .purging →
      let held := if r = .single then s.staging.held + 1 else s.staging.held
      let counted : Dispense := { d with
        goodPicked := if r = .single then d.goodPicked + 1 else d.goodPicked,
        plan := if r = .single then pickOne d.plan else d.plan,
        rejectPicks := if r.rejected = 0 then d.rejectPicks else min 999 (d.rejectPicks + r.rejected) }
      ∃ u, exec i s = .next u ∧ u.picker.state = .idle ∧ u.picker.ticket = none
        ∧ (0 < held → u.dispense t.number = some counted ∧ u.staging.purge = .waiting ∧ u.staging.held = held
            ∧ u.staging.owner = s.staging.owner)
        ∧ (held = 0 → u.dispense t.number = some { counted with state := .voided, halt := none, deadline := none }
            ∧ u.staging = Staging.empty))

/-- PICKER_RESUME (R68, R69, R71): with no pause condition left the segment check is made in its order; the first
condition that holds halts the ticket with its reason, and else the pick is started: at A to C by the feed command with
the gauge references copied, at D by a claim on the gate, which is granted while the gate is FREE. -/
def Obligations.PickerResumesBySegmentCheck : Prop :=
  ∀ (t : Ticket) (d : Dispense) (g : Segment) (s : State), s.picker.state = .paused → s.picker.ticket = some t.number →
    s.alarms.lockdown = false → s.countPoint.state = .idle → s.holdsDispense t d → d.state = .picking →
    currentSegment d.plan = some g →
    let x := s.slot g.position
    let why : Option HaltReason :=
      if s.rejectVault.full then some .rejectFull
      else
        match x.state with
        | .absent => some .removed
        | .suspended => some .suspended
        | .identifying | .refused | .releasePending | .unlocked => some .notReady
        | .inService =>
          if x.identity.map Identity.noteValue ≠ some g.value then some .notReady
          else if x.depleted ≠ .clear then some .depleted
          else none
    (∀ r, why = some r →
      exec .pickerResume s =
        .next (State.reform
          { s.ticketEnters { t with body := .dispense { d with state := .pickHalted, halt := some r } } with
            picker := { s.picker with state := .idle, ticket := none, position := none, feedStarted := none } }))
    ∧ (∀ k, why = none → x.identity = some k →
        let fed : Picker :=
          { state := .feeding, ticket := some t.number, position := some g.position,
            refs := ⟨k.thickness, k.length, k.noteValue⟩, feedStarted := some s.clock, fedFrom := .slot }
        (g.position ≠ .d → exec .pickerResume s = .next (State.reform { s with picker := fed }))
        ∧ (g.position = .d → s.gate.granted = none →
            exec .pickerResume s =
              .next (State.reform
                { s with picker := fed,
                         gate := { s.gate with granted := some .picker, last := some .picker, waitPicker := false } }))
        ∧ (g.position = .d → s.gate.granted ≠ none →
            ∃ u, exec .pickerResume s = .next u ∧ u.picker.state = .waitingGate ∧ u.picker.ticket = some t.number
              ∧ u.gate = { s.gate with waitPicker := true } ∧ u.tickets = s.tickets))

/-- (a) PURGE_BEGIN: a waiting purge runs once its notes fit the room less the reserved room, no count point quiesces or
balances, and no OWED retract that fits comes before it (R79); else nothing changes (model's choice, log entry 7). (b)
PURGE_COMPLETION (R79): the retracted part rises by the notes held and the sweep part by what was counted beyond them;
the ticket in PURGING is VOIDED with retracted the notes held; staging is empty. -/
def Obligations.PurgeRuns : Prop :=
  (∀ s : State,
      let fits (notes : Nat) : Prop := notes + s.reservedRoom ≤ s.rejectVault.room
      let oldest := s.retracts.find? fun e => decide (e.stage = .owed)
      (s.staging.purge = .waiting → fits s.staging.held → s.countPoint.state = .idle →
        (∀ e, oldest = some e → ¬ fits e.expected) →
        exec .purgeBegin s = .next { s with staging := { s.staging with purge := .running } })
      ∧ (s.staging.purge ≠ .waiting ∨ ¬ fits s.staging.held ∨ s.countPoint.state ≠ .idle
          ∨ (∃ e, oldest = some e ∧ fits e.expected) → exec .purgeBegin s = .next s))
  ∧ (∀ (count : Nat) (t : Ticket) (d : Dispense) (s : State), s.staging.purge = .running →
      s.staging.owner = some t.number → s.holdsDispense t d → d.state = .purging →
      ∃ u, exec (.purgeCompletion count) s = .next u ∧ u.staging = Staging.empty
        ∧ u.rejectVault.retracted = min 999 (s.rejectVault.retracted + s.staging.held)
        ∧ u.rejectVault.sweep = min 999 (s.rejectVault.sweep + (count - s.staging.held))
        ∧ u.rejectVault.pickRejects = s.rejectVault.pickRejects
        ∧ u.dispense t.number = some { d with state := .voided, halt := none, deadline := none, retracted := s.staging.held })

/-- (a) RETRACT_PROMOTION (R65): the oldest OWED entry is CLAIMED when its expected notes fit the room less the reserved
room, and a TICKET entry takes its PRESENTED ticket to RETRACTING without a deadline; when it does not fit, none is
promoted. (b) RETRACT_GRANT (R80, R84): with the route FREE and no sweep that may begin, the oldest CLAIMED entry leaves
the list and the route is RETRACTING with its lane, holder, kind and expected notes; else nothing changes (model's
choice, log entry 7). -/
def Obligations.RetractIsPromotedAndGranted : Prop :=
  (∀ (before after : List Retract) (e : Retract) (s : State), s.retracts = before ++ e :: after →
      (∀ x ∈ before, x.stage = .claimed) → e.stage = .owed →
      (s.rejectVault.room < e.expected + s.reservedRoom → exec .retractPromotion s = .next s)
      ∧ (e.expected + s.reservedRoom ≤ s.rejectVault.room →
          let u : State := { s with retracts := before ++ { e with stage := .claimed } :: after }
          (e.kind ≠ .ticket → exec .retractPromotion s = .next u.reform)
          ∧ ∀ t d, e.kind = .ticket → e.holder = .ticket t.number → s.holdsDispense t d → d.state = .presented →
              exec .retractPromotion s =
                .next (u.ticketEnters { t with body := .dispense { d with
                  state := .retracting, halt := none, deadline := none } }).reform))
  ∧ (∀ (before after : List Retract) (e : Retract) (s : State), s.retracts = before ++ e :: after →
      (∀ x ∈ before, x.stage = .owed) → e.stage = .claimed →
      exec .retractGrant s =
        if s.route = .free ∧ s.sweepMayBegin = false then
          .next (State.reform { s with retracts := before ++ after, route := .retracting e.lane e.holder e.kind e.expected })
        else .next s)

/-- RETRACT_COMPLETION (R84): the drawer holder and the presentation record go and the route is FREE. A TICKET retract
returns its ticket with the smaller of the count and the presented count, the vault's retracted part rising by that and
its sweep part by the rest; a DISPUTED one hands the count to its dispute entry and a SWEEP one to no ticket, the sweep
part rising by it. -/
def Obligations.RetractCompletes : Prop :=
  ∀ (count expected : Nat) (l : Lane) (holder : Holder) (kind : RetractKind) (s : State),
    s.route = .retracting l holder kind expected →
    ∃ u, exec (.retractCompletion count) s = .next u ∧ u.route = .free ∧ (u.lane l).holder = none
      ∧ u.presentations.get l = none
      ∧ (∀ t d, kind = .ticket → holder = .ticket t.number → s.holdsDispense t d →
          d.state = .retracting → d.retracted = 0 →
          u.dispense t.number = some { d with
              state := .returned, halt := none, deadline := none, retracted := min count d.presented,
              delivered := d.presented - min count d.presented }
          ∧ u.rejectVault.retracted = min 999 (s.rejectVault.retracted + min count d.presented)
          ∧ u.rejectVault.sweep = min 999 (s.rejectVault.sweep + (count - min count d.presented)))
      ∧ (kind = .sweep → u.rejectVault.retracted = s.rejectVault.retracted
          ∧ u.rejectVault.sweep = min 999 (s.rejectVault.sweep + count) ∧ u.disputes = s.disputes)
      ∧ (∀ n, kind = .disputed → holder = .ticket n → u.rejectVault.retracted = s.rejectVault.retracted
          ∧ u.rejectVault.sweep = min 999 (s.rejectVault.sweep + count)
          ∧ u.disputes = s.disputes.map fun (e : Dispute) =>
              if e.ticket = n then { e with sweptBack := some (min 999 count) } else e)

/-- (a) DELIVERY_GRANT (R80 to R82): the STAGED ticket is ROUTING and its bundle moves from staging to the route when,
at that moment, the route is FREE with no sweep or CLAIMED retract before it and every condition of R81 holds; else
nothing changes (model's choice, log entry 7). (b) DELIVERY_ARRIVAL (R82, R85, R89): the drawer's holder is the ticket,
the route is FREE, and the ticket is PRESENTED with presented equal to good picked. Outside LOCKDOWN the presentation
starts undecided; in LOCKDOWN it is decided at once, with close asked, and a retract of kind TICKET is asked of a lane
that has none. (c) With a lost-lane expiry kept for the ROUTING ticket the claim is made at the arrival (R133, R135): the
ticket goes through PRESENTED to DISPUTED with unresolved its presented count and no deadline, a dispute entry is made,
the lost decision is none with its timer gone, and the presentation is discarded while the holder stays the ticket. That
the retract of R89 is asked before that claim is DEDUCED (log entry 14). -/
def Obligations.DeliveryIsGrantedAndArrives : Prop :=
  (∀ (t : Ticket) (d : Dispense) (s : State), s.staging.owner = some t.number → s.holdsDispense t d → d.state = .staged →
      let r := s.lane t.lane
      let granted : Prop :=
        s.route = .free ∧ s.sweepMayBegin = false ∧ (∀ e ∈ s.retracts, e.stage = .owed) ∧ s.staging.complete = true
          ∧ r.link = .online ∧ r.holder = none ∧ (∀ e ∈ s.retracts, e.lane ≠ t.lane) ∧ r.repDrawer = some .locked
          ∧ r.repNotes = some false ∧ r.repFault = some false ∧ s.alarms.lockdown = false ∧ s.countPoint.state = .idle
      (granted →
        exec .deliveryGrant s =
          .next (State.reform
            { s.ticketEnters { t with body := .dispense { d with state := .routing, halt := none } } with
              route := .delivering t.lane t.number s.staging.held s.staging.value, staging := .empty }))
      ∧ (¬ granted → exec .deliveryGrant s = .next s))
  ∧ (∀ (t : Ticket) (d : Dispense) (notes value : Nat) (s : State), s.route = .delivering t.lane t.number notes value →
      s.holdsDispense t d → d.state = .routing → (s.lane t.lane).lost ≠ .owedExpired →
      (∀ e ∈ s.retracts, e.lane ≠ t.lane) →
      ∃ u, exec .deliveryArrival s = .next u ∧ u.route = .free ∧ (u.lane t.lane).holder = some (.ticket t.number)
        ∧ u.dispense t.number = some { d with state := .presented, halt := none, presented := d.goodPicked }
        ∧ u.presentations.get t.lane =
            some { ticket := t.number, openedSeen := false, closeAsked := s.alarms.lockdown, decided := s.alarms.lockdown }
        ∧ u.retracts =
            (if s.alarms.lockdown then
              s.retracts ++ [{ lane := t.lane, holder := .ticket t.number, kind := .ticket, expected := d.goodPicked,
                               stage := .owed }]
             else s.retracts))
  ∧ (∀ (t : Ticket) (d : Dispense) (notes value : Nat) (s : State), s.route = .delivering t.lane t.number notes value →
      s.holdsDispense t d → d.state = .routing → (s.lane t.lane).lost = .owedExpired →
      (∀ e ∈ s.retracts, e.lane ≠ t.lane) →
      ∃ u, exec .deliveryArrival s = .next u ∧ u.route = .free ∧ (u.lane t.lane).holder = some (.ticket t.number)
        ∧ u.dispense t.number = some { d with
            state := .disputed, halt := none, deadline := none, presented := d.goodPicked, unresolved := d.goodPicked }
        ∧ u.disputes = putByKey Dispute.key ⟨t.number, t.lane, none⟩ s.disputes
        ∧ (u.lane t.lane).lost = .idle ∧ (u.lane t.lane).lostTimer = none ∧ u.presentations.get t.lane = none
        ∧ u.retracts =
            (if s.alarms.lockdown then
              s.retracts ++ [{ lane := t.lane, holder := .ticket t.number, kind := .ticket, expected := d.goodPicked,
                               stage := .owed }]
             else s.retracts))

/-- (a) SWEEP_BEGIN: with the sweep pending and the starting mark set, the route FREE, staging empty and room for 200
notes, the pending mark is cleared and the route is SWEEPING (R91); else nothing changes (model's choice, log entry 7).
(b) SWEEP_COMPLETION (R91, R92, R160): the count is added to the sweep part, the route is FREE, the sweep done mark is
set, and the START count point is asked. Each lane ONLINE is decided as at a join (R92): a drawer with no holder whose
report shows notes is held for a sweep and a SWEEP retract of 200 notes is asked; one of a DISPUTED ticket is drawn back
by a DISPUTED retract when its report shows notes, and its holder is cleared when it shows none and no retract of the
lane is under way; any other stays as it is. -/
def Obligations.TransportSweepRuns : Prop :=
  (∀ s : State,
      exec .sweepBegin s =
        if s.sweepPending ∧ s.wall.starting ∧ s.route = .free ∧ s.staging.owner = none
            ∧ 200 + s.reservedRoom ≤ s.rejectVault.room then
          .next (State.reform { s with sweepPending := false, route := .sweeping })
        else .next s)
  ∧ (∀ (count : Nat) (s : State), s.route = .sweeping →
      ∃ u, exec (.sweepCompletion count) s = .next u ∧ u.route = .free ∧ u.sweepDone = true
        ∧ u.rejectVault.sweep = min 999 (s.rejectVault.sweep + count)
        ∧ u.rejectVault.retracted = s.rejectVault.retracted ∧ u.rejectVault.pickRejects = s.rejectVault.pickRejects
        ∧ (s.countPoint.state = .idle → u.countPoint.state = .quiescing ∧ u.countPoint.causes = ⟨false, false, false, true⟩)
        ∧ (s.countPoint.state = .quiescing → u.countPoint.causes = s.countPoint.causes.add .start)
        ∧ (s.countPoint.state = .balancing →
            u.countPoint.pending = true ∧ u.countPoint.pendingCauses = s.countPoint.pendingCauses.add .start)
        ∧ (∀ e ∈ s.retracts, e ∈ u.retracts)
        ∧ (∀ l, (s.lane l).link = .online → (s.lane l).holder = none → (s.lane l).repNotes = some true →
            (u.lane l).holder = some .sweep
            ∧ ((∀ e ∈ s.retracts, e.lane ≠ l) →
                { lane := l, holder := .sweep, kind := .sweep, expected := 200, stage := .owed } ∈ u.retracts))
        ∧ (∀ l n d, (s.lane l).link = .online → (s.lane l).holder = some (.ticket n) → s.dispense n = some d →
            d.state = .disputed →
            ((s.lane l).repNotes = some true → (u.lane l).holder = some (.ticket n)
              ∧ ((∀ e ∈ s.retracts, e.lane ≠ l) →
                  { lane := l, holder := .ticket n, kind := .disputed, expected := d.presented, stage := .owed } ∈ u.retracts))
            ∧ ((s.lane l).repNotes = some false → (∀ e ∈ s.retracts, e.lane ≠ l) → (u.lane l).holder = none))
        ∧ (∀ l, ((s.lane l).link ≠ .online ∨ (s.lane l).holder = some .sweep
              ∨ (s.lane l).holder = none ∧ (s.lane l).repNotes ≠ some true
              ∨ ∃ n d, (s.lane l).holder = some (.ticket n) ∧ s.dispense n = some d ∧ d.state ≠ .disputed) →
            (u.lane l).holder = (s.lane l).holder))

/-! ### Deposits and envelope capture (chapter 4) -/

/-- (a) An insertion is refused by the first of the checks of R100 that holds, in their order: SETUP, LOCKDOWN, an
unverified bin, a full bin, and with no waiting ticket auto-envelope off or a full ticket table. A refusal makes the
handling RETURNING with its cause and places ENVELOPE_REFUSED; no ticket changes. (b) An accepted insertion begins the
capture of the waiting ENVELOPE ticket with the oldest open stamp, which enters CAPTURING with the handling (R23, R100).
-/
def Obligations.InsertionIsDecidedInOrder : Prop :=
  (∀ (l : Lane) (s : State), (s.handlings.get l).state = .idle →
      let r := s.lane l
      let waits := s.tickets.any (Ticket.awaitsEnvelope l)
      let h := s.handlings.get l
      let refused (why : RefusalCause) : State :=
        { s with
          handlings := s.handlings.set l
            { h with state := .returning, lastRefusal := some why, refusals := min 255 (h.refusals + 1) },
          reasons := s.reasons.add .envelopeRefused }
      (s.wall.service = false → s.insertEvent l = refused .notInService)
      ∧ (s.wall.service = true → s.alarms.lockdown = true → s.insertEvent l = refused .lockdown)
      ∧ (s.wall.service = true → s.alarms.lockdown = false →
          (r.binVerified = false → s.insertEvent l = refused .binUnverified)
          ∧ (r.binVerified = true → 120 ≤ r.binCount → s.insertEvent l = refused .binFull)
          ∧ (r.binVerified = true → r.binCount < 120 → waits = false →
              (s.params.autoEnvelope = false → s.insertEvent l = refused .noTicket)
              ∧ (s.params.autoEnvelope = true → 32 ≤ s.tickets.length → s.insertEvent l = refused .tableFull))))
  ∧ (∀ (l : Lane) (t : Ticket) (e : Envelope) (s : State), (s.handlings.get l).state = .idle → s.wall.service = true →
      s.alarms.lockdown = false → (s.lane l).binVerified = true → (s.lane l).binCount < 120 → s.holdsEnvelope t e →
      e.state = .awaitingEnvelope → t.lane = l →
      (∀ u ∈ s.tickets, u ≠ t → Ticket.awaitsEnvelope l u = true → t.openStamp < u.openStamp) →
      s.insertEvent l =
        { s.ticketEnters { t with body := .envelope { e with state := .capturing } } with
          handlings := s.handlings.set l
            { s.handlings.get l with state := .capturing, ticket := some t.number, jam := none } })

/-- CLEAR JAM (R106): refused with NOT_IN_SERVICE, RANGE, NOT_FOUND, RANGE for the outcome, or BAD_STATE in that order;
CAPTURED raises the bin count and holds the envelope under it, NOT_CAPTURED voids the ticket; the lane's handling is
IDLE. -/
def Obligations.ClearJamEndsTheJam : Prop :=
  ∀ (n outcome : Nat) (s : State), s.frameBegun →
    (s.wall.service = false → exec (.clearJam n outcome) s = s.refusedWith .notInService)
    ∧ (s.wall.service = true → (n = 0 ∨ 9999 < n) → exec (.clearJam n outcome) s = s.refusedWith .range)
    ∧ (s.wall.service = true → 1 ≤ n → n ≤ 9999 →
        (s.ticket n = none → exec (.clearJam n outcome) s = s.refusedWith .notFound)
        ∧ (∀ t, s.ticket n = some t → outcome ≠ 1 → outcome ≠ 2 →
            exec (.clearJam n outcome) s = s.refusedWith .range)
        ∧ (∀ t, s.ticket n = some t → (outcome = 1 ∨ outcome = 2) →
            (∀ e, t.body = .envelope e → e.state ≠ .jammed) →
            exec (.clearJam n outcome) s = s.refusedWith .badState)
        ∧ ∀ t e, s.ticket n = some t → t.body = .envelope e → e.state = .jammed →
            let l := t.lane
            let count := (s.lane l).binCount + 1
            (outcome = 1 → ∃ u, exec (.clearJam n outcome) s = .next u
                ∧ u.port.held = some ⟨.ok, beBytes 2 n ++ [0x13]⟩ ∧ (u.lane l).binCount = count
                ∧ u.envelope n = some { e with state := .envelopeHeld, sequence := some count }
                ∧ (u.handlings.get l).state = .idle)
            ∧ (outcome = 2 → ∃ u, exec (.clearJam n outcome) s = .next u
                ∧ u.port.held = some ⟨.ok, beBytes 2 n ++ [0x0D]⟩ ∧ (u.lane l).binCount = (s.lane l).binCount
                ∧ u.envelope n = some { e with state := .voided } ∧ (u.handlings.get l).state = .idle))

/-- (a) BIN EMPTIED (R108, R177): RANGE for a lane that is 0 or above the lane count and for no teller position; BAD_STATE
while an envelope ticket of the lane points into the bin; the first approval is held for 60 s, and the complementary one
empties and verifies the bin, with LANE placed. The list keeps the order of its entries (model's choice, log entry 23).
(b) BIN SET (R109): RANGE for a lane that is 0 or above the lane count, or a count above 120; BAD_STATE for a verified
bin; taken, the count is the one named and the bin is VERIFIED, LANE is placed and the desired values are formed anew. -/
def Obligations.BinsAreEmptiedAndSet : Prop :=
  (∀ (lane teller : Nat) (s : State), s.frameBegun →
      (lane = 0 ∨ s.params.laneCount < lane ∨ teller = 0 ∨ 2 < teller) →
      exec (.binEmptied lane teller) s = s.refusedWith .range)
  ∧ (∀ (lane teller : Nat) (l : Lane) (who : Teller) (s : State), s.frameBegun → s.namedLane lane = some l →
       Teller.ofNat? teller = some who →
       (s.tickets.any (Ticket.pointsInto l) = true → exec (.binEmptied lane teller) s = s.refusedWith .badState)
       ∧ (s.tickets.any (Ticket.pointsInto l) = false →
           ((s.heldApproval (.bin l)).map HeldApproval.teller ≠ some who.complement →
             exec (.binEmptied lane teller) s =
               State.answeredOk
                 { s with approvals := putByKey HeldApproval.key ⟨.bin l, who, none, 60⟩ s.approvals } [1, 60])
           ∧ (∀ held, s.heldApproval (.bin l) = some held → held.teller = who.complement → held.delivered = none →
             exec (.binEmptied lane teller) s =
               State.answeredOk
                 (State.reform
                   { s with
                     approvals := s.approvals.filter fun a => a.target.key != (HeldTarget.bin l).key,
                     lanes := s.lanes.set l { s.lane l with binCount := 0, binVerified := true },
                     reasons := s.reasons.add .lane }) [2, 0])))
  ∧ (∀ (lane count : Nat) (s : State), s.frameBegun →
       exec (.binSet lane count) s =
         match s.namedLane lane with
         | none => s.refusedWith .range
         | some l =>
           if 120 < count then s.refusedWith .range
           else if (s.lane l).binVerified then s.refusedWith .badState
           else
             State.answeredOk
               (State.reform
                 { s with lanes := s.lanes.set l { s.lane l with binCount := count, binVerified := true },
                          reasons := s.reasons.add .lane }) [])

/-- The events of a lane's slot that the Lane Ring hands on (R130), each by the lane's handling. (a) An insertion is taken in
IDLE alone (R101). With no ticket waiting, auto-envelope on and an entry free it makes a lane-opened ENVELOPE ticket, with
no opener, amount or mark, and captures for it (R10, R100). (b) CAPTURE_DONE in CAPTURING raises the bin count, with LANE
placed at 120, and holds the envelope under the new count (R102). (c) CAPTURE_JAM in CAPTURING, and RETURN_DONE there,
jam the ticket with cause STATION or RETURNED; RETURN_DONE in RETURNING ends the return (R103, R104). In every other
handling the three change nothing. (d) The first STATUS_L after a lane's return jams a capture whose slot is not reported
CAPTURE, with cause RESULT_LOST, and ends a return whose slot is not reported RETURN (R105). -/
def Obligations.SlotEventsAreTaken : Prop :=
  (∀ (l : Lane) (s : State),
      let h := s.handlings.get l
      let n := s.issueNumber
      s.takeEvent l .insert = s.insertEvent l
      ∧ (h.state ≠ .idle → s.insertEvent l = s)
      ∧ (h.state = .idle → s.wall.service = true → s.alarms.lockdown = false → (s.lane l).binVerified = true →
          (s.lane l).binCount < 120 → s.tickets.any (Ticket.awaitsEnvelope l) = false → s.params.autoEnvelope = true →
          s.tickets.length < 32 →
          s.insertEvent l =
            { s.ticketEnters
                { number := n, lane := l, opener := none, openStamp := s.nextStamp, mark := ⟨false, false⟩,
                  body := .envelope { state := .capturing, amount := none, sequence := none } } with
              nextNumber := if n < 9999 then n + 1 else 1, nextStamp := s.nextStamp + 1,
              handlings := s.handlings.set l { h with state := .capturing, ticket := some n, jam := none } }))
  ∧ (∀ (l : Lane) (s : State),
      let h := s.handlings.get l
      let count := (s.lane l).binCount + 1
      (h.state ≠ .capturing → s.takeEvent l .captureDone = s)
      ∧ ∀ t e, h.state = .capturing → h.ticket = some t.number → s.holdsEnvelope t e → e.state = .capturing →
          s.takeEvent l .captureDone =
            { s.ticketEnters { t with body := .envelope { e with state := .envelopeHeld, sequence := some count } } with
              lanes := s.lanes.set l { s.lane l with binCount := count },
              handlings := s.handlings.set l { h with state := .idle, ticket := none, jam := none },
              reasons := if count = 120 then (s.reasons.add .tickets).add .lane else s.reasons.add .tickets })
  ∧ (∀ (l : Lane) (s : State),
      let h := s.handlings.get l
      let jammed (t : Ticket) (e : Envelope) (why : JamCause) : State :=
        { s.ticketEnters { t with body := .envelope { e with state := .jammed } } with
          handlings := s.handlings.set l { h with state := .jammed, jam := some why } }
      (h.state ≠ .capturing → s.takeEvent l .captureJam = s)
      ∧ (h.state = .idle ∨ h.state = .jammed → s.takeEvent l .returnDone = s)
      ∧ (h.state = .returning → s.takeEvent l .returnDone =
          { s with handlings := s.handlings.set l { h with state := .idle, ticket := none, jam := none } })
      ∧ ∀ t e, h.state = .capturing → h.ticket = some t.number → s.holdsEnvelope t e → e.state = .capturing →
          s.takeEvent l .captureJam = jammed t e .station ∧ s.takeEvent l .returnDone = jammed t e .returned)
  ∧ (∀ (l : Lane) (x : SlotValue) (s : State),
      let h := s.handlings.get l
      (h.state = .idle ∨ h.state = .jammed ∨ (h.state = .capturing ∧ x = .capture) ∨ (h.state = .returning ∧ x = .giveBack) →
        s.decideHandling l x = s)
      ∧ (h.state = .returning → x ≠ .giveBack → s.decideHandling l x =
          { s with handlings := s.handlings.set l { h with state := .idle, ticket := none, jam := none } })
      ∧ ∀ t e, h.state = .capturing → x ≠ .capture → h.ticket = some t.number → s.holdsEnvelope t e → e.state = .capturing →
          s.decideHandling l x =
            { s.ticketEnters { t with body := .envelope { e with state := .jammed } } with
              handlings := s.handlings.set l { h with state := .jammed, jam := some .resultLost } })

/-- (a) INTAKE BEGIN of an INTAKE ticket (R110): BAD_STATE outside READY_INTAKE, LOCKED in LOCKDOWN, BUSY while another
run collects; taken, the ticket is COLLECTING, the intake record is OPEN with it as owner, and ACCEPT ON is sent unless
a stray note is still to be placed. (b) INTAKE FINISH of a COLLECTING ticket (R117): ACCEPT OFF is sent; in OPEN the
ticket is COUNTED and the record IDLE; with a note under way the finish is held; taken again with the finish held it
changes nothing. -/
def Obligations.IntakeRunBeginsAndFinishes : Prop :=
  (∀ (t : Ticket) (k : Intake) (s : State), s.frameBegun → s.wall.service = true → 1 ≤ t.number → t.number ≤ 9999 →
      s.holdsIntake t k →
      exec (.intakeBegin t.number) s =
        if k.state ≠ .readyIntake then s.refusedWith .badState
        else if s.alarms.lockdown then s.refusedWith .locked
        else if s.tickets.any Ticket.collecting then s.refusedWith .busy
        else
          State.answeredOk
            (State.reform
              { s.ticketEnters { t with body := .intake { k with state := .collecting } } with
                intakeRec := { s.intakeRec with state := .ready, owner := some t.number, finishHeld := false },
                headSent := if s.intakeRec.stray then s.headSent else s.headSent ++ [.acceptOn] })
            (beBytes 2 t.number ++ [0x19]))
  ∧ (∀ (t : Ticket) (k : Intake) (s : State), s.frameBegun → s.wall.service = true → 1 ≤ t.number → t.number ≤ 9999 →
      s.holdsIntake t k →
      (k.state ≠ .collecting → exec (.intakeFinish t.number) s = s.refusedWith .badState)
      ∧ (k.state = .collecting → s.intakeRec.finishHeld = false → s.intakeRec.state = .ready →
          exec (.intakeFinish t.number) s =
            State.answeredOk
              (State.reform
                { s.ticketEnters { t with body := .intake { k with state := .counted } } with
                  intakeRec := { s.intakeRec with state := .idle, owner := none, escrow := none, destination := none,
                                                  finishHeld := false },
                  headSent := s.headSent ++ [.acceptOff] })
              (beBytes 2 t.number ++ [0x1A]))
      ∧ (k.state = .collecting → s.intakeRec.finishHeld = false →
          (s.intakeRec.state = .waitingGate ∨ s.intakeRec.state = .placing) →
          exec (.intakeFinish t.number) s =
            State.answeredOk
              (State.reform { s with intakeRec := { s.intakeRec with finishHeld := true },
                                     headSent := s.headSent ++ [.acceptOff] })
              (beBytes 2 t.number ++ [0x19]))
      ∧ (k.state = .collecting → s.intakeRec.finishHeld = true →
          exec (.intakeFinish t.number) s = s.reform.answeredOk (beBytes 2 t.number ++ [0x19])))

/-- ESCROW_EVENT in OPEN, for a note that does not go to D (R112): the tray for a code not listed, in LOCKDOWN or a
count point, or when the ticket's figures would pass their ranges; else the vault unless it is full. The record is
PLACING and PLACE is sent. In IDLE the note is a stray for the tray; while a note is under way the event is not taken.
-/
def Obligations.EscrowDecidesTheNote : Prop :=
  ∀ (code : Option Code) (s : State),
    (s.intakeRec.state = .idle →
      exec (.escrowEvent code) s =
        .next (State.reform { s with intakeRec := { s.intakeRec with stray := true },
                                     headSent := s.headSent ++ [.place .tray] }))
    ∧ (s.intakeRec.state = .waitingGate ∨ s.intakeRec.state = .placing → exec (.escrowEvent code) s = .next s)
    ∧ ∀ n k, s.intakeRec.state = .ready → s.intakeRec.owner = some n → s.intake n = some k →
        let value := code.bind s.params.denominations.get
        let pauses := s.alarms.lockdown = true ∨ s.countPoint.state ≠ .idle
        let past (v : Nat) : Prop := 2500 ≤ k.recycled + k.vaulted ∨ 999999 < k.amount + v
        let placed (x : Destination) : Host.Outcome State Fault Refusal :=
          .next (State.reform
            { s with intakeRec := { s.intakeRec with state := .placing, escrow := some ⟨code, value⟩,
                                                     destination := some x, storedTo := .slot },
                     headSent := s.headSent ++ [.place x] })
        (value = none → exec (.escrowEvent code) s = placed .tray)
        ∧ (∀ v, value = some v → pauses ∨ past v → exec (.escrowEvent code) s = placed .tray)
        ∧ (∀ v, value = some v → ¬ pauses → ¬ past v → s.storeCode ≠ code.map Code.number →
            (s.intakeVault.full = true → exec (.escrowEvent code) s = placed .tray)
            ∧ (s.intakeVault.full = false → exec (.escrowEvent code) s = placed .vault))
        ∧ (∀ v, value = some v → ¬ pauses → ¬ past v → s.storeCode = code.map Code.number →
            ∃ u, exec (.escrowEvent code) s = .next u ∧ u.intakeRec.escrow = some ⟨code, value⟩
              ∧ (s.gate.granted = none → u.intakeRec.state = .placing ∧ u.intakeRec.destination = some .cassetteD
                  ∧ u.gate.granted = some .deposit ∧ u.headSent = s.headSent ++ [.place .cassetteD])
              ∧ (s.gate.granted ≠ none → u.intakeRec.state = .waitingGate ∧ u.gate.waitDeposit = true
                  ∧ u.gate.granted = s.gate.granted ∧ u.headSent = s.headSent))

/-- (a) NOTE_PLACED in PLACING for the vault or the tray (R24, R57, R116): the vault's entry for the code and the
ticket's figures rise by the one note; with no finish held the record is OPEN again. The vault's since-last count stops
at 65535 (model's choice, log entry 8). A stray note counts to no ticket; in OPEN ACCEPT ON is sent then, and in IDLE
nothing is (R110, R111). (b) NOTE_PLACED for position D (R24, R45, R116): the count and the stored figures of D rise by
one, a ZERO depletion is cleared, and the ticket's recycled count and amount rise; the grant of the D gate ends, and a
pick claim that waits is decided (R59, R60, R71): that a full reject vault then halts its ticket with REJECT_FULL where
D is fit is DEDUCED (R56, log entry 9), since R60 alone grants a claim at a D IN_SERVICE that is not depleted. (c) With
a finish held the ticket's figures rise in the same way, it enters COUNTED, and the record is IDLE (R116, R117); for D
the gate is freed in the same way, and a placement elsewhere leaves its grant. -/
def Obligations.NotePlacedIsCounted : Prop :=
  (∀ (t : Ticket) (k : Intake) (c : Code) (v : Nat) (s : State), s.holdsIntake t k → k.state = .collecting →
      s.intakeRec.owner = some t.number → s.intakeRec.finishHeld = false →
      (s.intakeRec.state = .placing → s.intakeRec.destination = some .vault → s.intakeRec.escrow = some ⟨some c, some v⟩ →
        ∃ u, exec .notePlaced s = .next u
          ∧ u.intake t.number = some { k with
              accepted := k.accepted.set c (k.accepted.get c + 1), amount := k.amount + v, vaulted := k.vaulted + 1 }
          ∧ u.intakeVault.entries = s.intakeVault.entries.set c (s.intakeVault.entries.get c + 1)
          ∧ (u.intakeVault.since.get c).total = min 65535 ((s.intakeVault.since.get c).total + 1)
          ∧ u.intakeRec.state = .ready ∧ u.intakeRec.escrow = none ∧ u.changeSet = s.changeSet)
      ∧ (∀ x, s.intakeRec.state = .placing → s.intakeRec.destination = some .tray → s.intakeRec.escrow = some x →
          exec .notePlaced s =
            .next (State.reform
              { s.putTicket { t with body := .intake { k with returned := min 2500 (k.returned + 1) } } with
                intakeRec := { s.intakeRec with state := .ready, escrow := none, destination := none } }))
      ∧ (s.intakeRec.state = .ready → s.intakeRec.stray = true →
          exec .notePlaced s =
            .next (State.reform { s with intakeRec := { s.intakeRec with stray := false },
                                         headSent := s.headSent ++ [.acceptOn] })))
  ∧ (∀ s : State, s.intakeRec.state = .idle → s.intakeRec.stray = true →
      exec .notePlaced s = .next (State.reform { s with intakeRec := { s.intakeRec with stray := false } }))
  ∧ (∀ (t : Ticket) (k : Intake) (c : Code) (v : Nat) (s : State), s.holdsIntake t k → k.state = .collecting →
      s.intakeRec.owner = some t.number → s.intakeRec.state = .placing → s.intakeRec.destination = some .cassetteD →
      s.intakeRec.escrow = some ⟨some c, some v⟩ → s.intakeRec.storedTo = .slot → s.intakeRec.finishHeld = false →
      s.gate.waitDeposit = false → (s.slot .d).storedIn + 1 ≤ 65535 →
      let x := s.slot .d
      ∃ u, exec .notePlaced s = .next u
        ∧ u.slot .d = { x with
            count := x.count + 1, storedIn := x.storedIn + 1, totalStoredIn := min 65535 (x.totalStoredIn + 1),
            depleted := if x.depleted = .zero then .clear else x.depleted,
            low := x.state.live && decide (x.count + 1 ≤ s.params.lowLevels.get .d), committed := u.committedAt .d }
        ∧ u.intake t.number = some { k with
            accepted := k.accepted.set c (k.accepted.get c + 1), amount := k.amount + v, recycled := k.recycled + 1 }
        ∧ u.intakeRec.state = .ready ∧ s.servesPick u)
  ∧ (∀ (t : Ticket) (k : Intake) (x : Destination) (e : Escrow) (s : State), s.holdsIntake t k → k.state = .collecting →
      s.intakeRec.owner = some t.number → s.intakeRec.state = .placing → s.intakeRec.destination = some x →
      s.intakeRec.escrow = some e → s.intakeRec.finishHeld = true → s.gate.waitDeposit = false →
      ∃ u, exec .notePlaced s = .next u ∧ t.number ∈ u.changeSet
        ∧ u.intakeRec.state = .idle ∧ u.intakeRec.owner = none ∧ u.intakeRec.escrow = none
        ∧ u.intakeRec.destination = none ∧ u.intakeRec.finishHeld = false ∧ u.headSent = s.headSent
        ∧ (x = .cassetteD → s.servesPick u) ∧ (x ≠ .cassetteD → u.gate.granted = s.gate.granted)
        ∧ (x = .tray → u.intake t.number = some { k with state := .counted, returned := min 2500 (k.returned + 1) })
        ∧ ∀ c v, e = ⟨some c, some v⟩ →
            (x = .vault → u.intake t.number = some { k with
              state := .counted, accepted := k.accepted.set c (k.accepted.get c + 1), amount := k.amount + v,
              vaulted := k.vaulted + 1 })
            ∧ (x = .cassetteD → u.intake t.number = some { k with
              state := .counted, accepted := k.accepted.set c (k.accepted.get c + 1), amount := k.amount + v,
              recycled := k.recycled + 1 }))

/-! ### The Lane Ring (chapter 5) -/

/-- (a) SYNC_SLOT (R119, R120, R138): the first frame after a reset carries frame number 0 and each later one the next
number, wrapping from 255 to 0; the STAMP to all stations is sent and a difference heard is a line fault of the frame.
With a lane count waiting, it is the enabled count from now on, and each DISABLED lane up to it is JOINING. (b)
LANE_SLOT (R120, R125, R127): a JOINING or SILENT lane is sent a STAMP with the frame number; an ONLINE lane the drawer
command while its report does not answer it, then the slot command, then the lamp command, and a STAMP when all are
answered; the transmit verify and the reply's outcome wait in the lane record. A FAULTED lane's slot leaves LTX idle,
and a DISABLED lane has none, so that nothing changes (model's choice, log entry 7). (c) The outcome of a reply is the
first row of R127 that holds. (d) The words of R191: the check nibble over the body, the STAMP and the command bodies, and
an uplink word that is read as a STATUS_L, STATUS_D or EVENT exactly when it is laid out as one with its check right. -/
def Obligations.SlotsOfTheRing : Prop :=
  (∀ (heard : RingWord) (s : State), ∃ u, exec (.syncSlot heard) s = .next u
      ∧ u.ring.frameNumber = (if s.ring.started then (s.ring.frameNumber + 1) % 256 else s.ring.frameNumber)
      ∧ u.ring.started = true ∧ u.ring.ltx = some (stampWord 0 u.ring.frameNumber)
      ∧ u.ring.syncFault = decide (heard ≠ stampWord 0 u.ring.frameNumber)
      ∧ (s.ring.pendingCount = none → u.ring.enabledCount = s.ring.enabledCount ∧ ∀ l, (u.lane l).link = (s.lane l).link)
      ∧ ∀ n, s.ring.pendingCount = some n → u.ring.enabledCount = n ∧ u.ring.pendingCount = none
          ∧ (∀ l, l.number ≤ n → (s.lane l).link = .disabled → (u.lane l).link = .joining
              ∧ (u.lane l).badRun = 0 ∧ (u.lane l).faultRun = 0 ∧ (u.lane l).joinRun = .idle ∧ (u.lane l).lastEvent = none)
          ∧ (∀ l, l.number ≤ n → (s.lane l).link ≠ .disabled → (u.lane l).link = (s.lane l).link)
          ∧ (∀ l, n < l.number → (u.lane l).link = .disabled))
  ∧ (∀ (l : Lane) (heard : RingWord) (reply : Reply) (s : State),
      let r := s.lane l
      let stamp := stampWord l.number s.ring.frameNumber
      let drawerAnswered : Bool :=
        match r.effDrawer with
        | .locked => decide (r.repDrawer = some .locked)
        | .unlocked => decide (r.repDrawer = some .unlocked ∨ r.repDrawer = some .opened)
        | .closing => decide (r.repDrawer = some .locked)
      let sent (word : RingWord) : Host.Outcome State Fault Refusal :=
        .next { s with
          lanes := s.lanes.set l { r with slotFault := decide (heard ≠ word),
                                          slotReply := some (judgeReply s.ring.frameNumber reply) },
          ring := { s.ring with ltx := some word } }
      (r.link = .joining ∨ r.link = .silent → exec (.laneSlot l heard reply) s = sent stamp)
      ∧ (r.link = .online →
          (drawerAnswered = false → exec (.laneSlot l heard reply) s = sent (commandWord l r.effDrawer.code))
          ∧ (drawerAnswered = true → r.repSlot ≠ some r.effSlot →
              exec (.laneSlot l heard reply) s = sent (commandWord l (3 + r.effSlot.code)))
          ∧ (drawerAnswered = true → r.repSlot = some r.effSlot → r.repLamp ≠ some r.desiredLamp →
              exec (.laneSlot l heard reply) s = sent (commandWord l (7 + r.desiredLamp.code)))
          ∧ (drawerAnswered = true → r.repSlot = some r.effSlot → r.repLamp = some r.desiredLamp →
              exec (.laneSlot l heard reply) s = sent stamp))
      ∧ (r.link = .faulted → exec (.laneSlot l heard reply) s = .next { s with ring := { s.ring with ltx := none } })
      ∧ (r.link = .disabled → exec (.laneSlot l heard reply) s = .next s))
  ∧ (∀ (frame : Nat) (inWindow cut : Bool) (w : RingWord),
      let outcome := judgeReply frame (.word inWindow cut w)
      judgeReply frame .silent = .silentSlot
      ∧ (inWindow = false → outcome = .receiveError false)
      ∧ (inWindow = true → cut = true → outcome = .receiveError false)
      ∧ (inWindow = true → cut = false → readUplink w = none → outcome = .receiveError false)
      ∧ (∀ slot lamp call tamper echo, inWindow = true → cut = false →
          readUplink w = some (.statusL slot lamp call tamper echo) →
          outcome = if echo = frame % 16 ∨ echo = (frame + 255) % 16 then .valid (.statusL slot lamp call tamper echo)
            else .receiveError true)
      ∧ (∀ x, inWindow = true → cut = false → readUplink w = some x →
          (∀ slot lamp call tamper echo, x ≠ .statusL slot lamp call tamper echo) → outcome = .valid x))
  ∧ (let word (body : Nat) : RingWord :=
        BitVec.ofNat 16 (4096 * ((body / 256) ^^^ (body / 16 % 16) ^^^ (body % 16) ^^^ 5) + body)
      let layout (x : Uplink) : Nat :=
        match x with
        | .statusL slot lamp call tamper echo =>
          0x800 + 512 * slot.code + 64 * lamp.code + 32 * call.toNat + 16 * tamper.toNat + echo
        | .statusD drawer notes fault => 0x400 + 256 * drawer.code + 128 * notes.toNat + 64 * fault.toNat
        | .event kind number =>
          256 * (match kind with
            | .insert => 0
            | .captureDone => 1
            | .captureJam => 2
            | .returnDone => 3) + 32 * number
      let inRange (x : Uplink) : Prop :=
        match x with
        | .statusL _ _ _ _ echo => echo < 16
        | .statusD _ _ _ => True
        | .event _ number => number < 8
      (∀ address frame, address ≤ 8 → frame < 256 → stampWord address frame = word (256 * address + frame))
      ∧ (∀ l code, code < 12 → commandWord l code = word (0x900 + 16 * l.number + code))
      ∧ (∀ w x, readUplink w = some x ↔ inRange x ∧ w = word (layout x)))

/-- FRAME_END for one lane (R128, R129, R131, R132). (a) With a line fault, in its own slot or in the sync slot, the fault
run and the line fault counter rise; at the second faulty frame in a row the lane is FAULTED with its bad run and join run
cleared, its line fault source is active, LANE is placed, and its reply is discarded. (b) With none the fault run is 0,
and the lane is judged by its reply's outcome, with or without a line fault in a first faulty frame: a bad frame raises
the bad run and the counter of its outcome, and a valid one sets the bad run to 0; the link state and the join run follow
the table of R129, and a change of the link state places LANE. (c) The contents of a valid reply are recorded in every
link state, and an EVENT's number is the last event number; an INSERT that is not handed on sets the unheard mark, and a
STATUS_L CLOSED clears it for a lane ONLINE after the judgment of this frame (DEDUCED, log entry 18). (d) A lane that
leaves ONLINE has its bound ticket marked lane lost, and the lost decision is owed with its timer started anew unless the
presentation is decided; a drawer last reported open is asked to close. -/
def Obligations.FrameEndJudgesALane : Prop :=
  (∀ (l : Lane) (o : SlotOutcome) (s : State),
      ((s.lane l).link = .joining ∨ (s.lane l).link = .online ∨ (s.lane l).link = .silent) →
      (s.lane l).slotReply = some o → ((s.lane l).slotFault = true ∨ s.ring.syncFault = true) →
      ∃ u, exec .frameEnd s = .next u ∧ (u.lane l).faultRun = (s.lane l).faultRun + 1
        ∧ (u.lane l).lineFaults = min 65535 ((s.lane l).lineFaults + 1)
        ∧ ((s.lane l).faultRun = 0 → (u.lane l).link ≠ .faulted)
        ∧ (1 ≤ (s.lane l).faultRun →
            (u.lane l).link = .faulted ∧ (u.lane l).badRun = 0 ∧ (u.lane l).joinRun = .idle
            ∧ (u.alarms.sources.lineFault.get l).active = true ∧ u.reasons.lane = true
            ∧ (u.lane l).repDrawer = (s.lane l).repDrawer ∧ (u.lane l).repSlot = (s.lane l).repSlot
            ∧ (u.lane l).lastEvent = (s.lane l).lastEvent))
  ∧ (∀ (l : Lane) (o : SlotOutcome) (s : State), (s.lane l).slotReply = some o →
      ((s.lane l).slotFault = false ∧ s.ring.syncFault = false ∨ (s.lane l).faultRun = 0) →
      let r := s.lane l
      let gap (number : Nat) : Prop := ∃ k, r.lastEvent = some k ∧ number ≠ k ∧ number ≠ (k + 1) % 8
      ∃ u, exec .frameEnd s = .next u
        ∧ (r.link = .joining ∨ r.link = .online ∨ r.link = .silent →
            ((s.lane l).slotFault = false → s.ring.syncFault = false → (u.lane l).faultRun = 0)
            ∧ (∀ w, o = .valid w → (u.lane l).badRun = 0)
            ∧ (o = .silentSlot → (u.lane l).badRun = min 4 (r.badRun + 1)
                ∧ (u.lane l).silentSlots = min 65535 (r.silentSlots + 1))
            ∧ (∀ mark, o = .receiveError mark → (u.lane l).badRun = min 4 (r.badRun + 1)
                ∧ (u.lane l).receiveErrors = min 65535 (r.receiveErrors + 1))
            ∧ ((u.lane l).link ≠ r.link → u.reasons.lane = true))
        ∧ (r.link = .online →
            (∀ x notes fault, o = .valid (.statusD x notes fault) → (u.lane l).link = .online)
            ∧ (∀ a b c d e, o = .valid (.statusL a b c d e) → (u.lane l).link = .online)
            ∧ (∀ kind number, o = .valid (.event kind number) →
                (¬ gap number → (u.lane l).link = .online)
                ∧ (gap number → (u.lane l).link = .joining ∧ (u.lane l).joinRun = .idle))
            ∧ (o = .receiveError true → (u.lane l).link = .joining ∧ (u.lane l).joinRun = .idle)
            ∧ (o = .receiveError false ∨ o = .silentSlot →
                (u.lane l).link = (if 4 ≤ r.badRun + 1 then .silent else .online)))
        ∧ (r.link = .joining →
            (∀ x notes fault, o = .valid (.statusD x notes fault) →
                (r.joinRun = .statusL → (u.lane l).link = .online ∧ (u.lane l).joinRun = .idle)
                ∧ (r.joinRun ≠ .statusL → (u.lane l).link = .joining ∧ (u.lane l).joinRun = .statusD))
            ∧ (∀ a b c d e, o = .valid (.statusL a b c d e) →
                (r.joinRun = .statusD → (u.lane l).link = .online ∧ (u.lane l).joinRun = .idle)
                ∧ (r.joinRun ≠ .statusD → (u.lane l).link = .joining ∧ (u.lane l).joinRun = .statusL))
            ∧ (∀ kind number, o = .valid (.event kind number) →
                (u.lane l).link = .joining ∧ (u.lane l).joinRun = r.joinRun)
            ∧ (o = .silentSlot ∨ (∃ mark, o = .receiveError mark) → (u.lane l).joinRun = .idle
                ∧ (u.lane l).link = (if 4 ≤ r.badRun + 1 then .silent else .joining)))
        ∧ (r.link = .silent →
            (∀ x notes fault, o = .valid (.statusD x notes fault) →
                (u.lane l).link = .joining ∧ (u.lane l).joinRun = .statusD)
            ∧ (∀ a b c d e, o = .valid (.statusL a b c d e) →
                (u.lane l).link = .joining ∧ (u.lane l).joinRun = .statusL)
            ∧ (∀ kind number, o = .valid (.event kind number) →
                (u.lane l).link = .joining ∧ (u.lane l).joinRun = .idle)
            ∧ (o = .silentSlot ∨ (∃ mark, o = .receiveError mark) → (u.lane l).link = .silent)))
  ∧ (∀ (l : Lane) (w : Uplink) (s : State), (s.lane l).slotReply = some (.valid w) →
      ((s.lane l).slotFault = false ∧ s.ring.syncFault = false ∨ (s.lane l).faultRun = 0) →
      ((s.lane l).link = .joining ∨ (s.lane l).link = .online ∨ (s.lane l).link = .silent) →
      let r := s.lane l
      ∃ u, exec .frameEnd s = .next u
        ∧ (∀ x notes fault, w = .statusD x notes fault →
            (u.lane l).repDrawer = some x ∧ (u.lane l).repNotes = some notes ∧ (u.lane l).repFault = some fault
            ∧ (u.lane l).lastEvent = r.lastEvent)
        ∧ (∀ slot lamp call tamper echo, w = .statusL slot lamp call tamper echo →
            (u.lane l).repSlot = some slot ∧ (u.lane l).repLamp = some lamp ∧ (u.lane l).callButton = some call
            ∧ (u.lane l).tamper = some tamper ∧ (u.lane l).stampEcho = some echo ∧ (u.lane l).lastEvent = r.lastEvent
            ∧ (u.alarms.sources.laneTamper.get l).active = tamper
            ∧ (u.lane l).unheard = (r.unheard && !(decide ((u.lane l).link = .online) && decide (slot = .closed))))
        ∧ (∀ kind number, w = .event kind number →
            (u.lane l).lastEvent = some number ∧ (u.lane l).repDrawer = r.repDrawer ∧ (u.lane l).repSlot = r.repSlot
            ∧ (u.lane l).unheard =
                (r.unheard || decide (kind = .insert ∧ r.lastEvent ≠ some number
                  ∧ ¬ (r.link = .online ∧ r.lastEvent.any fun k => decide (number = (k + 1) % 8))))))
  ∧ (∀ (l : Lane) (t : Ticket) (d : Dispense) (s : State), (s.lane l).link = .online → (s.lane l).slotReply.isSome = true →
      s.boundTicket l = some t.number → s.holdsDispense t d →
      ∃ u, exec .frameEnd s = .next u
        ∧ ((u.lane l).link ≠ .online →
            (∃ e, u.dispense t.number = some e ∧ e.laneLost = true)
            ∧ ((∀ p, s.presentations.get l = some p → p.decided = false) →
                (u.lane l).lost = .owed ∧ (u.lane l).lostTimer = some s.params.lostLaneLimit)
            ∧ ((∃ p, s.presentations.get l = some p ∧ p.decided = true) →
                (u.lane l).lost = (s.lane l).lost ∧ (u.lane l).lostTimer = (s.lane l).lostTimer)
            ∧ ((s.lane l).handedDrawer = some .opened → ∀ p, s.presentations.get l = some p →
                ∃ q, u.presentations.get l = some q ∧ q.closeAsked = true)))

/-- (a) A drawer report of a presentation whose lane is not lost (R88, R193): a shut drawer with no fault, after the drawer
was seen open or asked to close, decides the ticket. With no notes it is DELIVERED with delivered its presented count and
no deadline, and the drawer holds nothing; with notes its deadline goes, the presentation is decided, and a retract of
kind TICKET is asked. (b) The other reports of such a presentation (R29, R193): OPEN sets opened seen; a shut report with
a fault, after the decision, or LOCKED with neither mark set changes nothing; an UNLOCKED one with neither mark set starts
the take timer. (c) The lost decision (R134), owed for a PRESENTED ticket marked lane lost: a fault decides nothing; OPEN
asks the drawer to close; with notes the presentation is decided and a TICKET retract asked, the deadline going (DEDUCED,
log entry 29); with none the ticket is DISPUTED. (d) FRAME_END in a frame in which one lane alone has a reply, valid and
with no line fault (R130, R131): a lane that was ONLINE has its STATUS_D, and its EVENT of the next number, handed on; a
lane that the word brings ONLINE has the reports of its record handed on, the drawer's first, and its drawer decided by
R92 when the transport sweep is done. A drawer report handed on is the last one the Dispense Engine has (R86, R130). That
the joining frame's STATUS_L CLOSED clears the unheard mark (log entry 18) and that the lanes with no outcome in the frame
are left unjudged (log entry 17) are DEDUCED; that a decision owed ends there for a lane with no ticket ROUTING or
PRESENTED is model's choice (log entry 29). (e) The join decision (R92): with no holder and no delivery under way a drawer
with notes is held for a SWEEP retract of 200 notes; the drawer of a DISPUTED ticket is drawn back by a DISPUTED retract,
or its holder cleared when it shows no notes, unless a retract of the lane is under way (R83; DEDUCED for the holder, log
entry 16); in every other case nothing is done. -/
def Obligations.DrawerReportsAndWhatIsHandedOn : Prop :=
  (∀ (l : Lane) (t : Ticket) (d : Dispense) (p : Presentation) (x : DrawerReport) (notes : Bool) (s : State),
      s.presentations.get l = some p → p.ticket = t.number → p.decided = false → p.openedSeen = true ∨ p.closeAsked = true →
      s.holdsDispense t d → d.state = .presented → d.laneLost = false → x ≠ .opened → s.retracting l = false →
      let u := s.drawerReport l x notes false
      (notes = false →
        u = { s.ticketEnters { t with body := .dispense { d with
                state := .delivered, halt := none, deadline := none, delivered := d.presented } } with
              lanes := s.lanes.set l { s.lane l with holder := none }, presentations := s.presentations.set l none })
      ∧ (notes = true →
        u = { s.putTicket { t with body := .dispense { d with deadline := none } } with
              presentations := s.presentations.set l (some { p with decided := true }),
              retracts := s.retracts ++
                [{ lane := l, holder := .ticket t.number, kind := .ticket, expected := d.presented, stage := .owed }] }))
  ∧ (∀ (l : Lane) (t : Ticket) (d : Dispense) (p : Presentation) (x : DrawerReport) (notes fault : Bool) (s : State),
      s.presentations.get l = some p → p.ticket = t.number → s.holdsDispense t d → d.laneLost = false →
      let u := s.drawerReport l x notes fault
      (x = .opened → u = { s with presentations := s.presentations.set l (some { p with openedSeen := true }) })
      ∧ (x ≠ .opened → (fault = true ∨ p.decided = true) → u = s)
      ∧ (x = .locked → p.openedSeen = false → p.closeAsked = false → u = s)
      ∧ (x = .unlocked → fault = false → p.decided = false → p.openedSeen = false → p.closeAsked = false →
          d.state = .presented → d.deadline = none →
          u = s.putTicket { t with body := .dispense { d with deadline := some ⟨.take, s.params.takeTimeout⟩ } }))
  ∧ (∀ (l : Lane) (t : Ticket) (d : Dispense) (p : Presentation) (x : DrawerReport) (notes fault : Bool) (s : State),
      s.presentations.get l = some p → p.ticket = t.number → s.holdsDispense t d → d.laneLost = true →
      d.state = .presented → (s.lane l).lost ≠ .idle →
      let u := s.drawerReport l x notes fault
      let decided := { s.lane l with lost := .idle, lostTimer := none }
      (fault = true → u = s)
      ∧ (fault = false → x = .opened →
          u = { s with presentations := s.presentations.set l (some { p with closeAsked := true }) })
      ∧ (fault = false → x ≠ .opened → notes = true → s.retracting l = false →
          u = { s.putTicket { t with body := .dispense { d with deadline := none } } with
                presentations := s.presentations.set l (some { p with decided := true }),
                lanes := s.lanes.set l decided,
                retracts := s.retracts ++
                  [{ lane := l, holder := .ticket t.number, kind := .ticket, expected := d.presented, stage := .owed }] })
      ∧ (fault = false → x ≠ .opened → notes = false →
          u = { s.ticketEnters { t with body := .dispense { d with
                  state := .disputed, halt := none, deadline := none, unresolved := d.presented } } with
                disputes := putByKey Dispute.key ⟨t.number, l, none⟩ s.disputes,
                lanes := s.lanes.set l { decided with holder := none },
                presentations := s.presentations.set l none }))
  ∧ (∀ (l : Lane) (w : Uplink) (s : State), (s.lane l).slotReply = some (.valid w) → (s.lane l).slotFault = false →
      s.ring.syncFault = false → (∀ m, m ≠ l → (s.lane m).slotReply = none) →
      let r := s.lane l
      let heard (v : LaneRec) (lane : Bool) : State :=
        { s with lanes := s.lanes.set l { v with badRun := 0, faultRun := 0 },
                 reasons := if lane then s.reasons.add .lane else s.reasons }
      let after (u : State) : Host.Outcome State Fault Refusal :=
        .next (State.reform
          { u with
            lanes := u.lanes.mapWith fun _ v => { v with slotFault := false, slotReply := none },
            ring := { u.ring with syncFault := false } })
      (∀ x notes fault, w = .statusD x notes fault →
        let v := { r with
          repDrawer := some x, repNotes := some notes, repFault := some fault, handedDrawer := some x }
        (r.link = .online →
          exec .frameEnd s = after ((heard v (decide (r.repFault ≠ some fault))).drawerReport l x notes fault))
        ∧ (r.link = .joining → r.joinRun = .statusL → ∀ slot, r.repSlot = some slot →
            let joined := heard { v with
              link := .online, joinRun := .idle, lostTimer := none,
              lost := if r.lost = .idle ∨ s.boundTicket l = none then .idle else .owed } true
            let decided := (joined.drawerReport l x notes fault).decideHandling l slot
            exec .frameEnd s = after (if s.sweepDone then decided.decideDrawer l else decided)))
      ∧ (∀ slot lamp call tamper echo, w = .statusL slot lamp call tamper echo → r.link = .joining → r.joinRun = .statusD →
          ∀ x notes fault, r.repDrawer = some x → r.repNotes = some notes → r.repFault = some fault →
            let v := { r with
              repSlot := some slot, repLamp := some lamp, callButton := some call, tamper := some tamper,
              stampEcho := some echo, unheard := r.unheard && !decide (slot = .closed), link := .online, joinRun := .idle,
              handedDrawer := some x,
              lostTimer := none, lost := if r.lost = .idle ∨ s.boundTicket l = none then .idle else .owed }
            let joined := (heard v true).hand (.laneTamper l) tamper
            let decided := (joined.drawerReport l x notes fault).decideHandling l slot
            exec .frameEnd s = after (if s.sweepDone then decided.decideDrawer l else decided))
      ∧ (∀ kind number k, w = .event kind number → r.link = .online → r.lastEvent = some k → number = (k + 1) % 8 →
          exec .frameEnd s = after ((heard { r with lastEvent := some number } false).takeEvent l kind)))
  ∧ (∀ (l : Lane) (s : State),
      let r := s.lane l
      let u := s.decideDrawer l
      let under := (∃ e ∈ s.retracts, e.lane = l) ∨ ∃ h k e, s.route = .retracting l h k e
      let delivering := ∃ n notes value, s.route = .delivering l n notes value
      (r.holder = none → r.repNotes = some true → ¬ delivering → ¬ under →
          u = { s with lanes := s.lanes.set l { r with holder := some .sweep },
                       retracts := s.retracts ++
                         [{ lane := l, holder := .sweep, kind := .sweep, expected := 200, stage := .owed }] })
      ∧ (r.holder = none → (r.repNotes ≠ some true ∨ delivering) → u = s)
      ∧ (∀ n d, r.holder = some (.ticket n) → s.dispense n = some d →
          (d.state ≠ .disputed → u = s)
          ∧ (d.state = .disputed → under → u = s)
          ∧ (d.state = .disputed → ¬ under → r.repNotes = some true →
              u = { s with retracts := s.retracts ++
                [{ lane := l, holder := .ticket n, kind := .disputed, expected := d.presented, stage := .owed }] })
          ∧ (d.state = .disputed → ¬ under → r.repNotes = some false →
              u = { s with lanes := s.lanes.set l { r with holder := none } }))
      ∧ (r.holder = some .sweep → u = s))

/-- (a) LOST_LANE_TIMER_EXPIRY with the lane's ticket PRESENTED (R133, R135): the ticket is DISPUTED with unresolved its
presented count and no deadline, a dispute entry is made, the decision and the timer go, and the presentation record is
discarded; with it ROUTING the expiry is kept, the timer showing 0 (model's choice, log entry 14). With the timer not
running nothing changes (model's choice, log entry 7). (b) LANE RESTART (R137): RANGE for a lane that is 0 or above the
lane count, BAD_STATE for one that is not FAULTED; taken, the lane is JOINING with its runs cleared, its line fault
source is inactive, and LANE is placed. -/
def Obligations.LaneLossAndRestart : Prop :=
  (∀ (l : Lane) (s : State),
      ((s.lane l).lostTimer = none → exec (.lostLaneTimerExpiry l) s = .next s)
      ∧ ∀ t d, (s.lane l).lostTimer.isSome = true → s.boundTicket l = some t.number → s.holdsDispense t d →
          (d.state = .presented →
            exec (.lostLaneTimerExpiry l) s =
              .next (State.reform
                { s.ticketEnters { t with body := .dispense { d with
                      state := .disputed, halt := none, deadline := none, unresolved := d.presented } } with
                  disputes := putByKey Dispute.key ⟨t.number, l, none⟩ s.disputes,
                  lanes := s.lanes.set l { s.lane l with lost := .idle, lostTimer := none },
                  presentations := s.presentations.set l none }))
          ∧ (d.state = .routing →
            exec (.lostLaneTimerExpiry l) s =
              .next (State.reform
                { s with lanes := s.lanes.set l { s.lane l with lost := .owedExpired, lostTimer := some 0 } })))
  ∧ (∀ (lane : Nat) (s : State), s.frameBegun →
      (s.namedLane lane = none → exec (.laneRestart lane) s = s.refusedWith .range)
      ∧ ∀ l, s.namedLane lane = some l →
          ((s.lane l).link ≠ .faulted → exec (.laneRestart lane) s = s.refusedWith .badState)
          ∧ ((s.lane l).link = .faulted → ∃ u, exec (.laneRestart lane) s = .next u ∧ u.port.held = some ⟨.ok, []⟩
              ∧ (u.lane l).link = .joining ∧ (u.lane l).faultRun = 0 ∧ (u.lane l).badRun = 0 ∧ (u.lane l).joinRun = .idle
              ∧ (u.lane l).lostTimer = (s.lane l).lostTimer ∧ (u.lane l).lost = (s.lane l).lost
              ∧ (u.alarms.sources.lineFault.get l).active = false ∧ u.reasons.lane = true
              ∧ (∀ n, u.dispense n = s.dispense n) ∧ ∀ m, m ≠ l → (u.lane m).link = (s.lane m).link))

/-- (a) RESOLVE (R136, R177), steps 4 to 6 and the two approvals: BAD_STATE for a DISPENSE ticket that is not DISPUTED,
RANGE for more than its unresolved notes, BUSY while it is swept back; an approval with no other held, or by the same
position, is held with its delivered count for 60 s, in the place that log entry 23 gives the held list (model's choice);
the complementary one with another count is refused with VALUE_MISMATCH and the held one kept; with the same count the
ticket is RESOLVED, what is not delivered becomes retracted, what was not swept back is written off, and the dispute
entry goes. (b) Steps 1 to 3, and a ticket of another
kind: NOT_IN_SERVICE in SETUP, RANGE for no teller position or a ticket number that is 0 or above 9999, NOT_FOUND, and
BAD_STATE. -/
def Obligations.ResolveTakesTwoTellers : Prop :=
  (∀ (t : Ticket) (d : Dispense) (delivered teller : Nat) (who : Teller) (s : State), s.frameBegun → s.wall.service = true →
      1 ≤ t.number → t.number ≤ 9999 → Teller.ofNat? teller = some who → s.holdsDispense t d →
      let held := s.heldApproval (.resolve t.number)
      (d.state ≠ .disputed → exec (.resolve t.number delivered teller) s = s.refusedWith .badState)
      ∧ (d.state = .disputed → d.unresolved < delivered →
          exec (.resolve t.number delivered teller) s = s.refusedWith .range)
      ∧ (d.state = .disputed → delivered ≤ d.unresolved →
          (s.sweepingBack t.number = true → exec (.resolve t.number delivered teller) s = s.refusedWith .busy)
          ∧ (s.sweepingBack t.number = false →
              (held.map HeldApproval.teller ≠ some who.complement →
                exec (.resolve t.number delivered teller) s =
                  State.answeredOk
                    { s with approvals :=
                        putByKey HeldApproval.key ⟨.resolve t.number, who, some delivered, 60⟩ s.approvals } [1, 60])
              ∧ (∀ a, held = some a → a.teller = who.complement → a.delivered ≠ some delivered →
                  exec (.resolve t.number delivered teller) s = s.refusedWith .valueMismatch)
              ∧ (∀ a, held = some a → a.teller = who.complement → a.delivered = some delivered →
                  let share := d.unresolved - delivered
                  let back := (findByKey Dispute.key t.number s.disputes).elim 0 fun e => e.sweptBack.getD 0
                  exec (.resolve t.number delivered teller) s =
                    State.answeredOk
                      (State.reform
                        { s.ticketEnters { t with body := .dispense { d with
                              state := .resolved, halt := none, deadline := none, delivered := delivered,
                              retracted := d.retracted + share, unresolved := 0 } } with
                          approvals := s.approvals.filter fun x => x.target.key != (HeldTarget.resolve t.number).key,
                          countPoint := { s.countPoint with
                            writtenOff := s.countPoint.writtenOff.raise 65535 (share - min back share) },
                          disputes := s.disputes.filter fun e => e.ticket != t.number,
                          lanes := if (s.lane t.lane).holder = some (.ticket t.number) then
                              s.lanes.set t.lane { s.lane t.lane with holder := none }
                            else s.lanes }) [2, 0]))))
  ∧ (∀ (ticket delivered teller : Nat) (s : State), s.frameBegun →
      let refused (e : Status) : Prop := exec (.resolve ticket delivered teller) s = s.refusedWith e
      (s.wall.service = false → refused .notInService)
      ∧ (s.wall.service = true → (teller = 0 ∨ 2 < teller ∨ ticket = 0 ∨ 9999 < ticket) → refused .range)
      ∧ (s.wall.service = true → 1 ≤ teller → teller ≤ 2 → 1 ≤ ticket → ticket ≤ 9999 →
          (s.ticket ticket = none → refused .notFound)
          ∧ (∀ t e, s.ticket ticket = some t → t.body = .envelope e → refused .badState)
          ∧ (∀ t k, s.ticket ticket = some t → t.body = .intake k → refused .badState)))

/-! ### Alarms and wall modes (chapter 6) -/

/-- (a) ALARM ACK (R149): RANGE above 22, NOT_FOUND with no record for the source, BAD_STATE for an ACKED one; a RAISED
record becomes ACKED with its current class alone, its times raised and pattern kept, and a STANDING one is retired. (b)
RESUME (R155): BAD_STATE outside LOCKDOWN, LOCKED while a record has LOCKDOWN among its classes; taken, LOCKDOWN is
cleared, ALARM is placed, and the desired values are formed anew. -/
def Obligations.AlarmAckAndResume : Prop :=
  (∀ (n : Nat) (s : State), s.frameBegun →
      (22 < n → exec (.alarmAck n) s = s.refusedWith .range)
      ∧ (n ≤ 22 → s.alarmRecord n = none → exec (.alarmAck n) s = s.refusedWith .notFound)
      ∧ ∀ r, n ≤ 22 → s.alarmRecord n = some r →
          (r.state = .acked → exec (.alarmAck n) s = s.refusedWith .badState)
          ∧ (r.state = .raised → ∃ u, exec (.alarmAck n) s = .next u ∧ u.port.held = some ⟨.ok, []⟩
              ∧ u.alarms.records = putByKey AlarmRecord.key
                  { r with state := .acked, classes := ClassSet.empty.add r.current } s.alarms.records
              ∧ u.alarms.lockdown = s.alarms.lockdown ∧ u.reasons.alarm = true)
          ∧ (r.state = .standing → ∃ u, exec (.alarmAck n) s = .next u ∧ u.port.held = some ⟨.ok, []⟩
              ∧ u.alarms.records = s.alarms.records.filter (fun x => x.key != n)
              ∧ u.alarms.lockdown = s.alarms.lockdown ∧ u.reasons.alarm = true))
  ∧ (∀ s : State, s.frameBegun →
       exec .resume s =
         if ¬ s.alarms.lockdown then s.refusedWith .badState
         else if s.alarms.records.any (fun r => r.classes.lockdown) then s.refusedWith .locked
         else
           State.answeredOk
             (State.reform { s with alarms := { s.alarms with lockdown := false }, reasons := s.reasons.add .alarm }) [])

/-- An alarm record follows its source. (a) A source of 1 to 22 that its owner hands as active takes its class setting, and
as inactive NONE; what is no change hands nothing (R143, R144). With class NONE no record is made; else the record is made
in RAISED with that class, or a STANDING one is raised again with the class added and times raised one more (R146).
LOCKDOWN is entered when the class taken is LOCKDOWN (R153). (b) A source handed as inactive leaves a RAISED record
STANDING and retires an ACKED one (R148). (c) INPUT_SAMPLE that changes the pattern, for the LOCAL source and its class in
the table (R142, R147, R148): the record is made or raised again with the pattern, changed in place while the class is
not NONE before and after, with an ACKED one RAISED again by a class above all of its classes, and left STANDING or
retired when the class is NONE; LOCKDOWN is entered when the record takes it into its classes. In each, the entry of
LOCKDOWN takes the picker that waits for the D gate to PAUSED, sends the note that waits there to the tray, and asks close
of every presentation (R68, R87, R115, R153); and DURESS, set by the change or held through it, claims the duress marks (R33,
R156; that a change which clears DURESS claims none is model's choice, log entry 36). -/
def Obligations.AlarmRecordsFollowTheirSources : Prop :=
  (∀ (o : Owned) (s : State),
      let c := s.params.sourceClasses.get o
      let u := s.hand o true
      let old := s.alarmRecord (AlarmSource.owned o).number
      ((s.alarms.sources.get o).active = true → u = s)
      ∧ ((s.alarms.sources.get o).active = false →
          u.alarms.sources = s.alarms.sources.set o ⟨true, c⟩ ∧ s.locksDownWith u ∧ s.claimsMarks u
          ∧ u.alarms.lockdown = (s.alarms.lockdown || decide (c = .lockdown))
          ∧ (c = .none → u.alarms.records = s.alarms.records ∧ u.reasons = s.reasons)
          ∧ (c ≠ .none → old = none →
              u.reasons.alarm = true
              ∧ u.alarms.records = putByKey AlarmRecord.key
                  { source := .owned o, state := .raised,
                    classes := ⟨decide (c = .notice), decide (c = .hold), decide (c = .lockdown), decide (c = .duress)⟩,
                    current := c, timesRaised := 1, pattern := none } s.alarms.records)
          ∧ (∀ r, c ≠ .none → old = some r → r.state = .standing → r.pattern = none →
              u.reasons.alarm = true
              ∧ u.alarms.records = putByKey AlarmRecord.key
                  { r with state := .raised, classes := r.classes.add c, current := c,
                           timesRaised := min 255 (r.timesRaised + 1) } s.alarms.records)))
  ∧ (∀ (o : Owned) (s : State),
      let u := s.hand o false
      let old := s.alarmRecord (AlarmSource.owned o).number
      ((s.alarms.sources.get o).active = false → u = s)
      ∧ ((s.alarms.sources.get o).active = true →
          u.alarms.sources = s.alarms.sources.set o ⟨false, .none⟩ ∧ u.alarms.lockdown = s.alarms.lockdown
          ∧ s.locksDownWith u ∧ s.claimsMarks u
          ∧ (old = none → u.alarms.records = s.alarms.records)
          ∧ (∀ r, old = some r → r.state = .raised →
              u.alarms.records =
                putByKey AlarmRecord.key { r with state := .standing, current := .none } s.alarms.records)
          ∧ (∀ r, old = some r → r.state = .acked →
              u.alarms.records = s.alarms.records.filter fun x => x.key != r.key)))
  ∧ (∀ (x y z : BitVec 6) (rest : List (BitVec 6)) (s : State), s.alarms.samples = y :: z :: rest →
      let pattern := (x &&& y) ||| (x &&& z) ||| (y &&& z)
      let now := s.params.classTable.getD pattern.toNat .none
      pattern ≠ s.alarms.pattern →
      ∃ u, exec (.inputSample x) s = .next u
        ∧ s.localFollows u pattern now ∧ s.locksDownWith u ∧ s.claimsMarks u)

/-- INPUT_SAMPLE (R141): the last three samples are kept; once there are three, each judged level is the one at least
two of them hold. A sample that changes no judged level changes nothing else; one that does changes the pattern. -/
def Obligations.InputsAreJudgedByMajority : Prop :=
  ∀ (x y z : BitVec 6) (rest : List (BitVec 6)) (s : State), s.alarms.samples = y :: z :: rest →
    ∃ u, exec (.inputSample x) s = .next u ∧ u.alarms.samples = [x, y, z]
      ∧ (∀ i, u.alarms.pattern.getLsbD i =
          (x.getLsbD i && y.getLsbD i || x.getLsbD i && z.getLsbD i || y.getLsbD i && z.getLsbD i))
      ∧ (u.alarms.pattern = s.alarms.pattern →
          u = State.reform { s with alarms := { s.alarms with samples := [x, y, z] } })

/-! ### Count points (chapter 7) -/

/-- COUNT POINT (R160, R161): NOT_IN_SERVICE in SETUP. In IDLE a count point with cause REQUESTED begins in QUIESCING
with its timer and its failures emptied: a picker that waits for the D gate is PAUSED with its claim withdrawn, and a note
that waits there goes to the tray, while the presentations are as they were (R68, R115, R163). In QUIESCING the cause
joins it; in BALANCING the cause goes to the pending one. -/
def Obligations.CountPointIsRequested : Prop :=
  ∀ s : State, s.frameBegun →
    (s.wall.service = false → exec .countPoint s = s.refusedWith .notInService)
    ∧ (s.wall.service = true → s.countPoint.state = .idle → ∃ u, exec .countPoint s = .next u
        ∧ u.port.held = some ⟨.ok, [1, 1]⟩
        ∧ u.countPoint = { s.countPoint with
            state := .quiescing, causes := ⟨true, false, false, false⟩, timer := some s.params.quiesceTimeout,
            failures := .empty, release := .empty }
        ∧ s.withdrawsClaims u ∧ u.presentations = s.presentations
        ∧ u.tickets = s.tickets ∧ u.slots.mapWith (fun _ x => { x with committed := 0 })
            = s.slots.mapWith (fun _ x => { x with committed := 0 }))
    ∧ (s.wall.service = true → s.countPoint.state = .quiescing →
        exec .countPoint s =
          State.answeredOk
            (State.reform { s with countPoint := { s.countPoint with causes := s.countPoint.causes.add .requested } })
            [1, 1])
    ∧ (s.wall.service = true → s.countPoint.state = .balancing →
        exec .countPoint s =
          State.answeredOk
            (State.reform { s with countPoint := { s.countPoint with
              pending := true, pendingCauses := s.countPoint.pendingCauses.add .requested } })
            [2, 2])

/-- (a) QUIET_FOUND in QUIESCING with the wall quiet and a position to write back (R164, R166): the state is BALANCING
without its timer, the write-back set is every position IN_SERVICE, SUSPENDED or RELEASE_PENDING, and the balance record
is formed from the records as they stand and held; a count write-back with the next number is asked of the Tag Link for each
of them, in the order A to D behind what is queued there, and the one that takes the line writes the image of R40. With no
position to write back the count point is published at once, CLEAN when no write-back has failed (R167), and every figure
since the last publish restarts from 0. While the wall is not quiet, or in another state, nothing changes (model's
choice, log entry 7). (b) QUIESCE_TIMER_EXPIRY in QUIESCING publishes TIMED_OUT (R165, R168): the balance
record carries the next number, the causes, the not-at-rest list and the slots as they stand; every cassette's base is
its count with picked out and stored in 0; the settled counter is 0, BALANCE is placed, every figure since the last publish
restarts from 0, and the wall enters SERVICE when START is among the causes. In both, a pending count point begins at once
(R161). In another state nothing changes (model's choice, log entry 7). -/
def Obligations.CountPointBalancesOrTimesOut : Prop :=
  (∀ s : State,
      let rest : Bool :=
        decide (s.picker.state ≠ .feeding) && decide (s.picker.state ≠ .waitingGate) && decide (s.route = .free)
          && decide (s.staging.purge ≠ .running) && decide (s.gate.granted = none)
          && !(decide (s.intakeRec.state = .placing)
                && decide (s.intakeRec.destination = some .cassetteD ∨ s.intakeRec.destination = some .vault))
      (s.countPoint.state ≠ .quiescing ∨ rest = false → exec .quietFound s = .next s)
      ∧ (s.countPoint.state = .quiescing → rest = true →
          ∀ q, ((s.slot q).state = .inService ∨ (s.slot q).state = .suspended ∨ (s.slot q).state = .releasePending) →
          ∃ u b, exec .quietFound s = .next u ∧ u.countPoint.state = .balancing ∧ u.countPoint.timer = none
            ∧ u.countPoint.failures = s.countPoint.failures
            ∧ (∀ p, u.countPoint.writeBack.get p = decide ((s.slot p).state = .inService ∨ (s.slot p).state = .suspended
                ∨ (s.slot p).state = .releasePending))
            ∧ u.forming = some b ∧ b.slots = s.slots ∧ b.retiring = s.retiring ∧ b.reject = s.rejectVault
            ∧ b.intake = s.intakeVault ∧ b.openTickets = s.tickets.length ∧ b.causes = s.countPoint.causes
            ∧ b.heldNotes = s.heldNotes ∧ b.unresolved = s.unresolvedNotes ∧ u.balance = s.balance
            ∧ u.tickets = s.tickets ∧ u.countPoint.number = s.countPoint.number
            ∧ (let number := if s.countPoint.number < 65535 then s.countPoint.number + 1 else 1
               let line (v : State) : List Transfer := (v.tagLink.inFlight.map InFlight.transfer).toList ++ v.tagLink.queue
               ((∀ p, s.writeBackOf p = false) →
                  line u = line s ++
                    (Pos.all.filter u.countPoint.writeBack.get).map fun p => ⟨.countWriteBack number, p⟩)
               ∧ ∀ x new k, u.tagLink.inFlight = some ⟨x, new⟩ → s.tagLink.inFlight = none → s.tagLink.queue = [] →
                  (s.slot x.position).identity = some k → writesTag x.kind (s.slot x.position).count k.image new))
      ∧ (s.countPoint.state = .quiescing → rest = true →
          (∀ q, (s.slot q).state ≠ .inService ∧ (s.slot q).state ≠ .suspended ∧ (s.slot q).state ≠ .releasePending) →
          ∃ u b, exec .quietFound s = .next u
            ∧ s.publishes u s.slots b (if s.countPoint.failures = .empty then .clean else .tagWriteFailed)
                s.countPoint.failures .empty s.countPoint.release
            ∧ s.startsPeriod u ∧ u.rejectVault.emptied = ⟨0, 0⟩ ∧ u.intakeVault.emptied = ⟨0, 0⟩
            ∧ b.slots = s.slots ∧ b.retiring = s.retiring ∧ b.heldNotes = s.heldNotes ∧ b.causes = s.countPoint.causes))
  ∧ (∀ s : State,
      (s.countPoint.state ≠ .quiescing → exec .quiesceTimerExpiry s = .next s)
      ∧ (s.countPoint.state = .quiescing →
          ∃ u b, exec .quiesceTimerExpiry s = .next u
            ∧ s.publishes u s.slots b .timedOut s.countPoint.failures s.countPoint.written s.countPoint.release
            ∧ s.startsPeriod u ∧ u.rejectVault.emptied = ⟨0, 0⟩ ∧ u.intakeVault.emptied = ⟨0, 0⟩
            ∧ b.causes = s.countPoint.causes ∧ b.slots = s.slots ∧ b.retiring = s.retiring
            ∧ b.reject = s.rejectVault ∧ b.intake = s.intakeVault ∧ b.heldNotes = s.heldNotes
            ∧ b.notAtRest = ⟨decide (s.picker.state = .feeding ∨ s.picker.state = .waitingGate), decide (s.route ≠ .free),
                decide (s.staging.purge = .running), s.placingNote⟩
            ∧ (∀ p, (s.slot p).state.live = true →
                (u.slot p).base = (s.slot p).count ∧ (u.slot p).count = (s.slot p).count ∧ (u.slot p).pickedOut = 0
                ∧ (u.slot p).storedIn = 0)
            ∧ (∀ p, (s.slot p).state = .releasePending → s.countPoint.release.get p = true →
                s.countPoint.written.get p = false → (u.slot p).state = (s.slot p).prior.getD .inService)))

/-! ### Configuration and reset (chapter 8) -/

/-- (a) CONFIGURE (R181): the items are checked one after the other, each by the three steps, and the first check that
fails refuses the whole request: RANGE for a value out of its range, BAD_STATE for a parameter of SETUP alone in
SERVICE, and BUSY for one while the wall starts. That all steps of one item come before the first of the next is DEDUCED
(log entry 22). (b) CONFIGURE of items that pass applies them all: the parameters are those with each item in place, in
order, and one that names the lane count sets its mark and waits for the next frame. At once (R182): a changed
denomination table judges the positions again (R43); the low flags are formed anew, and a changed threshold may suspend
(R46, R49); a changed class table gives the LOCAL source the class of its pattern (R157); a claim waiting for D that is
no longer fit is answered (R60), before a changed periodic count that the settled counter has reached requests PERIODIC
(R162; that order is model's choice, log entry 37). (c) The ranges of R182, with the parameters changeable in SETUP
alone; 0 and 1 for auto-envelope are model's choice (log entry 40). (d) What an item in its range sets: its own
parameter, or its run of table entries (R181, R190; a denomination value of 0 is no entry, log entry 22). -/
def Obligations.ConfigureChecksThenApplies : Prop :=
  (∀ (before after : List ConfigItem) (x : ConfigItem) (s : State), s.frameBegun →
      (∀ y ∈ before, itemInRange y = true ∧ (setupOnly y = false ∨ s.wall.service = false ∧ s.wall.starting = false)) →
      (itemInRange x = false → exec (.configure (before ++ x :: after)) s = s.refusedWith .range)
      ∧ (itemInRange x = true → setupOnly x = true → s.wall.service = true →
          exec (.configure (before ++ x :: after)) s = s.refusedWith .badState)
      ∧ (itemInRange x = true → setupOnly x = true → s.wall.service = false → s.wall.starting = true →
          exec (.configure (before ++ x :: after)) s = s.refusedWith .busy))
  ∧ (∀ (items : List ConfigItem) (s : State), s.frameBegun → items ≠ [] →
      (∀ y ∈ items, itemInRange y = true ∧ (setupOnly y = false ∨ s.wall.service = false ∧ s.wall.starting = false)) →
      ∃ u, exec (.configure items) s = .next u ∧ u.port.held = some ⟨.ok, []⟩
        ∧ u.params = items.foldl Params.apply s.params
        ∧ u.wall.laneCountSet = (s.wall.laneCountSet || items.any namesLaneCount)
        ∧ u.ring.pendingCount = (if items.any namesLaneCount then some u.params.laneCount else s.ring.pendingCount)
        ∧ u.wall.service = s.wall.service ∧ u.wall.starting = s.wall.starting
        ∧ (∀ p,
            let x := s.slot p
            let low := x.state.live && decide (x.count ≤ u.params.lowLevels.get p)
            (u.params.denominations = s.params.denominations →
                u.slot p = { x with
                  low := low, committed := u.committedAt p,
                  state := if x.state = .inService ∧ u.params.suspendThreshold ≠ s.params.suspendThreshold
                      ∧ u.params.suspendThreshold ≤ windowFails x.window then .suspended else x.state })
            ∧ (u.params.denominations ≠ s.params.denominations →
                (∀ k, x.identity = some k → x.state ≠ .absent → x.state ≠ .identifying → x.state ≠ .releasePending →
                  u.params.suspendThreshold = s.params.suspendThreshold →
                  let tag := Identity.ofTag k.image
                  let listed : Bool :=
                    match Code.ofNat? tag.code with
                    | some c => decide (u.params.denominations.get c = some tag.noteValue)
                    | none => false
                  let refused (why : RefusedReason) : Slot :=
                    { Slot.empty with
                      state := .refused, refused := some why, identity := some tag, committed := u.committedAt p }
                  (x.state ≠ .refused → listed = true →
                      u.slot p = { x with
                        identity := some { k with noteValue := tag.noteValue }, low := low, committed := u.committedAt p })
                  ∧ (x.state ≠ .refused → listed = false → u.slot p = refused .denomination)
                  ∧ (x.state = .refused → (x.refused ≠ some .denomination ∨ listed = false) →
                      u.slot p = { x with low := false, committed := u.committedAt p })
                  ∧ (x.state = .refused → x.refused = some .denomination → listed = true →
                      if tag.capacity < 100 ∨ 3000 < tag.capacity ∨ tag.capacity < tagBalance k.image then
                        u.slot p = refused .capacity
                      else if tag.thickness < 50 ∨ 250 < tag.thickness ∨ tag.length < 100 ∨ 200 < tag.length then
                        u.slot p = refused .gaugeReference
                      else
                        (u.alarms.sources.cassetteTamper.get p).active = false
                        ∧ u.slot p = { Slot.empty with
                            state := .inService, identity := some tag, base := tagBalance k.image,
                            count := tagBalance k.image, committed := u.committedAt p,
                            low := decide (tagBalance k.image ≤ u.params.lowLevels.get p),
                            depleted := if tagBalance k.image = 0 then .zero else .clear,
                            unverified := tagOpenMark k.image, markOwed := !tagOpenMark k.image }))
                ∧ ((x.identity = none ∨ x.state = .absent ∨ x.state = .identifying ∨ x.state = .releasePending) →
                    u.params.suspendThreshold = s.params.suspendThreshold →
                    u.slot p = { x with low := low, committed := u.committedAt p })))
        ∧ (u.params.denominations = s.params.denominations →
            (u.params.classTable = s.params.classTable → u.alarms = s.alarms)
            ∧ (u.params.classTable ≠ s.params.classTable →
                s.localFollows u s.alarms.pattern (u.params.classTable.getD s.alarms.pattern.toNat .none)))
        ∧ (¬ u.takesStores → s.redecidesWaiting u (u.alarms.lockdown || decide (s.countPoint.state ≠ .idle)))
        ∧ (u.alarms.lockdown = s.alarms.lockdown →
            ((u.slot .d).state = .suspended → s.haltsWaiting u .suspended)
            ∧ ((u.slot .d).state = .refused → s.haltsWaiting u .notReady))
        ∧ (let periodic : Prop := s.wall.service = true ∧ u.params.periodicCount ≠ s.params.periodicCount
              ∧ 1 ≤ u.params.periodicCount ∧ u.params.periodicCount ≤ s.countPoint.settled
           (¬ periodic → u.countPoint = s.countPoint)
           ∧ (periodic → s.countPoint.state = .idle → u.countPoint = { s.countPoint with
                state := .quiescing, causes := ⟨false, false, true, false⟩, timer := some u.params.quiesceTimeout,
                failures := .empty, release := .empty })
           ∧ (periodic → s.countPoint.state = .quiescing →
                u.countPoint = { s.countPoint with causes := s.countPoint.causes.add .periodic })
           ∧ (periodic → s.countPoint.state = .balancing → u.countPoint = { s.countPoint with
                pending := true, pendingCauses := s.countPoint.pendingCauses.add .periodic })))
  ∧ ((∀ n : Nat,
        (itemInRange (.laneCount n) = true ↔ 1 ≤ n ∧ n ≤ 8) ∧ (itemInRange (.dualLimit n) = true ↔ n ≤ 999999)
        ∧ (itemInRange (.approvalWindow n) = true ↔ 30 ≤ n ∧ n ≤ 600)
        ∧ (itemInRange (.takeTimeout n) = true ↔ 10 ≤ n ∧ n ≤ 250)
        ∧ (itemInRange (.lostLaneLimit n) = true ↔ 30 ≤ n ∧ n ≤ 600)
        ∧ (itemInRange (.quiesceTimeout n) = true ↔ 5 ≤ n ∧ n ≤ 60)
        ∧ (itemInRange (.periodicCount n) = true ↔ n ≤ 250) ∧ (itemInRange (.busyLevel n) = true ↔ 1 ≤ n ∧ n ≤ 32)
        ∧ (itemInRange (.maxRejects n) = true ↔ 1 ≤ n ∧ n ≤ 50)
        ∧ (itemInRange (.suspendThreshold n) = true ↔ 2 ≤ n ∧ n ≤ 8)
        ∧ (itemInRange (.recycling n) = true ↔ n ≤ 1) ∧ (itemInRange (.autoEnvelope n) = true ↔ n ≤ 1)
        ∧ itemInRange (.unnamed n) = false
        ∧ (∀ p, itemInRange (.lowLevel p n) = true ↔ 1 ≤ p ∧ p ≤ 4 ∧ n ≤ 500)
        ∧ (∀ values, itemInRange (.denominations n values) = true ↔
            1 ≤ n ∧ n ≤ 8 ∧ n + values.length ≤ 9 ∧ ∀ v ∈ values, v ≤ 10000)
        ∧ (∀ classes, itemInRange (.classTable n classes) = true ↔
            n ≤ 63 ∧ n + classes.length ≤ 64 ∧ (∀ c ∈ classes, c ≤ 4) ∧ (n = 0 → classes.headD 0 = 0))
        ∧ (∀ classes, itemInRange (.sourceClasses n classes) = true ↔
            1 ≤ n ∧ n ≤ 22 ∧ n + classes.length ≤ 23 ∧ ∀ c ∈ classes, c ≤ 4))
    ∧ (∀ x : ConfigItem, setupOnly x = true ↔
        (∃ n, x = .laneCount n) ∨ (∃ n values, x = .denominations n values) ∨ (∃ n classes, x = .classTable n classes)
          ∨ ∃ n classes, x = .sourceClasses n classes))
  ∧ (∀ (q : Params) (n : Nat),
      q.apply (.laneCount n) = { q with laneCount := n } ∧ q.apply (.dualLimit n) = { q with dualLimit := n }
      ∧ q.apply (.approvalWindow n) = { q with approvalWindow := n }
      ∧ q.apply (.takeTimeout n) = { q with takeTimeout := n }
      ∧ q.apply (.lostLaneLimit n) = { q with lostLaneLimit := n }
      ∧ q.apply (.quiesceTimeout n) = { q with quiesceTimeout := n }
      ∧ q.apply (.periodicCount n) = { q with periodicCount := n }
      ∧ q.apply (.busyLevel n) = { q with busyLevel := n } ∧ q.apply (.maxRejects n) = { q with maxRejects := n }
      ∧ q.apply (.suspendThreshold n) = { q with suspendThreshold := n }
      ∧ q.apply (.recycling n) = { q with recycling := decide (n = 1) }
      ∧ q.apply (.autoEnvelope n) = { q with autoEnvelope := decide (n = 1) }
      ∧ (∀ p : Pos, q.apply (.lowLevel p.number n) = { q with lowLevels := q.lowLevels.set p n })
      ∧ (∀ values : List Nat, itemInRange (.denominations n values) = true →
          ∃ table : PerCode (Option Nat), q.apply (.denominations n values) = { q with denominations := table }
            ∧ ∀ c : Code, table.get c =
                if n ≤ c.number ∧ c.number < n + values.length then
                  (if values.getD (c.number - n) 0 = 0 then none else some (values.getD (c.number - n) 0))
                else q.denominations.get c)
      ∧ (∀ classes : List Nat, itemInRange (.classTable n classes) = true → q.classTable.length = 64 →
          ∃ table : List AlarmClass, q.apply (.classTable n classes) = { q with classTable := table }
            ∧ table.length = 64
            ∧ ∀ i, i < 64 → (table.getD i .none).rank =
                if n ≤ i ∧ i < n + classes.length then classes.getD (i - n) 0 else (q.classTable.getD i .none).rank)
      ∧ (∀ classes : List Nat, itemInRange (.sourceClasses n classes) = true →
          ∃ table : PerOwned AlarmClass, q.apply (.sourceClasses n classes) = { q with sourceClasses := table }
            ∧ ∀ o : Owned,
                let k := (AlarmSource.owned o).number
                (table.get o).rank =
                  if n ≤ k ∧ k < n + classes.length then classes.getD (k - n) 0 else (q.sourceClasses.get o).rank))

/-- FULL_RESET (R185 and the reset values of each chapter): no ticket, an empty pick queue, the next number 1, every
parameter at its default, the wall in SETUP with its marks clear, no wall mode set, the count point IDLE with number 0 and
no balance record, the port IDLE with nothing held; a position with a cassette is IDENTIFYING and the others ABSENT. The
alarm table is empty but for the record of each vault full source whose vault is out, which is made at once (R145). The
commands that wait stay (model's choice, log entry 6). -/
def Obligations.FullResetLeavesTheResetValues : Prop :=
  ∀ (a b c d reject intake : Bool) (s : State), ∃ t, exec (.fullReset a b c d reject intake) s = .next t
    ∧ t.tickets = [] ∧ t.pickQueue = [] ∧ t.nextNumber = 1 ∧ t.params = Params.default
    ∧ t.wall = ⟨false, false, false⟩ ∧ t.countPoint = CountPoint.reset ∧ t.balance = none ∧ t.port = Port.reset
    ∧ t.changeSet = [] ∧ t.approvals = [] ∧ t.disputes = [] ∧ t.retracts = [] ∧ t.route = .free
    ∧ t.alarms.lockdown = false ∧ t.alarms.hold = false ∧ t.alarms.duress = false ∧ t.alarms.samples = []
    ∧ (t.slot .a).state = (if a then .identifying else .absent) ∧ (t.slot .b).state = (if b then .identifying else .absent)
    ∧ (t.slot .c).state = (if c then .identifying else .absent) ∧ (t.slot .d).state = (if d then .identifying else .absent)
    ∧ t.rejectVault.present = reject ∧ t.intakeVault.present = intake
    ∧ t.alarms.sources.rejectFull.active = !reject ∧ t.alarms.sources.intakeFull.active = !intake
    ∧ t.alarms.records =
        (if reject then [] else
          [⟨.owned .rejectFull, .raised, ⟨true, false, false, false⟩, .notice, 1, none⟩])
        ++ (if intake then [] else
          [⟨.owned .intakeFull, .raised, ⟨true, false, false, false⟩, .notice, 1, none⟩])
    ∧ (∀ l, (t.lane l).link = .disabled ∧ (t.lane l).binVerified = false ∧ (t.lane l).lastEvent = none)
    ∧ t.sweepPending = true ∧ t.sweepDone = false ∧ t.intakeRec = IntakeRec.idleRec ∧ t.staging = Staging.empty
    ∧ t.pending = s.pending

/-! ### Invariants that every step keeps -/

/-- The formed values stand as the model forms them after every step (R17, R22, R86, R97, R124), for all eight lanes in
every link state, DISABLED ones too (DEDUCED, log entry 15). The rows by which they are formed are stated in
`Obligations.FormedValuesFollowTheirRows`. -/
def Obligations.StepKeepsTheFormedValues : Prop :=
  ∀ s t : State, s.formed = true → step s = .next t → t.formed = true

/-- At most 32 tickets are held, each under its own number from 1 to 9999 (R1, R4), and the change set, the dispute list
and the alarm table are in ascending order with no key twice (R32, R135, R145). That the ticket table and the held first
approvals, to which R1 and R177 give no order, are kept ascending too is the model's choice (log entries 23 and 32). -/
def Obligations.StepKeepsTheTablesOrdered : Prop :=
  ∀ s t : State, s.tablesOrdered → step s = .next t → t.tablesOrdered

/-- (a) The pick queue holds exactly the DISPENSE tickets in QUEUED, each once (R20). (b) At most one ticket of each
lane is in PICKING, PICK_HALTED, PURGING, STAGED, ROUTING, PRESENTED or RETRACTING (R21). -/
def Obligations.StepKeepsTheQueueAndTheLanes : Prop :=
  (∀ s t : State, s.tablesOrdered → s.queueRight → step s = .next t → t.queueRight)
  ∧ (∀ s t : State, s.tablesOrdered → s.lanesHeldOnce → step s = .next t → t.lanesHeldOnce)

/-- At most one retract for each lane is in the list or in flight (R65, R83). -/
def Obligations.StepKeepsOneRetractPerLane : Prop :=
  ∀ s t : State, s.retractsOnce → step s = .next t → t.retractsOnce

/-- (a) The count of every slot and retiring copy equals its base plus stored in less picked out (R34, R168). (b) Each
figure of the reject vault stays in its range (R55). -/
def Obligations.StepKeepsTheFigures : Prop :=
  (∀ s t : State, s.slotsCount → step s = .next t → t.slotsCount)
  ∧ (∀ s t : State, s.rejectVault.inRange → step s = .next t → t.rejectVault.inRange)

/-- (a) HOLD and DURESS are set exactly while a record has that class among its classes (R152, R154). (b) Nothing but
RESUME and a full reset leaves LOCKDOWN: every other command keeps it (R153, R155). -/
def Obligations.StepKeepsTheWallModes : Prop :=
  (∀ s t : State, s.modesFormed → step s = .next t → t.modesFormed)
  ∧ (∀ (i : Instr) (s t : State), s.alarms.lockdown = true → exec i s = .next t → i ≠ .resume →
      (∀ a b c d r k, i ≠ .fullReset a b c d r k) → t.alarms.lockdown = true)

/-- Right after reset every invariant holds. -/
def Obligations.ResetMeetsTheInvariants : Prop :=
  State.reset.formed = true ∧ State.reset.tablesOrdered ∧ State.reset.queueRight ∧ State.reset.lanesHeldOnce
    ∧ State.reset.retractsOnce ∧ State.reset.slotsCount ∧ State.reset.rejectVault.inRange ∧ State.reset.modesFormed
end

