-- ==== Sys2Proof/Laws/State.lean ====
section
/-! SUPPORT. One lemma for each field of State under each named update, true by rfl, so that no proof unfolds a record update. -/

namespace Sys2Proof.Machine

variable (s : State)

/-! ### `State.place` -/

@[simp] theorem State.place_tickets (r : Reason) : (s.place r).tickets = s.tickets := rfl
@[simp] theorem State.place_pickQueue (r : Reason) : (s.place r).pickQueue = s.pickQueue := rfl
@[simp] theorem State.place_nextNumber (r : Reason) : (s.place r).nextNumber = s.nextNumber := rfl
@[simp] theorem State.place_nextStamp (r : Reason) : (s.place r).nextStamp = s.nextStamp := rfl
@[simp] theorem State.place_slots (r : Reason) : (s.place r).slots = s.slots := rfl
@[simp] theorem State.place_retiring (r : Reason) : (s.place r).retiring = s.retiring := rfl
@[simp] theorem State.place_carries (r : Reason) : (s.place r).carries = s.carries := rfl
@[simp] theorem State.place_tagLink (r : Reason) : (s.place r).tagLink = s.tagLink := rfl
@[simp] theorem State.place_rejectVault (r : Reason) : (s.place r).rejectVault = s.rejectVault := rfl
@[simp] theorem State.place_intakeVault (r : Reason) : (s.place r).intakeVault = s.intakeVault := rfl
@[simp] theorem State.place_gate (r : Reason) : (s.place r).gate = s.gate := rfl
@[simp] theorem State.place_picker (r : Reason) : (s.place r).picker = s.picker := rfl
@[simp] theorem State.place_staging (r : Reason) : (s.place r).staging = s.staging := rfl
@[simp] theorem State.place_sgate (r : Reason) : (s.place r).sgate = s.sgate := rfl
@[simp] theorem State.place_route (r : Reason) : (s.place r).route = s.route := rfl
@[simp] theorem State.place_retracts (r : Reason) : (s.place r).retracts = s.retracts := rfl
@[simp] theorem State.place_presentations (r : Reason) : (s.place r).presentations = s.presentations := rfl
@[simp] theorem State.place_sweepPending (r : Reason) : (s.place r).sweepPending = s.sweepPending := rfl
@[simp] theorem State.place_sweepDone (r : Reason) : (s.place r).sweepDone = s.sweepDone := rfl
@[simp] theorem State.place_handlings (r : Reason) : (s.place r).handlings = s.handlings := rfl
@[simp] theorem State.place_intakeRec (r : Reason) : (s.place r).intakeRec = s.intakeRec := rfl
@[simp] theorem State.place_headSent (r : Reason) : (s.place r).headSent = s.headSent := rfl
@[simp] theorem State.place_lanes (r : Reason) : (s.place r).lanes = s.lanes := rfl
@[simp] theorem State.place_ring (r : Reason) : (s.place r).ring = s.ring := rfl
@[simp] theorem State.place_disputes (r : Reason) : (s.place r).disputes = s.disputes := rfl
@[simp] theorem State.place_alarms (r : Reason) : (s.place r).alarms = s.alarms := rfl
@[simp] theorem State.place_countPoint (r : Reason) : (s.place r).countPoint = s.countPoint := rfl
@[simp] theorem State.place_balance (r : Reason) : (s.place r).balance = s.balance := rfl
@[simp] theorem State.place_forming (r : Reason) : (s.place r).forming = s.forming := rfl
@[simp] theorem State.place_port (r : Reason) : (s.place r).port = s.port := rfl
@[simp] theorem State.place_reasons (r : Reason) : (s.place r).reasons = s.reasons.add r := rfl
@[simp] theorem State.place_changeSet (r : Reason) : (s.place r).changeSet = s.changeSet := rfl
@[simp] theorem State.place_approvals (r : Reason) : (s.place r).approvals = s.approvals := rfl
@[simp] theorem State.place_params (r : Reason) : (s.place r).params = s.params := rfl
@[simp] theorem State.place_wall (r : Reason) : (s.place r).wall = s.wall := rfl
@[simp] theorem State.place_clock (r : Reason) : (s.place r).clock = s.clock := rfl
@[simp] theorem State.place_pending (r : Reason) : (s.place r).pending = s.pending := rfl

/-! ### `State.putTicket` -/

@[simp] theorem State.putTicket_tickets (t : Ticket) :
    (s.putTicket t).tickets = putByKey Ticket.number t s.tickets := rfl
@[simp] theorem State.putTicket_pickQueue (t : Ticket) : (s.putTicket t).pickQueue = s.pickQueue := rfl
@[simp] theorem State.putTicket_nextNumber (t : Ticket) : (s.putTicket t).nextNumber = s.nextNumber := rfl
@[simp] theorem State.putTicket_nextStamp (t : Ticket) : (s.putTicket t).nextStamp = s.nextStamp := rfl
@[simp] theorem State.putTicket_slots (t : Ticket) : (s.putTicket t).slots = s.slots := rfl
@[simp] theorem State.putTicket_retiring (t : Ticket) : (s.putTicket t).retiring = s.retiring := rfl
@[simp] theorem State.putTicket_carries (t : Ticket) : (s.putTicket t).carries = s.carries := rfl
@[simp] theorem State.putTicket_tagLink (t : Ticket) : (s.putTicket t).tagLink = s.tagLink := rfl
@[simp] theorem State.putTicket_rejectVault (t : Ticket) : (s.putTicket t).rejectVault = s.rejectVault := rfl
@[simp] theorem State.putTicket_intakeVault (t : Ticket) : (s.putTicket t).intakeVault = s.intakeVault := rfl
@[simp] theorem State.putTicket_gate (t : Ticket) : (s.putTicket t).gate = s.gate := rfl
@[simp] theorem State.putTicket_picker (t : Ticket) : (s.putTicket t).picker = s.picker := rfl
@[simp] theorem State.putTicket_staging (t : Ticket) : (s.putTicket t).staging = s.staging := rfl
@[simp] theorem State.putTicket_sgate (t : Ticket) : (s.putTicket t).sgate = s.sgate := rfl
@[simp] theorem State.putTicket_route (t : Ticket) : (s.putTicket t).route = s.route := rfl
@[simp] theorem State.putTicket_retracts (t : Ticket) : (s.putTicket t).retracts = s.retracts := rfl
@[simp] theorem State.putTicket_presentations (t : Ticket) : (s.putTicket t).presentations = s.presentations := rfl
@[simp] theorem State.putTicket_sweepPending (t : Ticket) : (s.putTicket t).sweepPending = s.sweepPending := rfl
@[simp] theorem State.putTicket_sweepDone (t : Ticket) : (s.putTicket t).sweepDone = s.sweepDone := rfl
@[simp] theorem State.putTicket_handlings (t : Ticket) : (s.putTicket t).handlings = s.handlings := rfl
@[simp] theorem State.putTicket_intakeRec (t : Ticket) : (s.putTicket t).intakeRec = s.intakeRec := rfl
@[simp] theorem State.putTicket_headSent (t : Ticket) : (s.putTicket t).headSent = s.headSent := rfl
@[simp] theorem State.putTicket_lanes (t : Ticket) : (s.putTicket t).lanes = s.lanes := rfl
@[simp] theorem State.putTicket_ring (t : Ticket) : (s.putTicket t).ring = s.ring := rfl
@[simp] theorem State.putTicket_disputes (t : Ticket) : (s.putTicket t).disputes = s.disputes := rfl
@[simp] theorem State.putTicket_alarms (t : Ticket) : (s.putTicket t).alarms = s.alarms := rfl
@[simp] theorem State.putTicket_countPoint (t : Ticket) : (s.putTicket t).countPoint = s.countPoint := rfl
@[simp] theorem State.putTicket_balance (t : Ticket) : (s.putTicket t).balance = s.balance := rfl
@[simp] theorem State.putTicket_forming (t : Ticket) : (s.putTicket t).forming = s.forming := rfl
@[simp] theorem State.putTicket_port (t : Ticket) : (s.putTicket t).port = s.port := rfl
@[simp] theorem State.putTicket_reasons (t : Ticket) : (s.putTicket t).reasons = s.reasons := rfl
@[simp] theorem State.putTicket_changeSet (t : Ticket) : (s.putTicket t).changeSet = s.changeSet := rfl
@[simp] theorem State.putTicket_approvals (t : Ticket) : (s.putTicket t).approvals = s.approvals := rfl
@[simp] theorem State.putTicket_params (t : Ticket) : (s.putTicket t).params = s.params := rfl
@[simp] theorem State.putTicket_wall (t : Ticket) : (s.putTicket t).wall = s.wall := rfl
@[simp] theorem State.putTicket_clock (t : Ticket) : (s.putTicket t).clock = s.clock := rfl
@[simp] theorem State.putTicket_pending (t : Ticket) : (s.putTicket t).pending = s.pending := rfl

/-! ### `State.noteTicket` -/

@[simp] theorem State.noteTicket_tickets (n : Nat) : (s.noteTicket n).tickets = s.tickets := rfl
@[simp] theorem State.noteTicket_pickQueue (n : Nat) : (s.noteTicket n).pickQueue = s.pickQueue := rfl
@[simp] theorem State.noteTicket_nextNumber (n : Nat) : (s.noteTicket n).nextNumber = s.nextNumber := rfl
@[simp] theorem State.noteTicket_nextStamp (n : Nat) : (s.noteTicket n).nextStamp = s.nextStamp := rfl
@[simp] theorem State.noteTicket_slots (n : Nat) : (s.noteTicket n).slots = s.slots := rfl
@[simp] theorem State.noteTicket_retiring (n : Nat) : (s.noteTicket n).retiring = s.retiring := rfl
@[simp] theorem State.noteTicket_carries (n : Nat) : (s.noteTicket n).carries = s.carries := rfl
@[simp] theorem State.noteTicket_tagLink (n : Nat) : (s.noteTicket n).tagLink = s.tagLink := rfl
@[simp] theorem State.noteTicket_rejectVault (n : Nat) : (s.noteTicket n).rejectVault = s.rejectVault := rfl
@[simp] theorem State.noteTicket_intakeVault (n : Nat) : (s.noteTicket n).intakeVault = s.intakeVault := rfl
@[simp] theorem State.noteTicket_gate (n : Nat) : (s.noteTicket n).gate = s.gate := rfl
@[simp] theorem State.noteTicket_picker (n : Nat) : (s.noteTicket n).picker = s.picker := rfl
@[simp] theorem State.noteTicket_staging (n : Nat) : (s.noteTicket n).staging = s.staging := rfl
@[simp] theorem State.noteTicket_sgate (n : Nat) : (s.noteTicket n).sgate = s.sgate := rfl
@[simp] theorem State.noteTicket_route (n : Nat) : (s.noteTicket n).route = s.route := rfl
@[simp] theorem State.noteTicket_retracts (n : Nat) : (s.noteTicket n).retracts = s.retracts := rfl
@[simp] theorem State.noteTicket_presentations (n : Nat) : (s.noteTicket n).presentations = s.presentations := rfl
@[simp] theorem State.noteTicket_sweepPending (n : Nat) : (s.noteTicket n).sweepPending = s.sweepPending := rfl
@[simp] theorem State.noteTicket_sweepDone (n : Nat) : (s.noteTicket n).sweepDone = s.sweepDone := rfl
@[simp] theorem State.noteTicket_handlings (n : Nat) : (s.noteTicket n).handlings = s.handlings := rfl
@[simp] theorem State.noteTicket_intakeRec (n : Nat) : (s.noteTicket n).intakeRec = s.intakeRec := rfl
@[simp] theorem State.noteTicket_headSent (n : Nat) : (s.noteTicket n).headSent = s.headSent := rfl
@[simp] theorem State.noteTicket_lanes (n : Nat) : (s.noteTicket n).lanes = s.lanes := rfl
@[simp] theorem State.noteTicket_ring (n : Nat) : (s.noteTicket n).ring = s.ring := rfl
@[simp] theorem State.noteTicket_disputes (n : Nat) : (s.noteTicket n).disputes = s.disputes := rfl
@[simp] theorem State.noteTicket_alarms (n : Nat) : (s.noteTicket n).alarms = s.alarms := rfl
@[simp] theorem State.noteTicket_countPoint (n : Nat) : (s.noteTicket n).countPoint = s.countPoint := rfl
@[simp] theorem State.noteTicket_balance (n : Nat) : (s.noteTicket n).balance = s.balance := rfl
@[simp] theorem State.noteTicket_forming (n : Nat) : (s.noteTicket n).forming = s.forming := rfl
@[simp] theorem State.noteTicket_port (n : Nat) : (s.noteTicket n).port = s.port := rfl
@[simp] theorem State.noteTicket_reasons (n : Nat) : (s.noteTicket n).reasons = s.reasons.add .tickets := rfl
@[simp] theorem State.noteTicket_changeSet (n : Nat) : (s.noteTicket n).changeSet = addNumber n s.changeSet := rfl
@[simp] theorem State.noteTicket_approvals (n : Nat) : (s.noteTicket n).approvals = s.approvals := rfl
@[simp] theorem State.noteTicket_params (n : Nat) : (s.noteTicket n).params = s.params := rfl
@[simp] theorem State.noteTicket_wall (n : Nat) : (s.noteTicket n).wall = s.wall := rfl
@[simp] theorem State.noteTicket_clock (n : Nat) : (s.noteTicket n).clock = s.clock := rfl
@[simp] theorem State.noteTicket_pending (n : Nat) : (s.noteTicket n).pending = s.pending := rfl

/-! ### `State.leaveQueue` -/

@[simp] theorem State.leaveQueue_tickets (n : Nat) : (s.leaveQueue n).tickets = s.tickets := rfl
@[simp] theorem State.leaveQueue_pickQueue (n : Nat) : (s.leaveQueue n).pickQueue = s.pickQueue.filter (· != n) := rfl
@[simp] theorem State.leaveQueue_nextNumber (n : Nat) : (s.leaveQueue n).nextNumber = s.nextNumber := rfl
@[simp] theorem State.leaveQueue_nextStamp (n : Nat) : (s.leaveQueue n).nextStamp = s.nextStamp := rfl
@[simp] theorem State.leaveQueue_slots (n : Nat) : (s.leaveQueue n).slots = s.slots := rfl
@[simp] theorem State.leaveQueue_retiring (n : Nat) : (s.leaveQueue n).retiring = s.retiring := rfl
@[simp] theorem State.leaveQueue_carries (n : Nat) : (s.leaveQueue n).carries = s.carries := rfl
@[simp] theorem State.leaveQueue_tagLink (n : Nat) : (s.leaveQueue n).tagLink = s.tagLink := rfl
@[simp] theorem State.leaveQueue_rejectVault (n : Nat) : (s.leaveQueue n).rejectVault = s.rejectVault := rfl
@[simp] theorem State.leaveQueue_intakeVault (n : Nat) : (s.leaveQueue n).intakeVault = s.intakeVault := rfl
@[simp] theorem State.leaveQueue_gate (n : Nat) : (s.leaveQueue n).gate = s.gate := rfl
@[simp] theorem State.leaveQueue_picker (n : Nat) : (s.leaveQueue n).picker = s.picker := rfl
@[simp] theorem State.leaveQueue_staging (n : Nat) : (s.leaveQueue n).staging = s.staging := rfl
@[simp] theorem State.leaveQueue_sgate (n : Nat) : (s.leaveQueue n).sgate = s.sgate := rfl
@[simp] theorem State.leaveQueue_route (n : Nat) : (s.leaveQueue n).route = s.route := rfl
@[simp] theorem State.leaveQueue_retracts (n : Nat) : (s.leaveQueue n).retracts = s.retracts := rfl
@[simp] theorem State.leaveQueue_presentations (n : Nat) : (s.leaveQueue n).presentations = s.presentations := rfl
@[simp] theorem State.leaveQueue_sweepPending (n : Nat) : (s.leaveQueue n).sweepPending = s.sweepPending := rfl
@[simp] theorem State.leaveQueue_sweepDone (n : Nat) : (s.leaveQueue n).sweepDone = s.sweepDone := rfl
@[simp] theorem State.leaveQueue_handlings (n : Nat) : (s.leaveQueue n).handlings = s.handlings := rfl
@[simp] theorem State.leaveQueue_intakeRec (n : Nat) : (s.leaveQueue n).intakeRec = s.intakeRec := rfl
@[simp] theorem State.leaveQueue_headSent (n : Nat) : (s.leaveQueue n).headSent = s.headSent := rfl
@[simp] theorem State.leaveQueue_lanes (n : Nat) : (s.leaveQueue n).lanes = s.lanes := rfl
@[simp] theorem State.leaveQueue_ring (n : Nat) : (s.leaveQueue n).ring = s.ring := rfl
@[simp] theorem State.leaveQueue_disputes (n : Nat) : (s.leaveQueue n).disputes = s.disputes := rfl
@[simp] theorem State.leaveQueue_alarms (n : Nat) : (s.leaveQueue n).alarms = s.alarms := rfl
@[simp] theorem State.leaveQueue_countPoint (n : Nat) : (s.leaveQueue n).countPoint = s.countPoint := rfl
@[simp] theorem State.leaveQueue_balance (n : Nat) : (s.leaveQueue n).balance = s.balance := rfl
@[simp] theorem State.leaveQueue_forming (n : Nat) : (s.leaveQueue n).forming = s.forming := rfl
@[simp] theorem State.leaveQueue_port (n : Nat) : (s.leaveQueue n).port = s.port := rfl
@[simp] theorem State.leaveQueue_reasons (n : Nat) : (s.leaveQueue n).reasons = s.reasons := rfl
@[simp] theorem State.leaveQueue_changeSet (n : Nat) : (s.leaveQueue n).changeSet = s.changeSet := rfl
@[simp] theorem State.leaveQueue_approvals (n : Nat) : (s.leaveQueue n).approvals = s.approvals := rfl
@[simp] theorem State.leaveQueue_params (n : Nat) : (s.leaveQueue n).params = s.params := rfl
@[simp] theorem State.leaveQueue_wall (n : Nat) : (s.leaveQueue n).wall = s.wall := rfl
@[simp] theorem State.leaveQueue_clock (n : Nat) : (s.leaveQueue n).clock = s.clock := rfl
@[simp] theorem State.leaveQueue_pending (n : Nat) : (s.leaveQueue n).pending = s.pending := rfl

/-! ### `State.putSlot` -/

@[simp] theorem State.putSlot_tickets (p : Pos) (x : Slot) : (s.putSlot p x).tickets = s.tickets := rfl
@[simp] theorem State.putSlot_pickQueue (p : Pos) (x : Slot) : (s.putSlot p x).pickQueue = s.pickQueue := rfl
@[simp] theorem State.putSlot_nextNumber (p : Pos) (x : Slot) : (s.putSlot p x).nextNumber = s.nextNumber := rfl
@[simp] theorem State.putSlot_nextStamp (p : Pos) (x : Slot) : (s.putSlot p x).nextStamp = s.nextStamp := rfl
@[simp] theorem State.putSlot_slots (p : Pos) (x : Slot) : (s.putSlot p x).slots = s.slots.set p x := rfl
@[simp] theorem State.putSlot_retiring (p : Pos) (x : Slot) : (s.putSlot p x).retiring = s.retiring := rfl
@[simp] theorem State.putSlot_carries (p : Pos) (x : Slot) : (s.putSlot p x).carries = s.carries := rfl
@[simp] theorem State.putSlot_tagLink (p : Pos) (x : Slot) : (s.putSlot p x).tagLink = s.tagLink := rfl
@[simp] theorem State.putSlot_rejectVault (p : Pos) (x : Slot) : (s.putSlot p x).rejectVault = s.rejectVault := rfl
@[simp] theorem State.putSlot_intakeVault (p : Pos) (x : Slot) : (s.putSlot p x).intakeVault = s.intakeVault := rfl
@[simp] theorem State.putSlot_gate (p : Pos) (x : Slot) : (s.putSlot p x).gate = s.gate := rfl
@[simp] theorem State.putSlot_picker (p : Pos) (x : Slot) : (s.putSlot p x).picker = s.picker := rfl
@[simp] theorem State.putSlot_staging (p : Pos) (x : Slot) : (s.putSlot p x).staging = s.staging := rfl
@[simp] theorem State.putSlot_sgate (p : Pos) (x : Slot) : (s.putSlot p x).sgate = s.sgate := rfl
@[simp] theorem State.putSlot_route (p : Pos) (x : Slot) : (s.putSlot p x).route = s.route := rfl
@[simp] theorem State.putSlot_retracts (p : Pos) (x : Slot) : (s.putSlot p x).retracts = s.retracts := rfl
@[simp] theorem State.putSlot_presentations (p : Pos) (x : Slot) :
    (s.putSlot p x).presentations = s.presentations := rfl
@[simp] theorem State.putSlot_sweepPending (p : Pos) (x : Slot) : (s.putSlot p x).sweepPending = s.sweepPending := rfl
@[simp] theorem State.putSlot_sweepDone (p : Pos) (x : Slot) : (s.putSlot p x).sweepDone = s.sweepDone := rfl
@[simp] theorem State.putSlot_handlings (p : Pos) (x : Slot) : (s.putSlot p x).handlings = s.handlings := rfl
@[simp] theorem State.putSlot_intakeRec (p : Pos) (x : Slot) : (s.putSlot p x).intakeRec = s.intakeRec := rfl
@[simp] theorem State.putSlot_headSent (p : Pos) (x : Slot) : (s.putSlot p x).headSent = s.headSent := rfl
@[simp] theorem State.putSlot_lanes (p : Pos) (x : Slot) : (s.putSlot p x).lanes = s.lanes := rfl
@[simp] theorem State.putSlot_ring (p : Pos) (x : Slot) : (s.putSlot p x).ring = s.ring := rfl
@[simp] theorem State.putSlot_disputes (p : Pos) (x : Slot) : (s.putSlot p x).disputes = s.disputes := rfl
@[simp] theorem State.putSlot_alarms (p : Pos) (x : Slot) : (s.putSlot p x).alarms = s.alarms := rfl
@[simp] theorem State.putSlot_countPoint (p : Pos) (x : Slot) : (s.putSlot p x).countPoint = s.countPoint := rfl
@[simp] theorem State.putSlot_balance (p : Pos) (x : Slot) : (s.putSlot p x).balance = s.balance := rfl
@[simp] theorem State.putSlot_forming (p : Pos) (x : Slot) : (s.putSlot p x).forming = s.forming := rfl
@[simp] theorem State.putSlot_port (p : Pos) (x : Slot) : (s.putSlot p x).port = s.port := rfl
@[simp] theorem State.putSlot_reasons (p : Pos) (x : Slot) :
    (s.putSlot p x).reasons = (if (s.slots.get p).attended = x.attended then s.reasons else s.reasons.add .position) := rfl
@[simp] theorem State.putSlot_changeSet (p : Pos) (x : Slot) : (s.putSlot p x).changeSet = s.changeSet := rfl
@[simp] theorem State.putSlot_approvals (p : Pos) (x : Slot) : (s.putSlot p x).approvals = s.approvals := rfl
@[simp] theorem State.putSlot_params (p : Pos) (x : Slot) : (s.putSlot p x).params = s.params := rfl
@[simp] theorem State.putSlot_wall (p : Pos) (x : Slot) : (s.putSlot p x).wall = s.wall := rfl
@[simp] theorem State.putSlot_clock (p : Pos) (x : Slot) : (s.putSlot p x).clock = s.clock := rfl
@[simp] theorem State.putSlot_pending (p : Pos) (x : Slot) : (s.putSlot p x).pending = s.pending := rfl

/-! ### `State.putLane` -/

@[simp] theorem State.putLane_tickets (l : Lane) (r : LaneRec) : (s.putLane l r).tickets = s.tickets := rfl
@[simp] theorem State.putLane_pickQueue (l : Lane) (r : LaneRec) : (s.putLane l r).pickQueue = s.pickQueue := rfl
@[simp] theorem State.putLane_nextNumber (l : Lane) (r : LaneRec) : (s.putLane l r).nextNumber = s.nextNumber := rfl
@[simp] theorem State.putLane_nextStamp (l : Lane) (r : LaneRec) : (s.putLane l r).nextStamp = s.nextStamp := rfl
@[simp] theorem State.putLane_slots (l : Lane) (r : LaneRec) : (s.putLane l r).slots = s.slots := rfl
@[simp] theorem State.putLane_retiring (l : Lane) (r : LaneRec) : (s.putLane l r).retiring = s.retiring := rfl
@[simp] theorem State.putLane_carries (l : Lane) (r : LaneRec) : (s.putLane l r).carries = s.carries := rfl
@[simp] theorem State.putLane_tagLink (l : Lane) (r : LaneRec) : (s.putLane l r).tagLink = s.tagLink := rfl
@[simp] theorem State.putLane_rejectVault (l : Lane) (r : LaneRec) : (s.putLane l r).rejectVault = s.rejectVault := rfl
@[simp] theorem State.putLane_intakeVault (l : Lane) (r : LaneRec) : (s.putLane l r).intakeVault = s.intakeVault := rfl
@[simp] theorem State.putLane_gate (l : Lane) (r : LaneRec) : (s.putLane l r).gate = s.gate := rfl
@[simp] theorem State.putLane_picker (l : Lane) (r : LaneRec) : (s.putLane l r).picker = s.picker := rfl
@[simp] theorem State.putLane_staging (l : Lane) (r : LaneRec) : (s.putLane l r).staging = s.staging := rfl
@[simp] theorem State.putLane_sgate (l : Lane) (r : LaneRec) : (s.putLane l r).sgate = s.sgate := rfl
@[simp] theorem State.putLane_route (l : Lane) (r : LaneRec) : (s.putLane l r).route = s.route := rfl
@[simp] theorem State.putLane_retracts (l : Lane) (r : LaneRec) : (s.putLane l r).retracts = s.retracts := rfl
@[simp] theorem State.putLane_presentations (l : Lane) (r : LaneRec) :
    (s.putLane l r).presentations = s.presentations := rfl
@[simp] theorem State.putLane_sweepPending (l : Lane) (r : LaneRec) :
    (s.putLane l r).sweepPending = s.sweepPending := rfl
@[simp] theorem State.putLane_sweepDone (l : Lane) (r : LaneRec) : (s.putLane l r).sweepDone = s.sweepDone := rfl
@[simp] theorem State.putLane_handlings (l : Lane) (r : LaneRec) : (s.putLane l r).handlings = s.handlings := rfl
@[simp] theorem State.putLane_intakeRec (l : Lane) (r : LaneRec) : (s.putLane l r).intakeRec = s.intakeRec := rfl
@[simp] theorem State.putLane_headSent (l : Lane) (r : LaneRec) : (s.putLane l r).headSent = s.headSent := rfl
@[simp] theorem State.putLane_lanes (l : Lane) (r : LaneRec) : (s.putLane l r).lanes = s.lanes.set l r := rfl
@[simp] theorem State.putLane_ring (l : Lane) (r : LaneRec) : (s.putLane l r).ring = s.ring := rfl
@[simp] theorem State.putLane_disputes (l : Lane) (r : LaneRec) : (s.putLane l r).disputes = s.disputes := rfl
@[simp] theorem State.putLane_alarms (l : Lane) (r : LaneRec) : (s.putLane l r).alarms = s.alarms := rfl
@[simp] theorem State.putLane_countPoint (l : Lane) (r : LaneRec) : (s.putLane l r).countPoint = s.countPoint := rfl
@[simp] theorem State.putLane_balance (l : Lane) (r : LaneRec) : (s.putLane l r).balance = s.balance := rfl
@[simp] theorem State.putLane_forming (l : Lane) (r : LaneRec) : (s.putLane l r).forming = s.forming := rfl
@[simp] theorem State.putLane_port (l : Lane) (r : LaneRec) : (s.putLane l r).port = s.port := rfl
@[simp] theorem State.putLane_reasons (l : Lane) (r : LaneRec) : (s.putLane l r).reasons = s.reasons := rfl
@[simp] theorem State.putLane_changeSet (l : Lane) (r : LaneRec) : (s.putLane l r).changeSet = s.changeSet := rfl
@[simp] theorem State.putLane_approvals (l : Lane) (r : LaneRec) : (s.putLane l r).approvals = s.approvals := rfl
@[simp] theorem State.putLane_params (l : Lane) (r : LaneRec) : (s.putLane l r).params = s.params := rfl
@[simp] theorem State.putLane_wall (l : Lane) (r : LaneRec) : (s.putLane l r).wall = s.wall := rfl
@[simp] theorem State.putLane_clock (l : Lane) (r : LaneRec) : (s.putLane l r).clock = s.clock := rfl
@[simp] theorem State.putLane_pending (l : Lane) (r : LaneRec) : (s.putLane l r).pending = s.pending := rfl

/-! ### `State.putHandling` -/

@[simp] theorem State.putHandling_tickets (l : Lane) (h : Handling) : (s.putHandling l h).tickets = s.tickets := rfl
@[simp] theorem State.putHandling_pickQueue (l : Lane) (h : Handling) :
    (s.putHandling l h).pickQueue = s.pickQueue := rfl
@[simp] theorem State.putHandling_nextNumber (l : Lane) (h : Handling) :
    (s.putHandling l h).nextNumber = s.nextNumber := rfl
@[simp] theorem State.putHandling_nextStamp (l : Lane) (h : Handling) :
    (s.putHandling l h).nextStamp = s.nextStamp := rfl
@[simp] theorem State.putHandling_slots (l : Lane) (h : Handling) : (s.putHandling l h).slots = s.slots := rfl
@[simp] theorem State.putHandling_retiring (l : Lane) (h : Handling) : (s.putHandling l h).retiring = s.retiring := rfl
@[simp] theorem State.putHandling_carries (l : Lane) (h : Handling) : (s.putHandling l h).carries = s.carries := rfl
@[simp] theorem State.putHandling_tagLink (l : Lane) (h : Handling) : (s.putHandling l h).tagLink = s.tagLink := rfl
@[simp] theorem State.putHandling_rejectVault (l : Lane) (h : Handling) :
    (s.putHandling l h).rejectVault = s.rejectVault := rfl
@[simp] theorem State.putHandling_intakeVault (l : Lane) (h : Handling) :
    (s.putHandling l h).intakeVault = s.intakeVault := rfl
@[simp] theorem State.putHandling_gate (l : Lane) (h : Handling) : (s.putHandling l h).gate = s.gate := rfl
@[simp] theorem State.putHandling_picker (l : Lane) (h : Handling) : (s.putHandling l h).picker = s.picker := rfl
@[simp] theorem State.putHandling_staging (l : Lane) (h : Handling) : (s.putHandling l h).staging = s.staging := rfl
@[simp] theorem State.putHandling_sgate (l : Lane) (h : Handling) : (s.putHandling l h).sgate = s.sgate := rfl
@[simp] theorem State.putHandling_route (l : Lane) (h : Handling) : (s.putHandling l h).route = s.route := rfl
@[simp] theorem State.putHandling_retracts (l : Lane) (h : Handling) : (s.putHandling l h).retracts = s.retracts := rfl
@[simp] theorem State.putHandling_presentations (l : Lane) (h : Handling) :
    (s.putHandling l h).presentations = s.presentations := rfl
@[simp] theorem State.putHandling_sweepPending (l : Lane) (h : Handling) :
    (s.putHandling l h).sweepPending = s.sweepPending := rfl
@[simp] theorem State.putHandling_sweepDone (l : Lane) (h : Handling) :
    (s.putHandling l h).sweepDone = s.sweepDone := rfl
@[simp] theorem State.putHandling_handlings (l : Lane) (h : Handling) :
    (s.putHandling l h).handlings = s.handlings.set l h := rfl
@[simp] theorem State.putHandling_intakeRec (l : Lane) (h : Handling) :
    (s.putHandling l h).intakeRec = s.intakeRec := rfl
@[simp] theorem State.putHandling_headSent (l : Lane) (h : Handling) : (s.putHandling l h).headSent = s.headSent := rfl
@[simp] theorem State.putHandling_lanes (l : Lane) (h : Handling) : (s.putHandling l h).lanes = s.lanes := rfl
@[simp] theorem State.putHandling_ring (l : Lane) (h : Handling) : (s.putHandling l h).ring = s.ring := rfl
@[simp] theorem State.putHandling_disputes (l : Lane) (h : Handling) : (s.putHandling l h).disputes = s.disputes := rfl
@[simp] theorem State.putHandling_alarms (l : Lane) (h : Handling) : (s.putHandling l h).alarms = s.alarms := rfl
@[simp] theorem State.putHandling_countPoint (l : Lane) (h : Handling) :
    (s.putHandling l h).countPoint = s.countPoint := rfl
@[simp] theorem State.putHandling_balance (l : Lane) (h : Handling) : (s.putHandling l h).balance = s.balance := rfl
@[simp] theorem State.putHandling_forming (l : Lane) (h : Handling) : (s.putHandling l h).forming = s.forming := rfl
@[simp] theorem State.putHandling_port (l : Lane) (h : Handling) : (s.putHandling l h).port = s.port := rfl
@[simp] theorem State.putHandling_reasons (l : Lane) (h : Handling) : (s.putHandling l h).reasons = s.reasons := rfl
@[simp] theorem State.putHandling_changeSet (l : Lane) (h : Handling) :
    (s.putHandling l h).changeSet = s.changeSet := rfl
@[simp] theorem State.putHandling_approvals (l : Lane) (h : Handling) :
    (s.putHandling l h).approvals = s.approvals := rfl
@[simp] theorem State.putHandling_params (l : Lane) (h : Handling) : (s.putHandling l h).params = s.params := rfl
@[simp] theorem State.putHandling_wall (l : Lane) (h : Handling) : (s.putHandling l h).wall = s.wall := rfl
@[simp] theorem State.putHandling_clock (l : Lane) (h : Handling) : (s.putHandling l h).clock = s.clock := rfl
@[simp] theorem State.putHandling_pending (l : Lane) (h : Handling) : (s.putHandling l h).pending = s.pending := rfl

/-! ### `State.putPresentation` -/

@[simp] theorem State.putPresentation_tickets (l : Lane) (p : Option Presentation) :
    (s.putPresentation l p).tickets = s.tickets := rfl
@[simp] theorem State.putPresentation_pickQueue (l : Lane) (p : Option Presentation) :
    (s.putPresentation l p).pickQueue = s.pickQueue := rfl
@[simp] theorem State.putPresentation_nextNumber (l : Lane) (p : Option Presentation) :
    (s.putPresentation l p).nextNumber = s.nextNumber := rfl
@[simp] theorem State.putPresentation_nextStamp (l : Lane) (p : Option Presentation) :
    (s.putPresentation l p).nextStamp = s.nextStamp := rfl
@[simp] theorem State.putPresentation_slots (l : Lane) (p : Option Presentation) :
    (s.putPresentation l p).slots = s.slots := rfl
@[simp] theorem State.putPresentation_retiring (l : Lane) (p : Option Presentation) :
    (s.putPresentation l p).retiring = s.retiring := rfl
@[simp] theorem State.putPresentation_carries (l : Lane) (p : Option Presentation) :
    (s.putPresentation l p).carries = s.carries := rfl
@[simp] theorem State.putPresentation_tagLink (l : Lane) (p : Option Presentation) :
    (s.putPresentation l p).tagLink = s.tagLink := rfl
@[simp] theorem State.putPresentation_rejectVault (l : Lane) (p : Option Presentation) :
    (s.putPresentation l p).rejectVault = s.rejectVault := rfl
@[simp] theorem State.putPresentation_intakeVault (l : Lane) (p : Option Presentation) :
    (s.putPresentation l p).intakeVault = s.intakeVault := rfl
@[simp] theorem State.putPresentation_gate (l : Lane) (p : Option Presentation) :
    (s.putPresentation l p).gate = s.gate := rfl
@[simp] theorem State.putPresentation_picker (l : Lane) (p : Option Presentation) :
    (s.putPresentation l p).picker = s.picker := rfl
@[simp] theorem State.putPresentation_staging (l : Lane) (p : Option Presentation) :
    (s.putPresentation l p).staging = s.staging := rfl
@[simp] theorem State.putPresentation_sgate (l : Lane) (p : Option Presentation) :
    (s.putPresentation l p).sgate = s.sgate := rfl
@[simp] theorem State.putPresentation_route (l : Lane) (p : Option Presentation) :
    (s.putPresentation l p).route = s.route := rfl
@[simp] theorem State.putPresentation_retracts (l : Lane) (p : Option Presentation) :
    (s.putPresentation l p).retracts = s.retracts := rfl
@[simp] theorem State.putPresentation_presentations (l : Lane) (p : Option Presentation) :
    (s.putPresentation l p).presentations = s.presentations.set l p := rfl
@[simp] theorem State.putPresentation_sweepPending (l : Lane) (p : Option Presentation) :
    (s.putPresentation l p).sweepPending = s.sweepPending := rfl
@[simp] theorem State.putPresentation_sweepDone (l : Lane) (p : Option Presentation) :
    (s.putPresentation l p).sweepDone = s.sweepDone := rfl
@[simp] theorem State.putPresentation_handlings (l : Lane) (p : Option Presentation) :
    (s.putPresentation l p).handlings = s.handlings := rfl
@[simp] theorem State.putPresentation_intakeRec (l : Lane) (p : Option Presentation) :
    (s.putPresentation l p).intakeRec = s.intakeRec := rfl
@[simp] theorem State.putPresentation_headSent (l : Lane) (p : Option Presentation) :
    (s.putPresentation l p).headSent = s.headSent := rfl
@[simp] theorem State.putPresentation_lanes (l : Lane) (p : Option Presentation) :
    (s.putPresentation l p).lanes = s.lanes := rfl
@[simp] theorem State.putPresentation_ring (l : Lane) (p : Option Presentation) :
    (s.putPresentation l p).ring = s.ring := rfl
@[simp] theorem State.putPresentation_disputes (l : Lane) (p : Option Presentation) :
    (s.putPresentation l p).disputes = s.disputes := rfl
@[simp] theorem State.putPresentation_alarms (l : Lane) (p : Option Presentation) :
    (s.putPresentation l p).alarms = s.alarms := rfl
@[simp] theorem State.putPresentation_countPoint (l : Lane) (p : Option Presentation) :
    (s.putPresentation l p).countPoint = s.countPoint := rfl
@[simp] theorem State.putPresentation_balance (l : Lane) (p : Option Presentation) :
    (s.putPresentation l p).balance = s.balance := rfl
@[simp] theorem State.putPresentation_forming (l : Lane) (p : Option Presentation) :
    (s.putPresentation l p).forming = s.forming := rfl
@[simp] theorem State.putPresentation_port (l : Lane) (p : Option Presentation) :
    (s.putPresentation l p).port = s.port := rfl
@[simp] theorem State.putPresentation_reasons (l : Lane) (p : Option Presentation) :
    (s.putPresentation l p).reasons = s.reasons := rfl
@[simp] theorem State.putPresentation_changeSet (l : Lane) (p : Option Presentation) :
    (s.putPresentation l p).changeSet = s.changeSet := rfl
@[simp] theorem State.putPresentation_approvals (l : Lane) (p : Option Presentation) :
    (s.putPresentation l p).approvals = s.approvals := rfl
@[simp] theorem State.putPresentation_params (l : Lane) (p : Option Presentation) :
    (s.putPresentation l p).params = s.params := rfl
@[simp] theorem State.putPresentation_wall (l : Lane) (p : Option Presentation) :
    (s.putPresentation l p).wall = s.wall := rfl
@[simp] theorem State.putPresentation_clock (l : Lane) (p : Option Presentation) :
    (s.putPresentation l p).clock = s.clock := rfl
@[simp] theorem State.putPresentation_pending (l : Lane) (p : Option Presentation) :
    (s.putPresentation l p).pending = s.pending := rfl

/-! ### `State.tellHead` -/

@[simp] theorem State.tellHead_tickets (c : HeadCommand) : (s.tellHead c).tickets = s.tickets := rfl
@[simp] theorem State.tellHead_pickQueue (c : HeadCommand) : (s.tellHead c).pickQueue = s.pickQueue := rfl
@[simp] theorem State.tellHead_nextNumber (c : HeadCommand) : (s.tellHead c).nextNumber = s.nextNumber := rfl
@[simp] theorem State.tellHead_nextStamp (c : HeadCommand) : (s.tellHead c).nextStamp = s.nextStamp := rfl
@[simp] theorem State.tellHead_slots (c : HeadCommand) : (s.tellHead c).slots = s.slots := rfl
@[simp] theorem State.tellHead_retiring (c : HeadCommand) : (s.tellHead c).retiring = s.retiring := rfl
@[simp] theorem State.tellHead_carries (c : HeadCommand) : (s.tellHead c).carries = s.carries := rfl
@[simp] theorem State.tellHead_tagLink (c : HeadCommand) : (s.tellHead c).tagLink = s.tagLink := rfl
@[simp] theorem State.tellHead_rejectVault (c : HeadCommand) : (s.tellHead c).rejectVault = s.rejectVault := rfl
@[simp] theorem State.tellHead_intakeVault (c : HeadCommand) : (s.tellHead c).intakeVault = s.intakeVault := rfl
@[simp] theorem State.tellHead_gate (c : HeadCommand) : (s.tellHead c).gate = s.gate := rfl
@[simp] theorem State.tellHead_picker (c : HeadCommand) : (s.tellHead c).picker = s.picker := rfl
@[simp] theorem State.tellHead_staging (c : HeadCommand) : (s.tellHead c).staging = s.staging := rfl
@[simp] theorem State.tellHead_sgate (c : HeadCommand) : (s.tellHead c).sgate = s.sgate := rfl
@[simp] theorem State.tellHead_route (c : HeadCommand) : (s.tellHead c).route = s.route := rfl
@[simp] theorem State.tellHead_retracts (c : HeadCommand) : (s.tellHead c).retracts = s.retracts := rfl
@[simp] theorem State.tellHead_presentations (c : HeadCommand) : (s.tellHead c).presentations = s.presentations := rfl
@[simp] theorem State.tellHead_sweepPending (c : HeadCommand) : (s.tellHead c).sweepPending = s.sweepPending := rfl
@[simp] theorem State.tellHead_sweepDone (c : HeadCommand) : (s.tellHead c).sweepDone = s.sweepDone := rfl
@[simp] theorem State.tellHead_handlings (c : HeadCommand) : (s.tellHead c).handlings = s.handlings := rfl
@[simp] theorem State.tellHead_intakeRec (c : HeadCommand) : (s.tellHead c).intakeRec = s.intakeRec := rfl
@[simp] theorem State.tellHead_headSent (c : HeadCommand) : (s.tellHead c).headSent = s.headSent ++ [c] := rfl
@[simp] theorem State.tellHead_lanes (c : HeadCommand) : (s.tellHead c).lanes = s.lanes := rfl
@[simp] theorem State.tellHead_ring (c : HeadCommand) : (s.tellHead c).ring = s.ring := rfl
@[simp] theorem State.tellHead_disputes (c : HeadCommand) : (s.tellHead c).disputes = s.disputes := rfl
@[simp] theorem State.tellHead_alarms (c : HeadCommand) : (s.tellHead c).alarms = s.alarms := rfl
@[simp] theorem State.tellHead_countPoint (c : HeadCommand) : (s.tellHead c).countPoint = s.countPoint := rfl
@[simp] theorem State.tellHead_balance (c : HeadCommand) : (s.tellHead c).balance = s.balance := rfl
@[simp] theorem State.tellHead_forming (c : HeadCommand) : (s.tellHead c).forming = s.forming := rfl
@[simp] theorem State.tellHead_port (c : HeadCommand) : (s.tellHead c).port = s.port := rfl
@[simp] theorem State.tellHead_reasons (c : HeadCommand) : (s.tellHead c).reasons = s.reasons := rfl
@[simp] theorem State.tellHead_changeSet (c : HeadCommand) : (s.tellHead c).changeSet = s.changeSet := rfl
@[simp] theorem State.tellHead_approvals (c : HeadCommand) : (s.tellHead c).approvals = s.approvals := rfl
@[simp] theorem State.tellHead_params (c : HeadCommand) : (s.tellHead c).params = s.params := rfl
@[simp] theorem State.tellHead_wall (c : HeadCommand) : (s.tellHead c).wall = s.wall := rfl
@[simp] theorem State.tellHead_clock (c : HeadCommand) : (s.tellHead c).clock = s.clock := rfl
@[simp] theorem State.tellHead_pending (c : HeadCommand) : (s.tellHead c).pending = s.pending := rfl

/-! ### `State.dropApproval` -/

@[simp] theorem State.dropApproval_tickets (x : HeldTarget) : (s.dropApproval x).tickets = s.tickets := rfl
@[simp] theorem State.dropApproval_pickQueue (x : HeldTarget) : (s.dropApproval x).pickQueue = s.pickQueue := rfl
@[simp] theorem State.dropApproval_nextNumber (x : HeldTarget) : (s.dropApproval x).nextNumber = s.nextNumber := rfl
@[simp] theorem State.dropApproval_nextStamp (x : HeldTarget) : (s.dropApproval x).nextStamp = s.nextStamp := rfl
@[simp] theorem State.dropApproval_slots (x : HeldTarget) : (s.dropApproval x).slots = s.slots := rfl
@[simp] theorem State.dropApproval_retiring (x : HeldTarget) : (s.dropApproval x).retiring = s.retiring := rfl
@[simp] theorem State.dropApproval_carries (x : HeldTarget) : (s.dropApproval x).carries = s.carries := rfl
@[simp] theorem State.dropApproval_tagLink (x : HeldTarget) : (s.dropApproval x).tagLink = s.tagLink := rfl
@[simp] theorem State.dropApproval_rejectVault (x : HeldTarget) : (s.dropApproval x).rejectVault = s.rejectVault := rfl
@[simp] theorem State.dropApproval_intakeVault (x : HeldTarget) : (s.dropApproval x).intakeVault = s.intakeVault := rfl
@[simp] theorem State.dropApproval_gate (x : HeldTarget) : (s.dropApproval x).gate = s.gate := rfl
@[simp] theorem State.dropApproval_picker (x : HeldTarget) : (s.dropApproval x).picker = s.picker := rfl
@[simp] theorem State.dropApproval_staging (x : HeldTarget) : (s.dropApproval x).staging = s.staging := rfl
@[simp] theorem State.dropApproval_sgate (x : HeldTarget) : (s.dropApproval x).sgate = s.sgate := rfl
@[simp] theorem State.dropApproval_route (x : HeldTarget) : (s.dropApproval x).route = s.route := rfl
@[simp] theorem State.dropApproval_retracts (x : HeldTarget) : (s.dropApproval x).retracts = s.retracts := rfl
@[simp] theorem State.dropApproval_presentations (x : HeldTarget) :
    (s.dropApproval x).presentations = s.presentations := rfl
@[simp] theorem State.dropApproval_sweepPending (x : HeldTarget) :
    (s.dropApproval x).sweepPending = s.sweepPending := rfl
@[simp] theorem State.dropApproval_sweepDone (x : HeldTarget) : (s.dropApproval x).sweepDone = s.sweepDone := rfl
@[simp] theorem State.dropApproval_handlings (x : HeldTarget) : (s.dropApproval x).handlings = s.handlings := rfl
@[simp] theorem State.dropApproval_intakeRec (x : HeldTarget) : (s.dropApproval x).intakeRec = s.intakeRec := rfl
@[simp] theorem State.dropApproval_headSent (x : HeldTarget) : (s.dropApproval x).headSent = s.headSent := rfl
@[simp] theorem State.dropApproval_lanes (x : HeldTarget) : (s.dropApproval x).lanes = s.lanes := rfl
@[simp] theorem State.dropApproval_ring (x : HeldTarget) : (s.dropApproval x).ring = s.ring := rfl
@[simp] theorem State.dropApproval_disputes (x : HeldTarget) : (s.dropApproval x).disputes = s.disputes := rfl
@[simp] theorem State.dropApproval_alarms (x : HeldTarget) : (s.dropApproval x).alarms = s.alarms := rfl
@[simp] theorem State.dropApproval_countPoint (x : HeldTarget) : (s.dropApproval x).countPoint = s.countPoint := rfl
@[simp] theorem State.dropApproval_balance (x : HeldTarget) : (s.dropApproval x).balance = s.balance := rfl
@[simp] theorem State.dropApproval_forming (x : HeldTarget) : (s.dropApproval x).forming = s.forming := rfl
@[simp] theorem State.dropApproval_port (x : HeldTarget) : (s.dropApproval x).port = s.port := rfl
@[simp] theorem State.dropApproval_reasons (x : HeldTarget) : (s.dropApproval x).reasons = s.reasons := rfl
@[simp] theorem State.dropApproval_changeSet (x : HeldTarget) : (s.dropApproval x).changeSet = s.changeSet := rfl
@[simp] theorem State.dropApproval_approvals (x : HeldTarget) :
    (s.dropApproval x).approvals = dropKey HeldApproval.key x.key s.approvals := rfl
@[simp] theorem State.dropApproval_params (x : HeldTarget) : (s.dropApproval x).params = s.params := rfl
@[simp] theorem State.dropApproval_wall (x : HeldTarget) : (s.dropApproval x).wall = s.wall := rfl
@[simp] theorem State.dropApproval_clock (x : HeldTarget) : (s.dropApproval x).clock = s.clock := rfl
@[simp] theorem State.dropApproval_pending (x : HeldTarget) : (s.dropApproval x).pending = s.pending := rfl

/-! ### `State.hold` -/

@[simp] theorem State.hold_tickets (r : Response) : (s.hold r).tickets = s.tickets := rfl
@[simp] theorem State.hold_pickQueue (r : Response) : (s.hold r).pickQueue = s.pickQueue := rfl
@[simp] theorem State.hold_nextNumber (r : Response) : (s.hold r).nextNumber = s.nextNumber := rfl
@[simp] theorem State.hold_nextStamp (r : Response) : (s.hold r).nextStamp = s.nextStamp := rfl
@[simp] theorem State.hold_slots (r : Response) : (s.hold r).slots = s.slots := rfl
@[simp] theorem State.hold_retiring (r : Response) : (s.hold r).retiring = s.retiring := rfl
@[simp] theorem State.hold_carries (r : Response) : (s.hold r).carries = s.carries := rfl
@[simp] theorem State.hold_tagLink (r : Response) : (s.hold r).tagLink = s.tagLink := rfl
@[simp] theorem State.hold_rejectVault (r : Response) : (s.hold r).rejectVault = s.rejectVault := rfl
@[simp] theorem State.hold_intakeVault (r : Response) : (s.hold r).intakeVault = s.intakeVault := rfl
@[simp] theorem State.hold_gate (r : Response) : (s.hold r).gate = s.gate := rfl
@[simp] theorem State.hold_picker (r : Response) : (s.hold r).picker = s.picker := rfl
@[simp] theorem State.hold_staging (r : Response) : (s.hold r).staging = s.staging := rfl
@[simp] theorem State.hold_sgate (r : Response) : (s.hold r).sgate = s.sgate := rfl
@[simp] theorem State.hold_route (r : Response) : (s.hold r).route = s.route := rfl
@[simp] theorem State.hold_retracts (r : Response) : (s.hold r).retracts = s.retracts := rfl
@[simp] theorem State.hold_presentations (r : Response) : (s.hold r).presentations = s.presentations := rfl
@[simp] theorem State.hold_sweepPending (r : Response) : (s.hold r).sweepPending = s.sweepPending := rfl
@[simp] theorem State.hold_sweepDone (r : Response) : (s.hold r).sweepDone = s.sweepDone := rfl
@[simp] theorem State.hold_handlings (r : Response) : (s.hold r).handlings = s.handlings := rfl
@[simp] theorem State.hold_intakeRec (r : Response) : (s.hold r).intakeRec = s.intakeRec := rfl
@[simp] theorem State.hold_headSent (r : Response) : (s.hold r).headSent = s.headSent := rfl
@[simp] theorem State.hold_lanes (r : Response) : (s.hold r).lanes = s.lanes := rfl
@[simp] theorem State.hold_ring (r : Response) : (s.hold r).ring = s.ring := rfl
@[simp] theorem State.hold_disputes (r : Response) : (s.hold r).disputes = s.disputes := rfl
@[simp] theorem State.hold_alarms (r : Response) : (s.hold r).alarms = s.alarms := rfl
@[simp] theorem State.hold_countPoint (r : Response) : (s.hold r).countPoint = s.countPoint := rfl
@[simp] theorem State.hold_balance (r : Response) : (s.hold r).balance = s.balance := rfl
@[simp] theorem State.hold_forming (r : Response) : (s.hold r).forming = s.forming := rfl
@[simp] theorem State.hold_port (r : Response) :
    (s.hold r).port = { s.port with state := .ready, held := some r, read := false } := rfl
@[simp] theorem State.hold_reasons (r : Response) : (s.hold r).reasons = s.reasons := rfl
@[simp] theorem State.hold_changeSet (r : Response) : (s.hold r).changeSet = s.changeSet := rfl
@[simp] theorem State.hold_approvals (r : Response) : (s.hold r).approvals = s.approvals := rfl
@[simp] theorem State.hold_params (r : Response) : (s.hold r).params = s.params := rfl
@[simp] theorem State.hold_wall (r : Response) : (s.hold r).wall = s.wall := rfl
@[simp] theorem State.hold_clock (r : Response) : (s.hold r).clock = s.clock := rfl
@[simp] theorem State.hold_pending (r : Response) : (s.hold r).pending = s.pending := rfl

/-! ### `State.reform` -/

@[simp] theorem State.reform_tickets : (s.reform).tickets = s.tickets := rfl
@[simp] theorem State.reform_pickQueue : (s.reform).pickQueue = s.pickQueue := rfl
@[simp] theorem State.reform_nextNumber : (s.reform).nextNumber = s.nextNumber := rfl
@[simp] theorem State.reform_nextStamp : (s.reform).nextStamp = s.nextStamp := rfl
@[simp] theorem State.reform_slots :
    (s.reform).slots = s.slots.mapWith fun p x => { x with committed := s.committedAt p } := rfl
@[simp] theorem State.reform_retiring : (s.reform).retiring = s.retiring := rfl
@[simp] theorem State.reform_carries : (s.reform).carries = s.carries := rfl
@[simp] theorem State.reform_tagLink : (s.reform).tagLink = s.tagLink := rfl
@[simp] theorem State.reform_rejectVault : (s.reform).rejectVault = s.rejectVault := rfl
@[simp] theorem State.reform_intakeVault : (s.reform).intakeVault = s.intakeVault := rfl
@[simp] theorem State.reform_gate : (s.reform).gate = s.gate := rfl
@[simp] theorem State.reform_picker : (s.reform).picker = s.picker := rfl
@[simp] theorem State.reform_staging : (s.reform).staging = s.staging := rfl
@[simp] theorem State.reform_sgate : (s.reform).sgate = s.sgate := rfl
@[simp] theorem State.reform_route : (s.reform).route = s.route := rfl
@[simp] theorem State.reform_retracts : (s.reform).retracts = s.retracts := rfl
@[simp] theorem State.reform_presentations : (s.reform).presentations = s.presentations := rfl
@[simp] theorem State.reform_sweepPending : (s.reform).sweepPending = s.sweepPending := rfl
@[simp] theorem State.reform_sweepDone : (s.reform).sweepDone = s.sweepDone := rfl
@[simp] theorem State.reform_handlings : (s.reform).handlings = s.handlings := rfl
@[simp] theorem State.reform_intakeRec : (s.reform).intakeRec = s.intakeRec := rfl
@[simp] theorem State.reform_headSent : (s.reform).headSent = s.headSent := rfl
@[simp] theorem State.reform_lanes : (s.reform).lanes = s.lanes.mapWith s.formLane := rfl
@[simp] theorem State.reform_ring : (s.reform).ring = s.ring := rfl
@[simp] theorem State.reform_disputes : (s.reform).disputes = s.disputes := rfl
@[simp] theorem State.reform_alarms : (s.reform).alarms = s.alarms := rfl
@[simp] theorem State.reform_countPoint : (s.reform).countPoint = s.countPoint := rfl
@[simp] theorem State.reform_balance : (s.reform).balance = s.balance := rfl
@[simp] theorem State.reform_forming : (s.reform).forming = s.forming := rfl
@[simp] theorem State.reform_port : (s.reform).port = s.port := rfl
@[simp] theorem State.reform_reasons : (s.reform).reasons = s.reasons := rfl
@[simp] theorem State.reform_changeSet : (s.reform).changeSet = s.changeSet := rfl
@[simp] theorem State.reform_approvals : (s.reform).approvals = s.approvals := rfl
@[simp] theorem State.reform_params : (s.reform).params = s.params := rfl
@[simp] theorem State.reform_wall : (s.reform).wall = s.wall := rfl
@[simp] theorem State.reform_clock : (s.reform).clock = s.clock := rfl
@[simp] theorem State.reform_pending : (s.reform).pending = s.pending := rfl

/-! ### `State.tick` -/

@[simp] theorem State.tick_tickets : (s.tick).tickets = s.tickets.map Ticket.tick := rfl
@[simp] theorem State.tick_pickQueue : (s.tick).pickQueue = s.pickQueue := rfl
@[simp] theorem State.tick_nextNumber : (s.tick).nextNumber = s.nextNumber := rfl
@[simp] theorem State.tick_nextStamp : (s.tick).nextStamp = s.nextStamp := rfl
@[simp] theorem State.tick_slots :
    (s.tick).slots = s.slots.mapWith fun _ x => { x with release := x.release.map fun a => { a with seconds := a.seconds - 1 } } := rfl
@[simp] theorem State.tick_retiring : (s.tick).retiring = s.retiring := rfl
@[simp] theorem State.tick_carries : (s.tick).carries = s.carries := rfl
@[simp] theorem State.tick_tagLink : (s.tick).tagLink = s.tagLink := rfl
@[simp] theorem State.tick_rejectVault : (s.tick).rejectVault = s.rejectVault := rfl
@[simp] theorem State.tick_intakeVault : (s.tick).intakeVault = s.intakeVault := rfl
@[simp] theorem State.tick_gate : (s.tick).gate = s.gate := rfl
@[simp] theorem State.tick_picker : (s.tick).picker = s.picker := rfl
@[simp] theorem State.tick_staging : (s.tick).staging = s.staging := rfl
@[simp] theorem State.tick_sgate : (s.tick).sgate = s.sgate := rfl
@[simp] theorem State.tick_route : (s.tick).route = s.route := rfl
@[simp] theorem State.tick_retracts : (s.tick).retracts = s.retracts := rfl
@[simp] theorem State.tick_presentations : (s.tick).presentations = s.presentations := rfl
@[simp] theorem State.tick_sweepPending : (s.tick).sweepPending = s.sweepPending := rfl
@[simp] theorem State.tick_sweepDone : (s.tick).sweepDone = s.sweepDone := rfl
@[simp] theorem State.tick_handlings : (s.tick).handlings = s.handlings := rfl
@[simp] theorem State.tick_intakeRec : (s.tick).intakeRec = s.intakeRec := rfl
@[simp] theorem State.tick_headSent : (s.tick).headSent = s.headSent := rfl
@[simp] theorem State.tick_lanes :
    (s.tick).lanes = s.lanes.mapWith fun _ r => { r with lostTimer := r.lostTimer.map (· - 1) } := rfl
@[simp] theorem State.tick_ring : (s.tick).ring = s.ring := rfl
@[simp] theorem State.tick_disputes : (s.tick).disputes = s.disputes := rfl
@[simp] theorem State.tick_alarms : (s.tick).alarms = s.alarms := rfl
@[simp] theorem State.tick_countPoint :
    (s.tick).countPoint = { s.countPoint with timer := s.countPoint.timer.map (· - 1) } := rfl
@[simp] theorem State.tick_balance : (s.tick).balance = s.balance := rfl
@[simp] theorem State.tick_forming : (s.tick).forming = s.forming := rfl
@[simp] theorem State.tick_port : (s.tick).port = s.port := rfl
@[simp] theorem State.tick_reasons : (s.tick).reasons = s.reasons := rfl
@[simp] theorem State.tick_changeSet : (s.tick).changeSet = s.changeSet := rfl
@[simp] theorem State.tick_approvals :
    (s.tick).approvals = s.approvals.map fun a => { a with seconds := a.seconds - 1 } := rfl
@[simp] theorem State.tick_params : (s.tick).params = s.params := rfl
@[simp] theorem State.tick_wall : (s.tick).wall = s.wall := rfl
@[simp] theorem State.tick_clock : (s.tick).clock = s.clock + 1 := rfl
@[simp] theorem State.tick_pending : (s.tick).pending = s.pending := rfl

/-! ### Records with one entry for each place -/

section Places
variable {α β : Type}

@[simp] theorem PerLane_get_set_self (m : PerLane α) (l : Lane) (x : α) : (m.set l x).get l = x := by cases l <;> rfl
theorem PerLane_get_set_of_ne (m : PerLane α) {l k : Lane} (x : α) (h : k ≠ l) : (m.set l x).get k = m.get k := by
  cases l <;> cases k <;> first | rfl | exact absurd rfl h
@[simp] theorem PerLane_get_const (x : α) (l : Lane) : (PerLane.const x).get l = x := by cases l <;> rfl
@[simp] theorem PerLane_get_mapWith (f : Lane → α → β) (m : PerLane α) (l : Lane) :
    (m.mapWith f).get l = f l (m.get l) := by cases l <;> rfl
theorem PerLane_ext {m n : PerLane α} (h : ∀ l, m.get l = n.get l) : m = n := by
  have h1 := h .l1; have h2 := h .l2; have h3 := h .l3; have h4 := h .l4
  have h5 := h .l5; have h6 := h .l6; have h7 := h .l7; have h8 := h .l8
  cases m; cases n; simp_all [PerLane.get]

@[simp] theorem PerPos_get_set_self (m : PerPos α) (p : Pos) (x : α) : (m.set p x).get p = x := by cases p <;> rfl
theorem PerPos_get_set_of_ne (m : PerPos α) {p q : Pos} (x : α) (h : q ≠ p) : (m.set p x).get q = m.get q := by
  cases p <;> cases q <;> first | rfl | exact absurd rfl h
@[simp] theorem PerPos_get_const (x : α) (p : Pos) : (PerPos.const x).get p = x := by cases p <;> rfl
@[simp] theorem PerPos_get_mapWith (f : Pos → α → β) (m : PerPos α) (p : Pos) :
    (m.mapWith f).get p = f p (m.get p) := by cases p <;> rfl
theorem PerPos_ext {m n : PerPos α} (h : ∀ p, m.get p = n.get p) : m = n := by
  have h1 := h .a; have h2 := h .b; have h3 := h .c; have h4 := h .d
  cases m; cases n; simp_all [PerPos.get]

@[simp] theorem PerCode_get_set_self (m : PerCode α) (c : Code) (x : α) : (m.set c x).get c = x := by cases c <;> rfl
theorem PerCode_get_set_of_ne (m : PerCode α) {c d : Code} (x : α) (h : d ≠ c) : (m.set c x).get d = m.get d := by
  cases c <;> cases d <;> first | rfl | exact absurd rfl h
@[simp] theorem PerCode_get_const (x : α) (c : Code) : (PerCode.const x).get c = x := by cases c <;> rfl
@[simp] theorem PerCode_get_mapWith (f : Code → α → β) (m : PerCode α) (c : Code) :
    (m.mapWith f).get c = f c (m.get c) := by cases c <;> rfl

end Places

@[simp] theorem Lane_ofNat_number (l : Lane) : Lane.ofNat? l.number = some l := by cases l <;> rfl
@[simp] theorem Pos_ofNat_number (p : Pos) : Pos.ofNat? p.number = some p := by cases p <;> rfl
@[simp] theorem Teller_ofNat_number (t : Teller) : Teller.ofNat? t.number = some t := by cases t <;> rfl
@[simp] theorem Vault_ofNat_number (v : Vault) : Vault.ofNat? v.number = some v := by cases v <;> rfl
@[simp] theorem Code_ofNat_number (c : Code) : Code.ofNat? c.number = some c := by cases c <;> rfl

end Sys2Proof.Machine
end

