-- ==== Sys2Proof/Laws/Tables.lean ====
section
/-! SUPPORT. The keyed lists: what putting in, finding and dropping an entry do, and that they keep the ascending order. -/

namespace Sys2Proof.Machine

variable {α β : Type} {key : α → Nat}

/-! ### Ascending order -/

/-- A list rises when its tail does and its head is below every key of the tail. -/
theorem risingBy_cons {x : α} {xs : List α} :
    risingBy key (x :: xs) = true ↔ (∀ y ∈ xs, key x < key y) ∧ risingBy key xs = true := by
  induction xs generalizing x with
  | nil => simp [risingBy]
  | cons y ys ih =>
    simp only [risingBy, Bool.and_eq_true, decide_eq_true_eq, List.mem_cons, forall_eq_or_imp]
    constructor
    · rintro ⟨h, hr⟩
      exact ⟨⟨h, fun z hz => Nat.lt_trans h ((ih.1 hr).1 z hz)⟩, hr⟩
    · rintro ⟨⟨h, -⟩, hr⟩
      exact ⟨h, hr⟩

theorem risingBy_tail {x : α} {xs : List α} (h : risingBy key (x :: xs) = true) : risingBy key xs = true :=
  (risingBy_cons.1 h).2

/-- A sublist of a rising list rises. -/
theorem risingBy_sublist {xs ys : List α} (hs : xs.Sublist ys) (h : risingBy key ys = true) :
    risingBy key xs = true := by
  induction hs with
  | slnil => exact h
  | cons y _ ih => exact ih (risingBy_tail h)
  | cons_cons y hs ih =>
    refine risingBy_cons.2 ⟨fun z hz => (risingBy_cons.1 h).1 z (hs.subset hz), ih (risingBy_tail h)⟩

/-- A map that keeps the keys keeps the order. -/
theorem risingBy_map {f : α → α} (hf : ∀ x, key (f x) = key x) (xs : List α) :
    risingBy key (xs.map f) = risingBy key xs := by
  induction xs with
  | nil => rfl
  | cons x xs ih =>
    cases xs with
    | nil => rfl
    | cons y ys =>
      have h : risingBy key (f y :: ys.map f) = risingBy key (y :: ys) := ih
      simp [risingBy, hf, h]

/-! ### Putting an entry in -/

theorem mem_putByKey {x y : α} {xs : List α} (h : y ∈ putByKey key x xs) : y = x ∨ y ∈ xs := by
  induction xs with
  | nil => simpa [putByKey] using h
  | cons z zs ih =>
    unfold putByKey at h
    split at h
    · simpa using h
    · split at h
      · rcases List.mem_cons.1 h with h | h
        · exact .inl h
        · exact .inr (List.mem_cons_of_mem _ h)
      · rcases List.mem_cons.1 h with h | h
        · exact .inr (h ▸ List.mem_cons_self ..)
        · exact (ih h).imp_right (List.mem_cons_of_mem _)

/-- Putting an entry in keeps the ascending order. -/
theorem risingBy_putByKey (x : α) {xs : List α} (h : risingBy key xs = true) :
    risingBy key (putByKey key x xs) = true := by
  induction xs with
  | nil => rfl
  | cons y ys ih =>
    have hy := risingBy_cons.1 h
    unfold putByKey
    split
    · rename_i hlt
      exact risingBy_cons.2 ⟨fun z hz => by
        rcases List.mem_cons.1 hz with rfl | hz
        · exact hlt
        · exact Nat.lt_trans hlt (hy.1 z hz), h⟩
    · split
      · rename_i heq
        exact risingBy_cons.2 ⟨fun z hz => heq ▸ hy.1 z hz, hy.2⟩
      · rename_i h1 h2
        refine risingBy_cons.2 ⟨fun z hz => ?_, ih hy.2⟩
        rcases mem_putByKey hz with rfl | hz
        · omega
        · exact hy.1 z hz

theorem length_putByKey_le (x : α) (xs : List α) : (putByKey key x xs).length ≤ xs.length + 1 := by
  induction xs with
  | nil => simp [putByKey]
  | cons y ys ih =>
    unfold putByKey
    split
    · simp
    · split
      · simp
      · simp only [List.length_cons]; omega

/-- Putting in an entry whose key is held leaves the length. -/
theorem length_putByKey_of_mem {x y : α} {xs : List α} (hr : risingBy key xs = true) (hy : y ∈ xs)
    (hk : key y = key x) : (putByKey key x xs).length = xs.length := by
  induction xs with
  | nil => cases hy
  | cons z zs ih =>
    have hz := risingBy_cons.1 hr
    unfold putByKey
    split
    · rename_i hlt
      rcases List.mem_cons.1 hy with rfl | hy
      · omega
      · have := hz.1 y hy; omega
    · split
      · rfl
      · rename_i h1 h2
        rcases List.mem_cons.1 hy with rfl | hy
        · exact absurd hk.symm h2
        · simp [ih hz.2 hy]

/-! ### Finding and dropping -/

/-- What is found is held and has the key. -/
theorem findByKey_some {k : Nat} {x : α} {xs : List α} (h : findByKey key k xs = some x) : x ∈ xs ∧ key x = k := by
  have hk := List.find?_some h
  exact ⟨List.mem_of_find?_eq_some h, by simpa using hk⟩

@[simp] theorem findByKey_putByKey_self {x : α} (xs : List α) : findByKey key (key x) (putByKey key x xs) = some x := by
  induction xs with
  | nil => simp [putByKey, findByKey]
  | cons y ys ih =>
    unfold putByKey
    split
    · simp [findByKey]
    · split
      · simp [findByKey]
      · rename_i h1 h2
        have : (key y == key x) = false := by simpa using fun h => h2 h.symm
        simp [findByKey, this] at ih ⊢
        exact ih

theorem findByKey_putByKey_of_ne {k : Nat} {x : α} (xs : List α) (hk : k ≠ key x) :
    findByKey key k (putByKey key x xs) = findByKey key k xs := by
  have hx : (key x == k) = false := by simpa using fun h => hk h.symm
  induction xs with
  | nil => simp [putByKey, findByKey, hx]
  | cons y ys ih =>
    unfold putByKey
    split
    · simp [findByKey, hx]
    · split
      · rename_i h1 h2
        have hy : (key y == k) = false := by simpa [← h2] using fun h => hk h.symm
        simp [findByKey, hx, hy]
      · simp only [findByKey, List.find?_cons] at ih ⊢
        cases key y == k
        · exact ih
        · rfl

theorem risingBy_dropKey {k : Nat} {xs : List α} (h : risingBy key xs = true) : risingBy key (dropKey key k xs) = true :=
  risingBy_sublist List.filter_sublist h

@[simp] theorem findByKey_dropKey_self {k : Nat} (xs : List α) : findByKey key k (dropKey key k xs) = none := by
  simp [findByKey, dropKey]

theorem risingBy_addNumber (n : Nat) {xs : List Nat} (h : risingBy id xs = true) : risingBy id (addNumber n xs) = true :=
  risingBy_putByKey n h

end Sys2Proof.Machine
end

