-- ==== Sys2Proof/Laws/Ops.lean ====
section
/-! SUPPORT. For each shared operation, what it can do said once: a request's answer, a claim on a ticket, the formed values, and
the operations that leave all but a few fields of the state as they were. -/

namespace Sys2Proof.Machine

/-! ### Checks and answers -/

section Checks
variable {α β : Type} {e : Status}

@[simp] theorem need_true (k : Except Status β) : need true e k = k := rfl
@[simp] theorem need_false (k : Except Status β) : need false e k = .error e := rfl
@[simp] theorem named_some (a : α) (k : α → Except Status β) : named (some a) e k = k a := rfl
@[simp] theorem named_none (k : α → Except Status β) : named none e k = .error e := rfl

/-- A check goes on to OK exactly when it holds. -/
theorem need_eq_ok {c : Bool} {k : Except Status β} {b : β} : need c e k = .ok b ↔ c = true ∧ k = .ok b := by
  cases c <;> simp [need]

theorem named_eq_ok {x : Option α} {k : α → Except Status β} {b : β} :
    named x e k = .ok b ↔ ∃ a, x = some a ∧ k a = .ok b := by
  cases x <;> simp [named]

end Checks

variable {s : State}

@[simp] theorem State.takeFrame_of_begun (h : s.frameBegun) : s.takeFrame = s := by
  unfold State.takeFrame; rw [show s.port.state = .receiving from h]

/-- A request is answered OK with its effect, or refused with the records as its frame found them (R174, R176). -/
theorem State.answer_cases (act : State → Except Status (State × List Byte)) :
    (∃ t payload, act s.takeFrame = .ok (t, payload) ∧ s.answer act = t.hold ⟨.ok, payload⟩)
      ∨ ∃ e, act s.takeFrame = .error e ∧ s.answer act = s.takeFrame.hold ⟨e, []⟩ := by
  unfold State.answer
  split
  · rename_i t payload h; exact .inl ⟨t, payload, h, rfl⟩
  · rename_i e h; exact .inr ⟨e, h, rfl⟩

/-! ### Tickets -/

theorem State.ticket_some {n : Nat} {t : Ticket} (h : s.ticket n = some t) : t ∈ s.tickets ∧ t.number = n :=
  findByKey_some h

/-- The record of a DISPENSE ticket stands in its ticket. -/
theorem State.dispense_some {n : Nat} {d : Dispense} :
    s.dispense n = some d ↔ ∃ t, s.ticket n = some t ∧ t.body = .dispense d := by
  unfold State.dispense
  split
  · rename_i h; rw [h]; simp
  · rename_i h
    constructor
    · intro h'; cases h'
    · rintro ⟨⟨a, b, c, e, f, g⟩, h1, h2⟩
      simp only at h2
      subst h2
      exact absurd h1 (h _ _ _ _ _ _)

@[simp] theorem State.ticket_putTicket_self (t : Ticket) : (s.putTicket t).ticket t.number = some t :=
  findByKey_putByKey_self s.tickets

theorem State.ticket_putTicket_of_ne {n : Nat} {t : Ticket} (h : n ≠ t.number) :
    (s.putTicket t).ticket n = s.ticket n :=
  findByKey_putByKey_of_ne s.tickets h

/-- A rewritten ticket is put in its place; a number no entry holds changes nothing. -/
theorem State.rewrite_cases (n : Nat) (b : TicketBody) :
    (∃ t, s.ticket n = some t ∧ s.rewrite n b = s.putTicket { t with body := b })
      ∨ s.ticket n = none ∧ s.rewrite n b = s := by
  unfold State.rewrite
  cases h : s.ticket n with
  | some t => exact .inl ⟨t, rfl, rfl⟩
  | none => exact .inr ⟨rfl, rfl⟩

/-- A claim changes a ticket that is in the state it is made for and nothing else (R11). -/
theorem State.claim_cases (n : Nat) (takenIn : DispenseState → Bool) (f : Dispense → Dispense) :
    (∃ d, s.dispense n = some d ∧ takenIn d.state = true ∧ s.claim n takenIn f = s.move n (.dispense (f d)))
      ∨ s.claim n takenIn f = s := by
  unfold State.claim
  split
  · rename_i d h
    split
    · rename_i hd; exact .inl ⟨d, h, hd, rfl⟩
    · exact .inr rfl
  · exact .inr rfl

/-- A change of counts rewrites the ticket and nothing else. -/
theorem State.adjust_cases (n : Nat) (f : Dispense → Dispense) :
    (∃ d, s.dispense n = some d ∧ s.adjust n f = s.rewrite n (.dispense (f d))) ∨ s.adjust n f = s := by
  unfold State.adjust
  split
  · rename_i d h; exact .inl ⟨d, h, rfl⟩
  · exact .inr rfl

/-- A rewrite touches the ticket table alone. -/
theorem State.rewrite_frame (n : Nat) (b : TicketBody) :
    s.rewrite n b = { s with tickets := (s.rewrite n b).tickets } := by
  rcases State.rewrite_cases (s := s) n b with ⟨t, -, h⟩ | ⟨-, h⟩ <;> rw [h]
  rfl

theorem State.move_frame (n : Nat) (b : TicketBody) :
    s.move n b = { s with tickets := (s.rewrite n b).tickets, changeSet := addNumber n s.changeSet,
                          reasons := s.reasons.add .tickets } := by
  unfold State.move; rw [State.rewrite_frame]; rfl

/-- A claim touches the ticket table, the change set and the reasons alone. -/
theorem State.claim_frame (n : Nat) (takenIn : DispenseState → Bool) (f : Dispense → Dispense) :
    s.claim n takenIn f = { s with tickets := (s.claim n takenIn f).tickets,
                                   changeSet := (s.claim n takenIn f).changeSet,
                                   reasons := (s.claim n takenIn f).reasons } := by
  rcases State.claim_cases (s := s) n takenIn f with ⟨d, -, -, h⟩ | h
  · rw [h, State.move_frame]
  · rw [h]

theorem State.adjust_frame (n : Nat) (f : Dispense → Dispense) :
    s.adjust n f = { s with tickets := (s.adjust n f).tickets } := by
  rcases State.adjust_cases (s := s) n f with ⟨d, -, h⟩ | h
  · rw [h, State.rewrite_frame]
  · rw [h]

/-! ### Retracts and alarms -/

/-- A retract is asked for a lane that has none, at the tail of the list (R83). -/
theorem State.askRetract_cases (e : Retract) :
    (s.retracting e.lane = false ∧ s.askRetract e = { s with retracts := s.retracts ++ [e] })
      ∨ (s.retracting e.lane = true ∧ s.askRetract e = s) := by
  unfold State.askRetract
  cases h : s.retracting e.lane <;> simp

/-- What is no change of a source hands nothing (R143). -/
theorem State.hand_same {o : Owned} {active : Bool} (h : (s.alarms.sources.get o).active = active) :
    s.hand o active = s := by
  unfold State.hand; rw [if_pos h]

/-- Close asked on a lane touches its presentation record alone (R87). -/
theorem State.askClose_cases (l : Lane) :
    (∃ p, s.presentations.get l = some p ∧ s.askClose l = s.putPresentation l (some { p with closeAsked := true }))
      ∨ (s.presentations.get l = none ∧ s.askClose l = s) := by
  unfold State.askClose
  split
  · rename_i p h; exact .inl ⟨p, h, rfl⟩
  · rename_i h; exact .inr ⟨h, rfl⟩

/-! ### The formed values -/

/-- Forming the values a second time changes nothing. -/
theorem State.reform_reform : s.reform.reform = s.reform := by
  have h : ∀ (l : Lane) (r : LaneRec), s.reform.formLane l (s.formLane l r) = s.formLane l r := fun l r => by
    cases l <;> rfl
  have hl : s.reform.lanes.mapWith s.reform.formLane = s.reform.lanes := PerLane_ext fun l => by simp [h]
  have hs : (s.reform.slots.mapWith fun p x => { x with committed := s.reform.committedAt p }) = s.reform.slots :=
    PerPos_ext fun p => by simp [State.committedAt]
  calc s.reform.reform
      = { s.reform with
            lanes := s.reform.lanes.mapWith s.reform.formLane,
            slots := s.reform.slots.mapWith fun p x => { x with committed := s.reform.committedAt p } } := rfl
    _ = s.reform := by rw [hl, hs]

/-- What has just been formed is formed. -/
theorem State.formed_reform : s.reform.formed = true := by simp [State.formed, State.reform_reform]

/-- The formed values are those of the rules. -/
theorem State.reform_of_formed (h : s.formed = true) : s.reform = s := by simpa [State.formed] using h

/-! ### The note in escrow while the wall pauses -/

/-- Under LOCKDOWN or a count point every note in escrow is for the tray (R112 rows 1 and 2). -/
theorem State.destination_of_pausing {s : State} (h : s.pausing = true) (withD : Bool) (e : Escrow) :
    s.destination withD e = .tray := by
  unfold State.destination
  split <;> simp [h]

/-- So a note decided then is sent to the tray at once (R112, R115). -/
theorem State.decideNote_of_pausing {s : State} (h : s.pausing = true) (e : Escrow) :
    s.decideNote e = { s with intakeRec := { s.intakeRec with escrow := some e } }.placeNote .tray := by
  have := State.destination_of_pausing (s := { s with intakeRec := { s.intakeRec with escrow := some e } }) h true e
  simp only [State.decideNote, this]

/-! ### The counts of a slot -/

section Counts
variable (n next : Nat) (x : Slot)

/-- Lowering both figures by the smaller leaves their difference, and so the count's rule, as it was (R34). -/
theorem Slot.relieve_counts (h : x.counts) : (x.relieve next).counts := by
  unfold Slot.relieve
  split
  · simp only [Slot.counts] at *; omega
  · exact h

/-- A pick takes its notes from the count. -/
@[simp] theorem Slot.takeOut_count : (x.takeOut n).count = x.count - n := by
  unfold Slot.takeOut Slot.relieve; split <;> rfl

/-- A pick of no more notes than the count holds keeps the count's rule. -/
theorem Slot.takeOut_counts (h : x.counts) (hn : n ≤ x.count) : (x.takeOut n).counts := by
  unfold Slot.takeOut Slot.relieve
  split <;> simp only [Slot.counts] at * <;> omega

/-- A result's notes come off the count as far as it reaches. -/
@[simp] theorem Slot.removeNotes_count : (x.removeNotes n).count = x.count - n := by
  have taken : (if min n x.count = 0 then x else x.takeOut (min n x.count)).count = x.count - n := by
    split
    · omega
    · rw [Slot.takeOut_count]; omega
  unfold Slot.removeNotes
  simp only
  split <;> exact taken

/-- A result keeps the count's rule, whatever it removes. -/
theorem Slot.removeNotes_counts (h : x.counts) : (x.removeNotes n).counts := by
  have taken : (if min n x.count = 0 then x else x.takeOut (min n x.count)).counts := by
    split
    · exact h
    · exact Slot.takeOut_counts _ _ h (Nat.min_le_right ..)
  unfold Slot.removeNotes
  simp only
  split <;> exact taken

/-- A store keeps the count's rule (R45). -/
theorem Slot.addNote_counts (h : x.counts) : x.addNote.counts := by
  have y := Slot.relieve_counts (x.storedIn + 1) x h
  simp only [Slot.counts, Slot.addNote] at *
  omega

end Counts

end Sys2Proof.Machine
end

