-- ==== Sys2Proof/Laws/Tickets.lean ====
section
/-! SUPPORT. What the ticket operations do to a ticket that is held: one equation for each, so that a proof about a request or a
claim need not unfold the table. -/

namespace Sys2Proof.Machine

section Keyed
variable {α : Type} {key : α → Nat}

/-- An entry put in twice under one key is the second alone. -/
theorem putByKey_putByKey {x y : α} (h : key x = key y) (xs : List α) :
    putByKey key y (putByKey key x xs) = putByKey key y xs := by
  induction xs with
  | nil => simp [putByKey, h]
  | cons z zs ih =>
    simp only [putByKey, h]
    split
    · simp [putByKey, h]
    · split
      · simp [putByKey, h]
      · rename_i h1 h2
        simp only [putByKey, h1, h2, if_false, ih]

end Keyed

variable {s : State} {t u : Ticket} {b : TicketBody}

@[simp] theorem State.putTicket_putTicket (h : t.number = u.number) : (s.putTicket t).putTicket u = s.putTicket u := by
  simp [State.putTicket, putByKey_putByKey h]

@[simp] theorem State.putTicket_ticketEnters (h : t.number = u.number) :
    (s.putTicket t).ticketEnters u = s.ticketEnters u := by
  simp [State.putTicket, State.ticketEnters, putByKey_putByKey h]

@[simp] theorem State.ticket_ticketEnters_self : (s.ticketEnters t).ticket t.number = some t :=
  findByKey_putByKey_self s.tickets

/-- The body of a held ticket replaced. -/
theorem State.rewrite_held (h : s.ticket t.number = some t) : s.rewrite t.number b = s.putTicket { t with body := b } := by
  simp [State.rewrite, h]

/-- The body of a held ticket replaced as it enters a state (R32). -/
theorem State.move_held (h : s.ticket t.number = some t) : s.move t.number b = s.ticketEnters { t with body := b } := by
  simp [State.move, State.rewrite, h, State.putTicket, State.noteTicket, State.ticketEnters]

/-- A claim that is taken (R11). -/
theorem State.claim_held {d : Dispense} {takenIn : DispenseState → Bool} {f : Dispense → Dispense}
    (h : s.holdsDispense t d) (hd : takenIn d.state = true) :
    s.claim t.number takenIn f = s.ticketEnters { t with body := .dispense (f d) } := by
  have hs : s.dispense t.number = some d := State.dispense_some.2 ⟨t, h⟩
  simp only [State.claim, hs, hd, if_true]
  exact State.move_held h.1

/-- A change of counts on a held ticket. -/
theorem State.adjust_held {d : Dispense} {f : Dispense → Dispense} (h : s.holdsDispense t d) :
    s.adjust t.number f = s.putTicket { t with body := .dispense (f d) } := by
  have hs : s.dispense t.number = some d := State.dispense_some.2 ⟨t, h⟩
  simp only [State.adjust, hs]
  exact State.rewrite_held h.1

/-- A ticket that has just entered QUEUED at the tail of the pick queue (R20). -/
theorem State.joinQueue_enters {d : Dispense} (h : t.body = .dispense d) :
    (s.ticketEnters t).joinQueue t.number =
      { s.ticketEnters { t with body := .dispense { d with queueStamp := some s.nextStamp } } with
        pickQueue := s.pickQueue ++ [t.number], nextStamp := s.nextStamp + 1 } := by
  have hd : (s.ticketEnters t).holdsDispense t d := ⟨State.ticket_ticketEnters_self, h⟩
  simp only [State.joinQueue, State.adjust_held hd]
  simp only [State.putTicket, State.ticketEnters]
  rw [putByKey_putByKey (by rfl)]

/-- A ticket opened under the number issued (R1, R4). -/
theorem State.openTicket_enters (l : Lane) (opener : Option Teller) (mark : TellerSet) :
    s.openTicket l opener mark b =
      { s.ticketEnters { number := s.issueNumber, lane := l, opener := opener, openStamp := s.nextStamp, mark := mark,
                         body := b } with
        nextNumber := if s.issueNumber < 9999 then s.issueNumber + 1 else 1, nextStamp := s.nextStamp + 1 } := rfl

end Sys2Proof.Machine
end

