-- ==== Sys2Proof/Tests/Slice0.lean ====
section
/-! SUPPORT. The model's own tests: the well-formedness smoke, steps whose results are read off the reference's worked examples, and
for each statement with hypotheses a concrete case that meets them. -/

namespace Sys2Proof.Tests

open Sys2Proof Sys2Proof.Machine

/-! ### A small wall -/

/-- Whether an outcome is a next state with the property. -/
def after (o : Host.Outcome State Fault Refusal) (p : State → Bool) : Bool :=
  match o with
  | .next t => p t
  | .fault _ => false
  | .refused _ => false

/-- A cassette in service. -/
def cassette (code value capacity count : Nat) : Slot :=
  { Slot.empty with
    state := .inService, base := count, count := count,
    identity := some ⟨[], code, value, capacity, 100, 150, true, []⟩ }

/-- A lane ONLINE with its drawer shut and its bin verified. -/
def laneUp : LaneRec :=
  { LaneRec.reset with
    link := .online, repDrawer := some .locked, repNotes := some false, repFault := some false, handedDrawer := some .locked,
    repSlot := some .closed, binVerified := true, lastEvent := some 0 }

/-- A wall of eight lanes in SERVICE, with a request frame begun: no cassette in A, 300 notes of 20 in B, 400 of 50 in C,
1497 of 20 in D; a dual-control limit of 3000 and recycling on. -/
def wall : State :=
  { State.reset with
    wall := ⟨true, false, true⟩, sweepPending := false, lanes := .const laneUp,
    params := { Params.default with
      laneCount := 8, dualLimit := 3000, recycling := true,
      denominations := ⟨none, none, some 20, none, some 50, none, none, none⟩ },
    slots := ⟨.empty, cassette 3 20 1000 300, cassette 5 50 1000 400, cassette 3 20 1500 1497⟩,
    ring := { State.reset.ring with started := true, frameNumber := 255, enabledCount := 8 },
    port := { Port.reset with state := .receiving } }

/-- A DISPENSE record of 240 by 12 notes of B, some of them picked. -/
def dsp (st : DispenseState) (picked : Nat := 0) : Dispense :=
  { state := st, amount := 240, plan := [⟨.b, 12, picked, 20⟩], dualRequired := true, first := .a, second := none,
    queueStamp := none, goodPicked := picked, presented := picked, delivered := 0, retracted := 0, unresolved := picked,
    rejectPicks := 0, halt := none, laneLost := false, recalled := false, deadline := none }

/-- A ticket of lane 3 opened by A. -/
def tkt (n : Nat) (b : TicketBody) : Ticket :=
  { number := n, lane := .l3, opener := some .a, openStamp := n, mark := ⟨false, false⟩, body := b }

/-- A DISPENSE ticket. -/
def tktD (n : Nat) (d : Dispense) : Ticket := tkt n (.dispense d)

/-- An ENVELOPE record. -/
def env (st : EnvelopeState) : Envelope := { state := st, amount := none, sequence := none }

/-- An INTAKE record. -/
def itk (st : IntakeState) : Intake :=
  { state := st, amount := 0, accepted := .const 0, recycled := 0, vaulted := 0, returned := 0 }

/-- The wall with some tickets. -/
def holding (ts : List Ticket) : State := { wall with tickets := ts }

/-- The wall with one DISPENSE ticket, number 7. -/
def holdingD (d : Dispense) : State := holding [tktD 7 d]

/-- The wall with its ticket table full. -/
def fullTable : State := holding ((List.range 32).map fun k => tktD (k + 1) (dsp .delivered))

/-- The wall in SETUP. -/
def inSetup : State := { wall with wall := ⟨false, false, true⟩ }

/-- The wall in LOCKDOWN. -/
def locked : State := { wall with alarms := { Alarms.reset with lockdown := true } }

/-- The picker FEEDING at a position for ticket 7. -/
def feeding (p : Pos) : Picker :=
  { state := .feeding, ticket := some 7, position := some p, refs := ⟨100, 150, 20⟩, feedStarted := none, fedFrom := .slot }

/-! ### Well-formedness: an ill-formed command is refused by each check -/

theorem test_wf_ticket_number : (Instr.lookup 65535).wellFormed = true ∧ (Instr.lookup 65536).wellFormed = false := by
  decide

theorem test_wf_byte : (Instr.binSet 1 255).wellFormed = true ∧ (Instr.binSet 1 256).wellFormed = false
    ∧ (Instr.approve 7 256).wellFormed = false ∧ (Instr.positionRelease 256 1).wellFormed = false := by decide

theorem test_wf_amount : (Instr.openDispense 1 1 0xFFFFFF []).wellFormed = true
    ∧ (Instr.openDispense 1 1 0x1000000 []).wellFormed = false := by decide

theorem test_wf_segments : (Instr.amend 1 1 1 [⟨255, 255⟩]).wellFormed = true
    ∧ (Instr.amend 1 1 1 [⟨256, 1⟩]).wellFormed = false ∧ (Instr.amend 1 1 1 [⟨1, 256⟩]).wellFormed = false
    ∧ (Instr.amend 1 1 1 (List.replicate 27 ⟨1, 1⟩)).wellFormed = false
    ∧ (Instr.openDispense 1 1 1 (List.replicate 28 ⟨1, 1⟩)).wellFormed = false := by decide

theorem test_wf_items : (Instr.configure [.laneCount 8, .unnamed 0x11]).wellFormed = true
    ∧ (Instr.configure []).wellFormed = false ∧ (Instr.configure [.laneCount 256]).wellFormed = false
    ∧ (Instr.configure [.unnamed 0x10]).wellFormed = false
    ∧ (Instr.configure [.unnamed 0x11, .laneCount 8]).wellFormed = false
    ∧ (Instr.configure (List.replicate 31 (.laneCount 8))).wellFormed = false := by decide

theorem test_wf_bad_frame : (Instr.badFrame false [1]).wellFormed = true ∧ (Instr.badFrame false [0]).wellFormed = false
    ∧ (Instr.badFrame false []).wellFormed = false ∧ (Instr.badFrame false (withCrc [0x0D, 0])).wellFormed = false := by
  decide +kernel

theorem test_wf_tries : (Instr.identityReadEnd [none, none, none]).wellFormed = true
    ∧ (Instr.identityReadEnd []).wellFormed = false
    ∧ (Instr.identityReadEnd [none, none, none, none]).wellFormed = false
    ∧ (Instr.identityReadEnd [some (List.replicate 65 0)]).wellFormed = false
    ∧ (Instr.tagWriteEnd [none, none, none]).wellFormed = false := by decide

/-! ### Steps of the reference's examples -/

/-- R4: with the counter at 9998 and 9999, 1 and 2 held, the numbers issued are 9998 and then 3, the counter 4. -/
theorem test_numbers_issued :
    after (exec (.openEnvelope 1 1) { holding [tktD 1 (dsp .staged), tktD 2 (dsp .staged), tktD 9999 (dsp .staged)] with
      nextNumber := 9998 }) (fun t => decide ((t.ticket 9998).isSome ∧ t.nextNumber = 9999)) = true
    ∧ after (exec (.openIntake 1 1) { holding [tktD 1 (dsp .staged), tktD 2 (dsp .staged), tktD 9999 (dsp .staged)] with
      nextNumber := 9999 }) (fun t => decide ((t.ticket 3).isSome ∧ t.nextNumber = 4)) = true := by decide

/-- Section 1.6, example, line 1: 2900 by B 120 and C 10 is not above the limit and enters QUEUED. -/
theorem test_open_dispense : after (exec (.openDispense 1 2 2900 [⟨2, 120⟩, ⟨3, 10⟩]) wall) (fun t =>
    decide ((t.dispense 1).map Dispense.state = some .queued ∧ t.slots.b.committed = 120 ∧ t.slots.c.committed = 10
      ∧ t.pickQueue = [1])) = true := by decide

/-- Section 1.6, example, line 3: 3600 by B 180 exceeds the limit and waits for its second approval, its notes committed. -/
theorem test_open_dispense_dual : after (exec (.openDispense 2 3 3600 [⟨2, 180⟩]) wall) (fun t =>
    decide ((t.dispense 1).map Dispense.state = some .awaitingSecond ∧ t.slots.b.committed = 180 ∧ t.pickQueue = []))
    = true := by decide

/-- Section 1.6, example, line 4: a DOUBLE takes two notes from B and adds two reject picks, and commits no less. -/
theorem test_double : after (exec (.gaugeResult 200 150)
      { holdingD { dsp .picking 1 with plan := [⟨.b, 120, 1, 20⟩] } with picker := feeding .b }) (fun t =>
    decide (t.slots.b.count = 298 ∧ t.slots.b.committed = 119 ∧ (t.dispense 7).map Dispense.rejectPicks = some 2
      ∧ (t.dispense 7).map Dispense.goodPicked = some 1)) = true := by decide

/-- Section 2.4, example: with count 2 and picked out 1, a DOUBLE leaves count 0, picked out 3, window fail, pass, and ZERO. -/
theorem test_short_run : after (exec (.gaugeResult 200 150)
      { wall with
        slots := { wall.slots with b := { cassette 3 20 2000 2 with base := 3, pickedOut := 1, window := [false] } },
        picker := feeding .b }) (fun t =>
    decide (t.slots.b.count = 0 ∧ t.slots.b.base = 3 ∧ t.slots.b.pickedOut = 3 ∧ t.slots.b.overrun = 0
      ∧ t.slots.b.window = [true, false] ∧ t.slots.b.depleted = .zero ∧ t.slots.b.low = true)) = true := by decide

/-- Section 2.8, example, steps 4 and 5: the gate alternates between the claimants. -/
theorem test_gate_alternates :
    after (exec (.gaugeResult 100 150)
      { holding [tktD 7 { dsp .picking with plan := [⟨.d, 12, 0, 20⟩] }, tkt 8 (.intake (itk .collecting))] with
        picker := feeding .d, gate := ⟨some .picker, false, true, some .picker⟩,
        intakeRec := { IntakeRec.idleRec with
          state := .waitingGate, owner := some 8, escrow := some ⟨some .c3, some 20⟩ } }) (fun t =>
      decide (t.gate = ⟨some .deposit, true, false, some .deposit⟩ ∧ t.slots.d.count = 1496)) = true
    ∧ after (exec .notePlaced
      { holding [tktD 7 { dsp .picking 1 with plan := [⟨.d, 12, 1, 20⟩] }, tkt 8 (.intake (itk .collecting))] with
        picker := { feeding .d with state := .waitingGate }, gate := ⟨some .deposit, true, false, some .deposit⟩,
        intakeRec := { IntakeRec.idleRec with
          state := .placing, owner := some 8, escrow := some ⟨some .c3, some 20⟩, destination := some .cassetteD } })
      (fun t => decide (t.gate = ⟨some .picker, false, false, some .picker⟩ ∧ t.slots.d.count = 1498
        ∧ t.picker.state = .feeding)) = true := by decide

/-- Section 3.3, example: with the cassette of D drawn out, its third note counts to the copy and the next segment check
halts the ticket with REMOVED. -/
theorem test_removed_halts : after (exec (.gaugeResult 100 150)
      { holdingD { dsp .picking 2 with plan := [⟨.d, 5, 2, 20⟩] } with
        slots := { wall.slots with d := .empty },
        retiring := { State.reset.retiring with d := some ⟨cassette 3 20 1500 398, .unreleased, 0, false⟩ },
        picker := { feeding .d with fedFrom := .copy } }) (fun t =>
    decide ((t.dispense 7).map (fun d => (d.state, d.halt, d.goodPicked)) = some (.pickHalted, some .removed, 3)
      ∧ t.retiring.d.map (fun r => r.slot.count) = some 397 ∧ t.picker.state = .idle)) = true := by decide

/-- Section 3.3, example: the AMEND by C 2 ends the D segment at its picked notes and picking goes on at C. -/
theorem test_amend_halted : after (exec (.amend 7 1 0xFFFFFF [⟨3, 2⟩])
      { holdingD { dsp .pickHalted 3 with amount := 160, plan := [⟨.d, 5, 3, 20⟩] } with
        staging := ⟨some 7, 3, 60, false, .idle⟩ }) (fun t =>
    decide ((t.dispense 7).map Dispense.plan = some [⟨.d, 3, 3, 20⟩, ⟨.c, 2, 0, 50⟩]
      ∧ (t.dispense 7).map Dispense.state = some .picking ∧ t.picker.position = some .c
      ∧ t.slots.d.committed = 0 ∧ t.slots.c.committed = 2)) = true := by decide

/-- Section 3.6, example: 5 notes of 12 come back, so 5 are retracted and 7 delivered, and the vault goes from 420 to 425. -/
theorem test_partial_take : after (exec (.retractCompletion 5)
      { holdingD (dsp .retracting 12) with
        rejectVault := { RejectVault.reset with pickRejects := 420 },
        route := .retracting .l3 (.ticket 7) .ticket 12 }) (fun t =>
    decide ((t.dispense 7).map (fun d => (d.state, d.retracted, d.delivered)) = some (.returned, 5, 7)
      ∧ t.rejectVault.count = 425 ∧ t.route = .free)) = true := by decide

/-- Section 4.5, example: CLEAR JAM with CAPTURED fills the bin, so the slot stays closed. -/
theorem test_clear_jam : after (exec (.clearJam 7 1)
      { holding [tkt 7 (.envelope (env .jammed))] with
        params := { wall.params with autoEnvelope := true },
        lanes := wall.lanes.set .l3 { laneUp with binCount := 119 },
        handlings := State.reset.handlings.set .l3 ⟨.jammed, some 7, some .station, none, 0⟩ }) (fun t =>
    decide ((t.envelope 7).map (fun e => (e.state, e.sequence)) = some (.envelopeHeld, some 120)
      ∧ (t.lane .l3).binCount = 120 ∧ (t.lane .l3).desiredSlot = .closed)) = true := by decide

/-- Section 4.6, example: a note of value 50 is placed in the vault, and at a full cassette one of value 20 goes there too. -/
theorem test_intake_run :
    after (exec .notePlaced { holding [tkt 7 (.intake { itk .collecting with amount := 20, recycled := 1 })] with
        intakeRec := { IntakeRec.idleRec with
          state := .placing, owner := some 7, escrow := some ⟨some .c5, some 50⟩, destination := some .vault } })
      (fun t => decide ((t.intake 7).map (fun k => (k.amount, k.vaulted, k.accepted.c5)) = some (70, 1, 1)
        ∧ t.intakeVault.total = 1)) = true
    ∧ after (exec (.escrowEvent (some .c3)) { holding [tkt 7 (.intake (itk .collecting))] with
        slots := { wall.slots with d := cassette 3 20 1500 1500 },
        intakeRec := { IntakeRec.idleRec with state := .ready, owner := some 7 } })
      (fun t => decide (t.intakeRec.destination = some .vault ∧ t.intakeRec.state = .placing)) = true := by decide

/-- Section 5.5, example, frames 43 and 46: a stamp mismatch takes the lane to JOINING at once; the second kind of status
word brings it back. -/
theorem test_lane_loses_the_frame :
    after (exec .frameEnd { wall with lanes := wall.lanes.set .l3 { laneUp with slotReply := some (.receiveError true) } })
      (fun t => decide ((t.lane .l3).link = .joining ∧ (t.lane .l3).badRun = 1)) = true
    ∧ after (exec .frameEnd { wall with lanes := wall.lanes.set .l3 { laneUp with
        link := .joining, joinRun := .statusD, slotReply := some (.valid (.statusL .closed .idle false false 13)) } })
      (fun t => decide ((t.lane .l3).link = .online ∧ (t.lane .l3).joinRun = .idle)) = true := by decide

/-- Section 7.7, example: a failed write-back of D publishes TAG_WRITE_FAILED with D tag stale and its unverified flag kept,
and the pending RELEASE count point begins. -/
theorem test_failed_write_back : after (exec (.tagWriteEnd [none, none])
      { wall with
        slots := { wall.slots with d :=
          { cassette 5 50 1500 90 with state := .releasePending, unverified := true, prior := some .inService } },
        tagLink := ⟨[], some ⟨⟨.countWriteBack 42, .d⟩, []⟩⟩, forming := some (wall.formBalance ⟨false, false, false, false⟩),
        countPoint := { CountPoint.reset with
          state := .balancing, causes := ⟨true, false, false, false⟩, number := 41, writeBack := .single .d, pending := true,
          pendingCauses := ⟨false, true, false, false⟩, pendingRelease := .single .d } }) (fun t =>
    decide (t.balance.map (fun b => (b.number, b.result)) = some (42, .tagWriteFailed) ∧ t.slots.d.tagStale = true
      ∧ t.slots.d.unverified = true ∧ t.countPoint.state = .quiescing ∧ t.countPoint.release = .single .d
      ∧ t.slots.d.state = .releasePending)) = true := by decide

/-! ### Cases that meet the statements' hypotheses: the machine and the Request Port -/

theorem witness_StepTakesTheFrontCommand :
    ({ wall with pending := [.frameEnd, .identify] } : State).pending = .frameEnd :: [.identify] := by decide

theorem witness_IdleStepIsOneSecond : State.reset.pending = [] := by decide

/-- The port with a response of one byte's status held. -/
def answered : State := { wall with port := { Port.reset with state := .ready, held := some ⟨.ok, []⟩ } }

theorem witness_FrameBeginsByPortState :
    State.reset.port.state = .idle
    ∧ ({ wall with port := { Port.reset with state := .acting } } : State).port.state = .acting
    ∧ answered.port.state = .ready := by decide

theorem witness_RefusedRequestChangesNothing :
    isRequest (.lookup 0) = true ∧ wall.frameBegun
    ∧ after (exec (.lookup 0) wall) (fun t => decide (t.port.held = some ⟨.range, []⟩)) = true
    ∧ after (exec .identify wall) (fun t => decide (t.port.held.map Response.status = some .ok)) = true := by decide

theorem witness_BadFrameIsAnsweredAndResponseRead_badFrame :
    wall.frameBegun ∧ (0x21 : Byte) ≠ 0 ∧ frameSound false [0x21] = false
    ∧ frameSound false (0x21 :: (withCrc [0x21, 0]).tail) = true ∧ 0x20 < (0x21 : Byte).toNat
    ∧ frameSound false (0x20 :: (withCrc [0x20, 0]).tail) = true ∧ (0x20 : Byte).toNat ≤ 0x20
    ∧ readRequest 0x20 (((withCrc [0x20, 0]).tail.drop 1).take ((withCrc [0x20, 0]).tail.length - 3)) = none := by
  decide +kernel

theorem witness_BadFrameIsAnsweredAndResponseRead_read :
    1 ≤ 1 ∧ answered.port.state = .ready ∧ answered.port.held = some ⟨.ok, []⟩ ∧ wall.port.state ≠ .ready := by decide

theorem witness_RequestFrameReadsBack :
    (Instr.amend 65535 255 0xFFFFFF [⟨255, 255⟩]).wellFormed = true
    ∧ (requestFrame (.amend 65535 255 0xFFFFFF [⟨255, 255⟩])).isSome = true
    ∧ (Instr.configure [.denominations 1 [65535, 0], .laneCount 8]).wellFormed = true
    ∧ (requestFrame (.configure [.denominations 1 [65535, 0], .laneCount 8])).isSome = true := by decide

/-- The identity of a cassette whose tag was read, a slot with it, and a wall with that slot and its copy (R189). -/
theorem witness_PayloadsAreLaidOut :
    (∀ k, ({ cassette 3 20 1000 300 with identity := some (Identity.ofTag (List.replicate 64 0)) } : Slot).identity = some k →
      k.serial.length = 8 ∧ k.image.length = 64)
    ∧ ({ cassette 3 20 1000 300 with identity := some (Identity.ofTag (List.replicate 64 0)) } : Slot).block.length = 41
    ∧ (∀ p, ((wall.formBalance ⟨false, false, false, false⟩).slots.get p = wall.slots.get p))
    ∧ State.reset.params.classTable.length = 64 ∧ State.reset.configBytes.length = 130
    ∧ (holdingD (dsp .staged)).lookupBytes (tktD 7 (dsp .staged))
        = [0, 7, 1, 3, 6, 1, 0, 0, 0, 240, 1, 1, 255, 255, 0, 0, 0, 0, 0, 0, 0, 255, 0, 0, 255, 255, 1, 2, 12, 0, 0, 20] := by
  refine ⟨fun k h => ?_, by decide, fun p => rfl, by decide, by decide +kernel, by decide⟩
  cases h; decide

/-- Met by each statement whose one hypothesis is that a frame has begun: READ ATTENTION, the readings, START WALL, ENTER
SETUP, OPEN ENVELOPE and OPEN INTAKE, APPROVE, POSITION REINSTATE, BIN SET and RESUME. -/
theorem witness_FrameBegun : wall.frameBegun ∧ inSetup.frameBegun ∧ locked.frameBegun := by decide

/-! ### Cases: tickets -/

theorem witness_NumberIssuedIsTheFirstFree :
    { holdingD (dsp .queued) with nextNumber := 9999 }.tablesOrdered
    ∧ ({ holdingD (dsp .queued) with nextNumber := 9999 } : State).hasFreeEntry = true := by
  unfold State.tablesOrdered; decide

theorem witness_OpenDispenseChecks :
    inSetup.frameBegun ∧ inSetup.wall.service = false ∧ wall.wall.service = true ∧ Teller.ofNat? 2 = some .b
    ∧ wall.namedLane 8 = some .l8 ∧ wall.namedLane 9 = none ∧ namedSegments [⟨2, 200⟩] = some [⟨.b, 200⟩]
    ∧ (fullTable.frameBegun ∧ fullTable.wall.service = true ∧ fullTable.hasFreeEntry = false
        ∧ fullTable.namedLane 8 = some .l8)
    ∧ (wall.hasFreeEntry = true ∧ namedSegments [⟨1, 1⟩] = some [⟨.a, 1⟩] ∧ (wall.slot .a).state ≠ .inService)
    ∧ ((∀ x ∈ ([⟨.b, 200⟩] : List Ask), (wall.slot x.position).state = .inService)
        ∧ (([⟨.b, 200⟩] : List Ask).map fun x => x.notes * wall.noteValueAt x.position).sum ≠ 3999) := by decide

/-- The wall with 101 notes of B committed, so that 199 are available. -/
def shortWall : State := { wall with slots := { wall.slots with b := { cassette 3 20 1000 300 with committed := 101 } } }

theorem witness_OpenDispenseShort :
    shortWall.frameBegun ∧ shortWall.wall.service = true ∧ shortWall.hasFreeEntry = true
    ∧ (([⟨.b, 200⟩] : List Ask).map fun x => x.notes * shortWall.noteValueAt x.position).sum = 4000
    ∧ (shortWall.slot .b).state = .inService
    ∧ (shortWall.slot .b).count - (shortWall.slot .b).committed
        < (([⟨.b, 200⟩] : List Ask).map fun x => if x.position = .b then x.notes else 0).sum := by decide

theorem witness_OpenDispenseOpens :
    wall.frameBegun ∧ wall.wall.service = true ∧ Teller.ofNat? 1 = some .a ∧ wall.namedLane 2 = some .l2
    ∧ 1 ≤ 4000 ∧ 4000 ≤ 999999 ∧ namedSegments [⟨2, 200⟩] = some [⟨.b, 200⟩] ∧ wall.hasFreeEntry = true
    ∧ (∀ x ∈ ([⟨.b, 200⟩] : List Ask), (wall.slot x.position).state = .inService)
    ∧ (([⟨.b, 200⟩] : List Ask).map fun x => x.notes * wall.noteValueAt x.position).sum = 4000
    ∧ ∀ p, (([⟨.b, 200⟩] : List Ask).map fun x => if x.position = p then x.notes else 0).sum
        ≤ (wall.slot p).count - (wall.slot p).committed := by
  refine ⟨by decide, by decide, by decide, by decide, by decide, by decide, by decide, by decide, by decide, by decide, ?_⟩
  intro p; cases p <;> decide

/-- Met by every statement about a DISPENSE ticket held in a state. -/
theorem witness_holdsDispense (d : Dispense) : (holdingD d).holdsDispense (tktD 7 d) d := ⟨rfl, rfl⟩

/-- Met by every statement about an ENVELOPE ticket held in a state. -/
theorem witness_holdsEnvelope (e : Envelope) : (holding [tkt 7 (.envelope e)]).holdsEnvelope (tkt 7 (.envelope e)) e :=
  ⟨rfl, rfl⟩

/-- Met by every statement about an INTAKE ticket held in a state. -/
theorem witness_holdsIntake (k : Intake) : (holding [tkt 7 (.intake k)]).holdsIntake (tkt 7 (.intake k)) k := ⟨rfl, rfl⟩

/-- A ticket of lane 3 PRESENTED with 12 notes, its take timer running. -/
def presented : State :=
  { holdingD { dsp .presented 12 with deadline := some ⟨.take, 45⟩ } with
    presentations := State.reset.presentations.set .l3 (some ⟨7, true, false, false⟩) }

theorem witness_TimersRunOut :
    (holdingD (dsp .awaitingSecond)).holdsDispense (tktD 7 (dsp .awaitingSecond)) (dsp .awaitingSecond)
    ∧ (presented.holdsDispense (tktD 7 { dsp .presented 12 with deadline := some ⟨.take, 45⟩ })
          { dsp .presented 12 with deadline := some ⟨.take, 45⟩ }
        ∧ presented.presentations.get .l3 = some ⟨7, true, false, false⟩) := by decide

theorem witness_AmendBeforePicking_sameAmount :
    (holdingD (dsp .awaitingSecond)).frameBegun ∧ (holdingD (dsp .awaitingSecond)).wall.service = true
    ∧ optionalAmount 0xFFFFFF = some none ∧ optionalSegments [⟨2, 12⟩] = some [⟨.b, 12⟩]
    ∧ (holdingD (dsp .awaitingSecond)).holdsDispense (tktD 7 (dsp .awaitingSecond)) (dsp .awaitingSecond)
    ∧ (none : Option Nat).getD (dsp .awaitingSecond).amount = 240
    ∧ ((holdingD (dsp .awaitingSecond)).slot .b).state = .inService
    ∧ planValue [⟨.b, 12, 0, (holdingD (dsp .awaitingSecond)).noteValueAt .b⟩] = 240
    ∧ ∀ p, (([⟨.b, 12⟩] : List Ask).map fun x => if x.position = p then x.notes else 0).sum
        ≤ ((holdingD (dsp .awaitingSecond)).slot p).count
          - (((holdingD (dsp .awaitingSecond)).slot p).committed - unpickedAt p (dsp .awaitingSecond).plan) := by
  refine ⟨by decide, by decide, by decide, by decide, by decide, by decide, by decide, by decide, ?_⟩
  intro p; cases p <;> decide

theorem witness_AmendBeforePicking_newAmount :
    { holdingD (dsp .queued) with pickQueue := [7] }.frameBegun
    ∧ optionalAmount 100 = some (some 100) ∧ optionalSegments [⟨3, 2⟩] = some [⟨.c, 2⟩]
    ∧ { holdingD (dsp .queued) with pickQueue := [7] }.holdsDispense (tktD 7 (dsp .queued)) (dsp .queued)
    ∧ (some 100).getD (dsp .queued).amount ≠ (dsp .queued).amount
    ∧ ((holdingD (dsp .queued)).slot .c).state = .inService
    ∧ planValue [⟨.c, 2, 0, (holdingD (dsp .queued)).noteValueAt .c⟩] = 100
    ∧ ∀ p, (([⟨.c, 2⟩] : List Ask).map fun x => if x.position = p then x.notes else 0).sum
        ≤ ((holdingD (dsp .queued)).slot p).count
          - (((holdingD (dsp .queued)).slot p).committed - unpickedAt p (dsp .queued).plan) := by
  refine ⟨by decide, by decide, by decide, by decide, by decide, by decide, by decide, ?_⟩
  intro p; cases p <;> decide

/-- Ticket 7 QUEUED, its 12 notes of B committed. -/
def amending : State :=
  { holdingD (dsp .queued) with slots := { wall.slots with b := { cassette 3 20 1000 300 with committed := 12 } } }

/-- AMEND of ticket 7, for each refusal: neither an amount nor segments, a position with no cassette, another value, and
more notes than D has. -/
theorem witness_AmendBeforePicking_refused :
    inSetup.frameBegun ∧ inSetup.wall.service = false ∧ amending.frameBegun ∧ amending.wall.service = true
    ∧ 200 < (([⟨2, 150⟩, ⟨3, 51⟩] : List SegmentArg).map SegmentArg.notes).sum ∧ amending.ticket 8 = none
    ∧ Teller.ofNat? 1 = some .a ∧ optionalSegments [] = some []
    ∧ amending.holdsDispense (tktD 7 (dsp .queued)) (dsp .queued)
    ∧ optionalSegments [⟨1, 12⟩] = some [⟨.a, 12⟩] ∧ (amending.slot .a).state ≠ .inService
    ∧ ((dsp .queued).plan.map fun g => g.notes * amending.noteValueAt g.position).sum ≠ 241
    ∧ optionalSegments [⟨2, 200⟩] = some [⟨.b, 200⟩]
    ∧ (({ amending with slots := { wall.slots with b := { cassette 3 20 1000 199 with committed := 12 } } } : State).slot .b).count
        - ((({ amending with slots := { wall.slots with b := { cassette 3 20 1000 199 with committed := 12 } } } :
            State).slot .b).committed - unpickedAt .b (dsp .queued).plan) < 200 := by decide

theorem witness_AmendInOtherStatesAndKinds :
    (holdingD (dsp .pickHalted 3)).frameBegun ∧ (holdingD (dsp .pickHalted 3)).wall.service = true
    ∧ Teller.ofNat? 2 = some .b ∧ optionalAmount 240 = some (some 240) ∧ optionalSegments [⟨3, 2⟩] = some [⟨.c, 2⟩]
    ∧ (holdingD (dsp .pickHalted 3)).holdsDispense (tktD 7 (dsp .pickHalted 3)) (dsp .pickHalted 3)
    ∧ (holding [tkt 7 (.envelope (env .capturing))]).frameBegun ∧ optionalAmount 999999 = some (some 999999)
    ∧ (holding [tkt 7 (.envelope (env .capturing))]).holdsEnvelope (tkt 7 (.envelope (env .capturing))) (env .capturing)
    ∧ (holding [tkt 7 (.intake (itk .collecting))]).holdsIntake (tkt 7 (.intake (itk .collecting))) (itk .collecting)
    ∧ (holdingD (dsp .staged)).holdsDispense (tktD 7 (dsp .staged)) (dsp .staged) ∧ (dsp .staged).state ≠ .pickHalted := by
  decide

/-- VOID of a DISPENSE ticket: every state has a case, by `witness_holdsDispense`; these are the further hypotheses. -/
theorem witness_VoidByKindAndState :
    (holdingD (dsp .pickHalted 3)).frameBegun ∧ (holdingD (dsp .pickHalted 3)).wall.service = true
    ∧ 0 < (dsp .pickHalted 3).goodPicked ∧ (dsp .pickHalted).goodPicked = 0
    ∧ (dsp .presented).recalled = false ∧ ({ dsp .presented with recalled := true } : Dispense).recalled = true
    ∧ (dsp .resolved).state.terminal = true
    ∧ ({ holdingD (dsp .picking 3) with picker := feeding .b } : State).picker.ticket = some 7
    ∧ (holding [tkt 7 (.envelope (env .awaitingEnvelope))]).holdsEnvelope (tkt 7 (.envelope (env .awaitingEnvelope)))
        (env .awaitingEnvelope)
    ∧ (holding [tkt 7 (.intake (itk .readyIntake))]).holdsIntake (tkt 7 (.intake (itk .readyIntake))) (itk .readyIntake) := by
  decide

theorem witness_SettleRetiresATerminalTicket :
    (holdingD (dsp .delivered 12)).frameBegun ∧ (holdingD (dsp .delivered 12)).wall.service = true
    ∧ after (exec (.settle 7) (holdingD (dsp .delivered 12))) (fun t => decide (t.tickets = [] ∧ t.countPoint.settled = 1))
      = true
    ∧ after (exec (.settle 7) (holdingD (dsp .staged 12))) (fun t => decide (t.port.held = some ⟨.badState, []⟩)) = true := by
  decide

/-- Tickets 7 and 8 of lane 3 wait, and 7 cannot be taken: lane 3 is held by ticket 6, but 9 of lane 4 can. -/
def selecting : State :=
  { holding [tktD 6 (dsp .presented 12), tktD 7 (dsp .queued), { tktD 9 (dsp .queued) with lane := .l4 }] with
    pickQueue := [7, 9] }

theorem witness_SelectionTakesTheOldest :
    (selecting.staging.owner = none ∧ selecting.picker.state = .idle ∧ selecting.alarms.hold = false
        ∧ selecting.alarms.lockdown = false ∧ selecting.countPoint.state = .idle)
    ∧ selecting.pickQueue = [7] ++ 9 :: [] ∧ selecting.tickets.any (Ticket.holdsLane .l3) = true
    ∧ (selecting.lane .l4).link = .online ∧ selecting.tickets.any (Ticket.holdsLane .l4) = false
    ∧ selecting.holdsDispense { tktD 9 (dsp .queued) with lane := .l4 } (dsp .queued)
    ∧ wall.pickQueue = [] := by decide

/-! ### Cases: cassettes, vaults and tags -/

theorem witness_InsertionAndRemoval :
    (wall.slot .b).state ≠ .absent ∧ (wall.slot .a).state = .absent ∧ wall.transfersOf .a = []
    ∧ (wall.tagLink.inFlight = none ∧ wall.tagLink.queue = [])
    ∧ ({ wall with tagLink := ⟨[], some ⟨⟨.markWrite, .b⟩, []⟩⟩ } : State).transfersOf .a = []
    ∧ wall.writeBackOf .b = false := by decide

/-- A tag of code 3, value 20, capacity 2000, references 100 and 150, with a balance count and a mark (R39). -/
def tag (code balance mark : Nat) : List Byte :=
  withChecksum
    ([0, 0, 0, 0, 0, 0, 0, 0, BitVec.ofNat 8 code, 0, 20, 7, 208, 100, 150, 0, 0, BitVec.ofNat 8 balance, 0, 0,
      BitVec.ofNat 8 mark] ++ List.replicate 43 0)

/-- The wall with an identity read of A in flight. -/
def reading : State :=
  { wall with
    slots := { wall.slots with a := { Slot.empty with state := .identifying } },
    tagLink := ⟨[⟨.markWrite, .b⟩], some ⟨⟨.identityRead, .a⟩, []⟩⟩ }

theorem witness_IdentityReadJudgesTheCassette :
    reading.tagLink.inFlight = some ⟨⟨.identityRead, .a⟩, []⟩
    ∧ readOutcome [none, none, none] = .failed .tagUnreadable ∧ readOutcome [none, some (tag 3 3 0)] = .good (tag 3 3 0)
    ∧ readOutcome [some (tag 2 3 0)] = .good (tag 2 3 0)
    ∧ reading.params.denominations.get .c3 = some (Identity.ofTag (tag 3 3 0)).noteValue
    ∧ reading.params.denominations.get .c2 = none
    ∧ after (exec (.identityReadEnd [some (tag 3 3 0)]) reading) (fun t =>
        decide ((t.slot .a).state = .inService ∧ (t.slot .a).count = 3 ∧ (t.slot .a).low ∧ (t.slot .a).markOwed)) = true
    ∧ after (exec (.identityReadEnd [some (tag 2 3 0)]) reading) (fun t =>
        decide ((t.slot .a).refused = some .denomination ∧ (t.slot .a).identity.isSome)) = true := by decide +kernel

/-- The wall with a mark write, or a count write-back, of B in flight while C is to be written back too. -/
def writing (kind : TransferKind) : State :=
  { wall with
    tagLink := ⟨[], some ⟨⟨kind, .b⟩, tag 3 3 1⟩⟩,
    countPoint := { CountPoint.reset with state := .balancing, writeBack := (PosSet.single .b).set .c true } }

theorem witness_TagWriteEndSetsTheSlotAndPublishes_write :
    (writing .markWrite).tagLink.inFlight = some ⟨⟨.markWrite, .b⟩, tag 3 3 1⟩
    ∧ writeOutcome (tag 3 3 1) [some (tag 3 3 1)] = some true ∧ writeOutcome (tag 3 3 1) [none, none] = some false
    ∧ ((writing .markWrite).slot .b).identity.isSome = true ∧ ((writing .markWrite).slot .b).state.live = true
    ∧ (writing (.countWriteBack 42)).tagLink.inFlight = some ⟨⟨.countWriteBack 42, .b⟩, tag 3 3 1⟩
    ∧ (.c : Pos) ≠ .b ∧ (writing (.countWriteBack 42)).countPoint.writeBack.get .c = true := by decide +kernel

/-- The wall with the last count write-back, of D, in flight or waiting, C having failed; D is to be unlocked. -/
def lastWrite (waits : Bool) (writeBack : PosSet) : State :=
  { wall with
    slots := { wall.slots with d :=
      { cassette 3 20 1500 90 with
        state := .releasePending, prior := some .suspended, identity := some (Identity.ofTag (tag 3 90 1)) } },
    tagLink := if waits then ⟨[⟨.countWriteBack 42, .d⟩], some ⟨⟨.markWrite, .b⟩, tag 3 3 1⟩⟩
      else ⟨[], some ⟨⟨.countWriteBack 42, .d⟩, tag 3 90 0⟩⟩,
    forming := some (wall.formBalance ⟨false, false, false, false⟩),
    countPoint := { CountPoint.reset with
      state := .balancing, causes := ⟨true, false, false, true⟩, number := 65535, writeBack := writeBack,
      failures := .single .c, release := .single .d } }

theorem witness_TagWriteEndSetsTheSlotAndPublishes_publish :
    (lastWrite false (.single .d)).tagLink.inFlight = some ⟨⟨.countWriteBack 42, .d⟩, tag 3 90 0⟩
    ∧ writeOutcome (tag 3 90 0) [some (tag 3 90 0)] = some true ∧ writeOutcome (tag 3 90 0) [none, none] = some false
    ∧ ((lastWrite false (.single .d)).slot .d).identity = some (Identity.ofTag (tag 3 90 1))
    ∧ ((lastWrite false (.single .d)).slot .d).state.live = true
    ∧ (lastWrite false (.single .d)).countPoint.state = .balancing
    ∧ (lastWrite false (.single .d)).countPoint.writeBack = .single .d
    ∧ (lastWrite false (.single .d)).countPoint.pending = false ∧ (lastWrite false (.single .d)).forming.isSome = true
    ∧ after (exec (.tagWriteEnd [some (tag 3 90 0)]) (lastWrite false (.single .d))) (fun t =>
        decide ((t.slot .d).state = .unlocked ∧ t.countPoint.number = 1 ∧ t.countPoint.state = .idle)) = true
    ∧ after (exec (.tagWriteEnd [none, none]) (lastWrite false (.single .d))) (fun t =>
        decide ((t.slot .d).state = .suspended ∧ t.balance.map Balance.result = some .tagWriteFailed)) = true := by
  decide +kernel

theorem witness_TagWriteEndSetsTheSlotAndPublishes_cut :
    ((lastWrite true (.single .d)).slot .d).state ≠ .absent ∧ (lastWrite true (.single .d)).writeBackOf .d = true
    ∧ (lastWrite false ((PosSet.single .d).set .b true)).writeBackOf .d = true
    ∧ (.b : Pos) ≠ .d ∧ (lastWrite false ((PosSet.single .d).set .b true)).countPoint.writeBack.get .b = true
    ∧ (∀ q, q ≠ .d → (lastWrite true (.single .d)).countPoint.writeBack.get q = false)
    ∧ (lastWrite true (.single .d)).countPoint.pending = false ∧ (lastWrite true (.single .d)).forming.isSome = true := by
  refine ⟨by decide +kernel, by decide +kernel, by decide +kernel, by decide, by decide, fun q h => ?_, by decide, rfl⟩
  cases q <;> first | rfl | exact absurd rfl h

/-- A second approval of B's release joins the count point of `counting`, whatever its state. -/
theorem witness_ReleaseTakesTwoTellers_joined (st : CountState) :
    let s : State := { lastWrite true .empty with
      slots := { wall.slots with b := { cassette 3 20 1000 300 with release := some ⟨.a, 1⟩ } },
      countPoint := { CountPoint.reset with state := st } }
    s.frameBegun ∧ s.wall.service = true ∧ (s.slot .b).state = .inService ∧ s.tickets.any (Ticket.pickingFrom .b) = false
    ∧ (s.slot .b).release = some ⟨Teller.complement .b, 1⟩ ∧ s.countPoint.state = st := by
  cases st <;> decide

theorem witness_ReleaseTakesTwoTellers :
    inSetup.frameBegun ∧ inSetup.wall.service = false ∧ wall.frameBegun ∧ wall.wall.service = true
    ∧ Pos.ofNat? 2 = some .b ∧ Pos.ofNat? 4 = some .d ∧ Teller.ofNat? 2 = some .b ∧ (wall.slot .a).state ≠ .inService
    ∧ (wall.slot .a).state ≠ .suspended ∧ (wall.slot .b).state = .inService
    ∧ (holdingD (dsp .picking)).tickets.any (Ticket.pickingFrom .b) = true
    ∧ (wall.params.recycling = true ∧ (holding [tkt 7 (.intake (itk .collecting))]).anyCollecting = true)
    ∧ wall.tickets.any (Ticket.pickingFrom .b) = false ∧ (wall.slot .b).release = none
    ∧ (({ wall with slots := { wall.slots with b := { cassette 3 20 1000 300 with release := some ⟨.a, 1⟩ } } } :
        State).slot .b).release = some ⟨Teller.complement .b, 1⟩ := by decide

theorem witness_VaultsAreEmptied :
    2 < 3 ∧ wall.frameBegun ∧ Teller.ofNat? 1 = some .a
    ∧ ({ wall with rejectVault := { RejectVault.reset with present := false } } : State).vaultPresent .reject = false
    ∧ wall.vaultPresent .reject = true ∧ wall.vaultPresent .intake = true
    ∧ ({ wall with picker := feeding .b } : State).picker.state = .feeding
    ∧ (holding [tkt 7 (.intake (itk .collecting))]).anyCollecting = true
    ∧ (wall.route = .free ∧ wall.staging.purge ≠ .running ∧ wall.picker.state ≠ .feeding ∧ wall.anyCollecting = false)
    ∧ (wall.heldApproval (.vault .reject)).map HeldApproval.teller ≠ some (Teller.complement .a)
    ∧ ({ wall with approvals := [⟨.vault .reject, .b, none, 1⟩, ⟨.vault .intake, .b, none, 60⟩] } :
        State).heldApproval (.vault .reject) = some ⟨.vault .reject, Teller.complement .a, none, 1⟩
    ∧ ({ wall with approvals := [⟨.vault .reject, .b, none, 1⟩, ⟨.vault .intake, .b, none, 60⟩] } :
        State).heldApproval (.vault .intake) = some ⟨.vault .intake, Teller.complement .a, none, 60⟩ := by decide

/-! ### Cases: dispensing -/

/-- Ticket 7 PICKING at B with 3 notes picked, the picker FEEDING there. -/
def picking : State :=
  { holdingD (dsp .picking 3) with picker := feeding .b, staging := ⟨some 7, 3, 60, false, .idle⟩ }

theorem witness_PickResult :
    judgeNote ⟨100, 150, 20⟩ 261 150 = .multiple ∧ judgeNote ⟨100, 150, 20⟩ 260 150 = .double
    ∧ judgeNote ⟨100, 150, 20⟩ 160 150 = .double ∧ judgeNote ⟨100, 150, 20⟩ 159 150 = .skew
    ∧ judgeNote ⟨100, 150, 20⟩ 125 154 = .single ∧ judgeNote ⟨100, 150, 20⟩ 75 146 = .single
    ∧ judgeNote ⟨100, 150, 20⟩ 74 150 = .skew ∧ judgeNote ⟨100, 150, 20⟩ 100 155 = .skew
    ∧ picking.picker.state = .feeding ∧ picking.picker.ticket = some 7 ∧ picking.picker.position = some .b
    ∧ picking.picker.fedFrom = .slot ∧ picking.gate.waitPicker = false
    ∧ picking.holdsDispense (tktD 7 (dsp .picking 3)) (dsp .picking 3) := by decide

/-- Ticket 7 PICKING at D, whose cassette was drawn out after the feed command: its copy stands, or a publish has taken it. -/
def drawnOut (src : Source) : State :=
  { holdingD { dsp .picking 2 with plan := [⟨.d, 5, 2, 20⟩] } with
    slots := { wall.slots with d := .empty },
    retiring := { State.reset.retiring with
      d := if src = .copy then some ⟨cassette 3 20 1500 398, .unreleased, 0, false⟩ else none },
    picker := { feeding .d with fedFrom := src } }

theorem witness_PickResultAtThePosition_drawnOut :
    (drawnOut .copy).picker.fedFrom = .copy ∧ (drawnOut .gone).picker.fedFrom = .gone
    ∧ (drawnOut .copy).retiring.get .d = some ⟨cassette 3 20 1500 398, .unreleased, 0, false⟩
    ∧ after (exec (.gaugeResult 200 150) (drawnOut .gone)) (fun t =>
        decide (t.countPoint.writtenOff.total = 2 ∧ t.rejectVault.pickRejects = 2)) = true
    ∧ after (exec (.gaugeResult 100 150) (drawnOut .gone)) (fun t =>
        decide (t.rejectVault.pickRejects = 0 ∧ t.stagingGate = .intoStaging)) = true := by decide

/-- R34: a DOUBLE that would raise picked out past 65535 lowers both figures by the smaller before its two notes. -/
theorem test_picked_out_relieved : after (exec (.gaugeResult 200 150)
      { picking with slots := { picking.slots with b :=
        { cassette 3 20 1000 300 with base := 299, pickedOut := 65534, storedIn := 65535 } } }) (fun t =>
    decide (t.slots.b.pickedOut = 2 ∧ t.slots.b.storedIn = 1 ∧ t.slots.b.count = 298)) = true := by decide

/-- R72: a note rejected by the gauge is turned onto the reject path, and the gate stays so until the next note. -/
theorem test_reject_path :
    after (exec (.gaugeResult 160 150) picking) (fun t => decide (t.stagingGate = .toReject)) = true
    ∧ after (exec .pickMissTimeout { picking with sgate := .toReject }) (fun t => decide (t.stagingGate = .toReject)) = true
    ∧ after (exec (.gaugeResult 100 150) { picking with sgate := .toReject }) (fun t =>
        decide (t.stagingGate = .intoStaging)) = true := by decide

/-- R48: a mark that is owed is written at the first pick result. -/
theorem test_mark_owed : after (exec (.gaugeResult 100 150)
      { picking with slots := { wall.slots with b := { cassette 3 20 1000 300 with markOwed := true } } }) (fun t =>
    decide ((t.slot .b).markOwed = false ∧ t.tagLink.inFlight.map InFlight.transfer = some ⟨.markWrite, .b⟩)) = true := by
  decide

/-- Ticket 7 voided while its last note is fed: PURGING with some notes in staging, the picker FEEDING. -/
def voidedFeeding (picked : Nat) : State :=
  { holdingD (dsp .purging picked) with picker := feeding .b, staging := ⟨some 7, picked, 20 * picked, false, .idle⟩ }

theorem witness_PickResultAtTheTicket_purging :
    (voidedFeeding 0).holdsDispense (tktD 7 (dsp .purging 0)) (dsp .purging 0) ∧ (voidedFeeding 0).gate.waitPicker = false
    ∧ after (exec .pickMissTimeout (voidedFeeding 0)) (fun t =>
        decide ((t.dispense 7).map Dispense.state = some .voided ∧ t.staging = Staging.empty)) = true
    ∧ after (exec (.gaugeResult 100 150) (voidedFeeding 0)) (fun t =>
        decide ((t.dispense 7).map Dispense.state = some .purging ∧ t.staging.purge = .waiting)) = true := by decide

/-- The three ends of a pick result at its ticket: the last note, a reject past the limit, and neither. -/
theorem witness_PickResultAtTheTicket :
    after (exec (.gaugeResult 100 150) { holdingD (dsp .picking 11) with picker := feeding .b }) (fun t =>
      decide ((t.dispense 7).map Dispense.state = some .staged ∧ t.staging.complete)) = true
    ∧ after (exec (.gaugeResult 160 150) { holdingD { dsp .picking 3 with rejectPicks := 9 } with picker := feeding .b })
      (fun t => decide ((t.dispense 7).map (fun d => (d.state, d.halt)) = some (.pickHalted, some .rejects))) = true
    ∧ after (exec .pickMissTimeout picking) (fun t =>
      decide ((t.dispense 7).map Dispense.state = some .picking ∧ (t.slot .b).missRun = 1)) = true := by decide

/-- Ticket 7 PICKING with its next note at D, the picker FEEDING at a position under the grant of the D gate given, and a note
of D's code that waits to be stored there or not. -/
def nextAtD (p : Pos) (granted : Option Claimant) (store : Bool) : State :=
  { holding [tktD 7 { dsp .picking 3 with plan := [⟨.b, 3, 3, 20⟩, ⟨.d, 9, 0, 20⟩] }, tkt 8 (.intake (itk .collecting))] with
    picker := feeding p, gate := { State.reset.gate with granted := granted, last := granted, waitDeposit := store },
    intakeRec := { IntakeRec.idleRec with
      state := if store then .waitingGate else .ready, owner := some 8, escrow := some ⟨some .c3, some 20⟩ } }

/-- Where the picker goes on with notes left: PAUSED, halted by the segment check, fed at its position, granted the D gate, or
waiting for the store that waited before it. -/
theorem witness_PickResultAtTheTicket_next :
    after (exec .pickMissTimeout { picking with alarms := locked.alarms }) (fun t =>
      decide (t.picker.state = .paused ∧ t.picker.ticket = some 7 ∧ (t.dispense 7).map Dispense.state = some .picking)) = true
    ∧ after (exec .pickMissTimeout { picking with rejectVault := { RejectVault.reset with present := false } }) (fun t =>
      decide ((t.dispense 7).map Dispense.halt = some (some .rejectFull) ∧ t.picker.state = .idle)) = true
    ∧ after (exec .pickMissTimeout picking) (fun t =>
      decide (t.picker.state = .feeding ∧ t.picker.position = some .b)) = true
    ∧ after (exec .pickMissTimeout (nextAtD .b none false)) (fun t =>
      decide (t.picker.state = .feeding ∧ t.picker.position = some .d ∧ t.gate.granted = some .picker)) = true
    ∧ after (exec .pickMissTimeout (nextAtD .b (some .deposit) false)) (fun t =>
      decide (t.picker.state = .waitingGate ∧ t.gate.granted = some .deposit ∧ t.gate.waitPicker)) = true
    ∧ after (exec .pickMissTimeout (nextAtD .d (some .picker) true)) (fun t =>
      decide (t.storeFit ∧ t.picker.state = .waitingGate ∧ t.gate.granted = some .deposit
        ∧ t.intakeRec.destination = some .cassetteD)) = true := by decide

/-- Ticket 7 PICKING with the picker PAUSED and a next note at B. -/
def paused : State := { picking with picker := { feeding .b with state := .paused, position := none } }

/-- The same with a next note at D. -/
def pausedAtD : State :=
  { holdingD { dsp .picking with plan := [⟨.d, 12, 0, 20⟩] } with picker := paused.picker }

theorem witness_PickerResumesBySegmentCheck :
    paused.picker.state = .paused ∧ paused.picker.ticket = some 7 ∧ paused.alarms.lockdown = false
    ∧ paused.countPoint.state = .idle ∧ paused.holdsDispense (tktD 7 (dsp .picking 3)) (dsp .picking 3)
    ∧ currentSegment (dsp .picking 3).plan = some ⟨.b, 12, 3, 20⟩ ∧ paused.rejectVault.full = false
    ∧ ((paused.slot .b).state = .inService ∧ (paused.slot .b).identity.map Identity.noteValue = some 20
        ∧ (paused.slot .b).depleted = .clear)
    ∧ ({ paused with rejectVault := { RejectVault.reset with sweep := 600 } } : State).rejectVault.full = true
    ∧ currentSegment [(⟨.d, 12, 0, 20⟩ : Segment)] = some ⟨.d, 12, 0, 20⟩ ∧ pausedAtD.gate.granted = none
    ∧ pausedAtD.holdsDispense (tktD 7 { dsp .picking with plan := [⟨.d, 12, 0, 20⟩] })
        { dsp .picking with plan := [⟨.d, 12, 0, 20⟩] }
    ∧ ({ pausedAtD with gate := ⟨some .deposit, false, false, some .deposit⟩ } : State).gate.granted ≠ none := by decide

/-- Ticket 7 PURGING with 12 notes in staging, at a stage of the purge. -/
def purging (p : Purge) : State := { holdingD (dsp .purging 12) with staging := ⟨some 7, 12, 240, false, p⟩ }

/-- An OWED retract of 12 notes from lane 3. -/
def owed : Retract := { lane := .l3, holder := .ticket 7, kind := .ticket, expected := 12, stage := .owed }

theorem witness_PurgeRuns :
    (purging .waiting).staging.purge = .waiting
    ∧ (purging .waiting).staging.held + (purging .waiting).reservedRoom ≤ (purging .waiting).rejectVault.room
    ∧ (purging .waiting).countPoint.state = .idle ∧ (purging .waiting).retracts = []
    ∧ (purging .idle).staging.purge ≠ .waiting ∧ owed.stage = .owed
    ∧ owed.expected + ({ purging .waiting with retracts := [owed] } : State).reservedRoom
        ≤ (purging .waiting).rejectVault.room
    ∧ ¬ 12 + ({ purging .waiting with rejectVault := { RejectVault.reset with sweep := 689 } } : State).reservedRoom
        ≤ ({ purging .waiting with rejectVault := { RejectVault.reset with sweep := 689 } } : State).rejectVault.room
    ∧ (purging .running).staging.purge = .running ∧ (purging .running).staging.owner = some 7
    ∧ (purging .running).holdsDispense (tktD 7 (dsp .purging 12)) (dsp .purging 12) := by decide

/-- A retract of 13 notes from lane 4, CLAIMED. -/
def claimed : Retract := { lane := .l4, holder := .sweep, kind := .sweep, expected := 13, stage := .claimed }

/-- A presented ticket whose notes are to be drawn back, behind a retract that is CLAIMED, with some room left. -/
def toRetract (sweep : Nat) : State :=
  { holdingD (dsp .presented 12) with
    retracts := [claimed, owed], rejectVault := { RejectVault.reset with sweep := sweep } }

theorem witness_RetractIsPromotedAndGranted :
    (toRetract 675).retracts = [claimed] ++ owed :: [] ∧ claimed.stage = .claimed ∧ owed.stage = .owed
    ∧ owed.expected + (toRetract 675).reservedRoom ≤ (toRetract 675).rejectVault.room
    ∧ (toRetract 676).rejectVault.room < owed.expected + (toRetract 676).reservedRoom
    ∧ owed.kind = .ticket ∧ owed.holder = .ticket (tktD 7 (dsp .presented 12)).number
    ∧ (toRetract 675).holdsDispense (tktD 7 (dsp .presented 12)) (dsp .presented 12)
    ∧ ({ claimed with stage := .owed } : Retract).kind ≠ .ticket
    ∧ (toRetract 675).route = .free ∧ (toRetract 675).sweepMayBegin = false
    ∧ (toRetract 675).retracts = [] ++ claimed :: [owed] := by decide

theorem witness_RetractCompletes :
    ({ holdingD { dsp .retracting 12 with unresolved := 0 } with route := .retracting .l3 (.ticket 7) .ticket 12 } :
        State).route = .retracting .l3 (.ticket 7) .ticket 12
    ∧ (holdingD { dsp .retracting 12 with unresolved := 0 }).holdsDispense
        (tktD 7 { dsp .retracting 12 with unresolved := 0 }) { dsp .retracting 12 with unresolved := 0 }
    ∧ ({ dsp .retracting 12 with unresolved := 0 } : Dispense).retracted = 0
    ∧ ({ wall with route := .retracting .l4 .sweep .sweep 200 } : State).route = .retracting .l4 .sweep .sweep 200
    ∧ ({ wall with route := .retracting .l4 (.ticket 7) .disputed 12 } : State).route
        = .retracting .l4 (.ticket 7) .disputed 12 := by decide

/-- Ticket 7 STAGED, its bundle complete. -/
def staged : State := { holdingD (dsp .staged 12) with staging := ⟨some 7, 12, 240, true, .idle⟩ }

/-- Ticket 7 ROUTING to lane 3. -/
def routing : State := { holdingD (dsp .routing 12) with route := .delivering .l3 7 12 240 }

theorem witness_DeliveryIsGrantedAndArrives :
    staged.staging.owner = some 7 ∧ staged.holdsDispense (tktD 7 (dsp .staged 12)) (dsp .staged 12)
    ∧ (staged.route = .free ∧ staged.sweepMayBegin = false ∧ staged.retracts = [] ∧ staged.staging.complete = true
        ∧ (staged.lane .l3).link = .online ∧ (staged.lane .l3).holder = none ∧ (staged.lane .l3).repDrawer = some .locked
        ∧ (staged.lane .l3).repNotes = some false ∧ (staged.lane .l3).repFault = some false
        ∧ staged.alarms.lockdown = false ∧ staged.countPoint.state = .idle)
    ∧ ({ staged with alarms := { Alarms.reset with lockdown := true } } : State).alarms.lockdown = true
    ∧ routing.route = .delivering .l3 7 12 240 ∧ routing.holdsDispense (tktD 7 (dsp .routing 12)) (dsp .routing 12)
    ∧ (routing.lane .l3).lost ≠ .owedExpired ∧ (∀ e ∈ routing.retracts, e.lane ≠ .l3) := by decide

/-- The same with its lane lost and the expiry kept. -/
def routingLost : State :=
  { routing with lanes := wall.lanes.set .l3 { laneUp with link := .silent, lost := .owedExpired, lostTimer := some 0 } }

theorem witness_DeliveryIsGrantedAndArrives_kept :
    routingLost.route = .delivering .l3 7 12 240 ∧ routingLost.holdsDispense (tktD 7 (dsp .routing 12)) (dsp .routing 12)
    ∧ (routingLost.lane .l3).lost = .owedExpired ∧ (∀ e ∈ routingLost.retracts, e.lane ≠ .l3)
    ∧ after (exec .deliveryArrival routingLost) (fun t => decide ((t.dispense 7).map Dispense.state = some .disputed
        ∧ t.disputes = [⟨7, .l3, none⟩] ∧ (t.lane .l3).lost = .idle ∧ t.presentations.get .l3 = none)) = true := by decide

theorem witness_TransportSweepRuns :
    ({ inSetup with sweepPending := true, wall := ⟨false, true, true⟩ } : State).sweepMayBegin = true
    ∧ ({ wall with route := .sweeping } : State).route = .sweeping
    ∧ ({ wall with route := .sweeping } : State).countPoint.state = .idle
    ∧ (wall.lane .l1).link = .online ∧ (wall.lane .l1).holder = none
    ∧ ((({ wall with lanes := wall.lanes.set .l1 { laneUp with repNotes := some true } } : State).lane .l1).repNotes
        = some true)
    ∧ (State.reset.lane .l1).link ≠ .online
    ∧ after (exec (.sweepCompletion 5)
        { holdingD (dsp .disputed 12) with
          route := .sweeping,
          lanes := ((wall.lanes.set .l3 { laneUp with repNotes := some true, holder := some (.ticket 7) }).set .l4
            { laneUp with repNotes := some true }) }) (fun t =>
        decide (t.retracts.map (fun e => (e.lane, e.holder, e.kind, e.expected))
            = [(.l3, .ticket 7, .disputed, 12), (.l4, .sweep, .sweep, 200)] ∧ (t.lane .l4).holder = some .sweep)) = true
    ∧ after (exec (.sweepCompletion 5)
        { holdingD (dsp .disputed 12) with
          route := .sweeping, lanes := wall.lanes.set .l3 { laneUp with holder := some (.ticket 7) } }) (fun t =>
        decide ((t.lane .l3).holder = none ∧ t.retracts = [])) = true := by decide

/-! ### Cases: deposits -/

/-- An ENVELOPE ticket waits at lane 3. -/
def waiting : State := holding [tkt 7 (.envelope (env .awaitingEnvelope))]

theorem witness_InsertionIsDecidedInOrder :
    (inSetup.handlings.get .l3).state = .idle ∧ inSetup.wall.service = false
    ∧ locked.wall.service = true ∧ locked.alarms.lockdown = true
    ∧ (({ wall with lanes := wall.lanes.set .l3 { laneUp with binVerified := false } } : State).lane .l3).binVerified
        = false
    ∧ 120 ≤ ({ laneUp with binCount := 120 } : LaneRec).binCount
    ∧ (waiting.lane .l3).binVerified = true ∧ (waiting.lane .l3).binCount < 120
    ∧ wall.tickets.any (Ticket.awaitsEnvelope .l3) = false ∧ wall.params.autoEnvelope = false
    ∧ 32 ≤ fullTable.tickets.length ∧ fullTable.tickets.any (Ticket.awaitsEnvelope .l3) = false
    ∧ waiting.holdsEnvelope (tkt 7 (.envelope (env .awaitingEnvelope))) (env .awaitingEnvelope)
    ∧ (∀ u ∈ waiting.tickets, u ≠ tkt 7 (.envelope (env .awaitingEnvelope)) → Ticket.awaitsEnvelope .l3 u = true →
        (tkt 7 (.envelope (env .awaitingEnvelope))).openStamp < u.openStamp) := by decide

theorem witness_ClearJamEndsTheJam :
    inSetup.frameBegun ∧ inSetup.wall.service = false ∧ wall.wall.service = true ∧ 9999 < 10000
    ∧ wall.ticket 9999 = none ∧ (holding [tkt 7 (.envelope (env .jammed))]).ticket 7 = some (tkt 7 (.envelope (env .jammed)))
    ∧ (holding [tkt 7 (.envelope (env .capturing))]).ticket 7 = some (tkt 7 (.envelope (env .capturing)))
    ∧ (env .capturing).state ≠ .jammed := by decide

theorem witness_BinsAreEmptiedAndSet :
    wall.params.laneCount < 9 ∧ wall.frameBegun ∧ wall.namedLane 3 = some .l3 ∧ Teller.ofNat? 2 = some .b
    ∧ (holding [tkt 7 (.envelope (env .jammed))]).tickets.any (Ticket.pointsInto .l3) = true
    ∧ waiting.tickets.any (Ticket.pointsInto .l3) = false
    ∧ (wall.heldApproval (.bin .l3)).map HeldApproval.teller ≠ some (Teller.complement .b)
    ∧ ({ wall with approvals := [⟨.bin .l3, .a, none, 1⟩] } : State).heldApproval (.bin .l3)
        = some ⟨.bin .l3, Teller.complement .b, none, 1⟩ := by decide

/-- The envelope handling of lane 3 in a state, with ticket 7 CAPTURING. -/
def handling (st : HandlingState) : State :=
  { holding [tkt 7 (.envelope (env .capturing))] with
    lanes := wall.lanes.set .l3 { laneUp with binCount := 119 },
    handlings := State.reset.handlings.set .l3 ⟨st, if st = .capturing then some 7 else none, none, none, 0⟩ }

theorem witness_SlotEventsAreTaken :
    ((handling .capturing).handlings.get .l3).state = .capturing
    ∧ ((handling .capturing).handlings.get .l3).ticket = some (tkt 7 (.envelope (env .capturing))).number
    ∧ (handling .capturing).holdsEnvelope (tkt 7 (.envelope (env .capturing))) (env .capturing)
    ∧ ((handling .idle).handlings.get .l3).state = .idle ∧ ((handling .returning).handlings.get .l3).state = .returning
    ∧ ((handling .jammed).handlings.get .l3).state = .jammed ∧ SlotValue.closed ≠ .capture ∧ SlotValue.closed ≠ .giveBack
    ∧ (({ wall with params := { wall.params with autoEnvelope := true } } : State).params.autoEnvelope = true
        ∧ wall.wall.service = true ∧ wall.alarms.lockdown = false ∧ (wall.lane .l3).binVerified = true
        ∧ (wall.lane .l3).binCount < 120 ∧ wall.tickets.any (Ticket.awaitsEnvelope .l3) = false ∧ wall.tickets.length < 32)
    ∧ (((handling .capturing).takeEvent .l3 .captureDone).lane .l3).binCount = 120
    ∧ (((handling .capturing).takeEvent .l3 .captureDone).envelope 7).map Envelope.sequence = some (some 120)
    ∧ (((handling .capturing).decideHandling .l3 .closed).handlings.get .l3).jam = some .resultLost := by decide

/-- A run of ticket 7, COLLECTING, with its record in a state. -/
def running (st : IntakeRecState) (dest : Option Destination) (note : Option Escrow) : State :=
  { holding [tkt 7 (.intake (itk .collecting))] with
    intakeRec := { IntakeRec.idleRec with state := st, owner := some 7, destination := dest, escrow := note } }

theorem witness_IntakeRunBeginsAndFinishes :
    (running .ready none none).frameBegun ∧ (running .ready none none).wall.service = true
    ∧ (running .ready none none).holdsIntake (tkt 7 (.intake (itk .collecting))) (itk .collecting)
    ∧ (itk .readyIntake).state ≠ .collecting ∧ (running .ready none none).intakeRec.finishHeld = false
    ∧ (running .ready none none).intakeRec.state = .ready ∧ (running .waitingGate none none).intakeRec.state = .waitingGate
    ∧ ({ IntakeRec.idleRec with finishHeld := true } : IntakeRec).finishHeld = true
    ∧ after (exec (.intakeBegin 7) (holding [tkt 7 (.intake (itk .readyIntake))])) (fun t =>
        decide (t.intakeRec.state = .ready ∧ t.headSent.getLast? = some .acceptOn)) = true := by decide

theorem witness_EscrowDecidesTheNote :
    wall.intakeRec.state = .idle ∧ (running .placing none none).intakeRec.state = .placing
    ∧ (running .ready none none).intakeRec.state = .ready ∧ (running .ready none none).intakeRec.owner = some 7
    ∧ (running .ready none none).intake 7 = some (itk .collecting)
    ∧ (none : Option Code).bind wall.params.denominations.get = none
    ∧ (some Code.c5).bind wall.params.denominations.get = some 50
    ∧ (some Code.c3).bind wall.params.denominations.get = some 20 ∧ wall.alarms.lockdown = false
    ∧ wall.countPoint.state = .idle ∧ ¬ (2500 ≤ (itk .collecting).recycled + (itk .collecting).vaulted
        ∨ 999999 < (itk .collecting).amount + 50)
    ∧ (running .ready none none).storeCode ≠ (some Code.c5).map Code.number ∧ wall.intakeVault.full = false
    ∧ ({ wall with intakeVault := { IntakeVault.reset with entries := ⟨2500, 0, 0, 0, 0, 0, 0, 0⟩ } } :
        State).intakeVault.full = true
    ∧ (running .ready none none).storeCode = (some Code.c3).map Code.number
    ∧ (running .ready none none).gate.granted = none := by decide

theorem witness_NotePlacedIsCounted :
    (running .placing (some .vault) (some ⟨some .c5, some 50⟩)).holdsIntake (tkt 7 (.intake (itk .collecting)))
        (itk .collecting)
    ∧ (running .placing (some .vault) (some ⟨some .c5, some 50⟩)).intakeRec.owner = some 7
    ∧ (running .placing (some .vault) (some ⟨some .c5, some 50⟩)).intakeRec.escrow = some ⟨some .c5, some 50⟩
    ∧ (running .placing (some .tray) (some ⟨none, none⟩)).intakeRec.destination = some .tray
    ∧ (running .placing (some .cassetteD) (some ⟨some .c3, some 20⟩)).intakeRec.destination = some .cassetteD
    ∧ (running .placing (some .cassetteD) (some ⟨some .c3, some 20⟩)).intakeRec.storedTo = .slot
    ∧ (running .placing (some .cassetteD) (some ⟨some .c3, some 20⟩)).intakeRec.finishHeld = false
    ∧ wall.gate.waitDeposit = false ∧ (wall.slot .d).storedIn + 1 ≤ 65535
    ∧ ({ (running .ready none none).intakeRec with stray := true } : IntakeRec).stray = true
    ∧ ({ wall with intakeRec := { IntakeRec.idleRec with stray := true } } : State).intakeRec.state = .idle
    ∧ after (exec .notePlaced
        { running .placing (some .vault) (some ⟨some .c5, some 50⟩) with
          intakeRec := { (running .placing (some .vault) (some ⟨some .c5, some 50⟩)).intakeRec with finishHeld := true } })
        (fun t => decide ((t.intake 7).map Intake.state = some .counted ∧ t.intakeRec.state = .idle)) = true := by decide

/-! ### Cases: the Lane Ring -/

/-- The wall with lane 3 in a link state. -/
def lane3 (r : LaneRec) : State := { wall with lanes := wall.lanes.set .l3 r }

theorem witness_SlotsOfTheRing :
    wall.ring.pendingCount = none
    ∧ ({ State.reset with ring := { State.reset.ring with pendingCount := some 3 } } : State).ring.pendingCount = some 3
    ∧ Lane.l3.number ≤ 3 ∧ 3 < Lane.l4.number ∧ (State.reset.lane .l3).link = .disabled ∧ (wall.lane .l3).link ≠ .disabled
    ∧ ((lane3 { laneUp with link := .joining }).lane .l3).link = .joining ∧ (wall.lane .l3).link = .online
    ∧ ((lane3 { laneUp with repDrawer := some .opened }).lane .l3).repDrawer ≠ some .locked
    ∧ (wall.lane .l3).repDrawer = some .locked ∧ (wall.lane .l3).effDrawer = .locked
    ∧ (wall.lane .l3).repSlot = some (wall.lane .l3).effSlot
    ∧ ((lane3 { laneUp with repSlot := some .opened }).lane .l3).repSlot ≠ some .closed
    ∧ (wall.lane .l3).repLamp ≠ some (wall.lane .l3).desiredLamp
    ∧ ((lane3 { laneUp with repLamp := some .laneClosed }).lane .l3).repLamp = some .laneClosed
    ∧ ((lane3 { laneUp with link := .faulted }).lane .l3).link = .faulted := by decide

/-- SYNC_SLOT after frame 255 sends the STAMP of frame 0 to all stations (R119). -/
theorem test_sync_wraps : after (exec (.syncSlot (stampWord 0 0)) wall) (fun t =>
    decide (t.ring.frameNumber = 0 ∧ t.ring.ltx = some (stampWord 0 0) ∧ t.ring.syncFault = false)) = true := by decide

/-- Words of R191: an EVENT, a STATUS_D and a STATUS_L written out from the layout, and one with a reserved drawer code. -/
theorem witness_SlotsOfTheRing_words :
    readUplink 0x5000 = some (.event .insert 0) ∧ readUplink 0xC5C0 = some (.statusD .unlocked true true)
    ∧ readUplink 0x5B1A = some (.statusL .closed .laneClosed false true 10) ∧ readUplink 0x2700 = none
    ∧ judgeReply 11 (.word true false 0x5B1A) = .valid (.statusL .closed .laneClosed false true 10)
    ∧ judgeReply 12 (.word true false 0x5B1A) = .receiveError true := by decide

/-- FRAME_END with lane 3 in a link state and a reply. -/
def framed (r : LaneRec) (o : SlotOutcome) : State := lane3 { r with slotReply := some o }

theorem witness_FrameEndJudgesALane_online :
    ((framed laneUp (.valid (.event .insert 1))).lane .l3).link = .online
    ∧ ((framed laneUp (.valid (.event .insert 1))).lane .l3).slotReply = some (.valid (.event .insert 1))
    ∧ ((framed { laneUp with link := .silent } .silentSlot).lane .l3).link = .silent
    ∧ after (exec .frameEnd (framed laneUp (.valid (.event .insert 1)))) (fun t =>
        decide ((t.lane .l3).link = .online ∧ (t.lane .l3).lastEvent = some 1 ∧ (t.lane .l3).unheard = false)) = true
    ∧ after (exec .frameEnd (framed laneUp (.valid (.event .insert 2)))) (fun t =>
        decide ((t.lane .l3).link = .joining ∧ (t.lane .l3).unheard = true ∧ t.reasons.lane = true)) = true
    ∧ after (exec .frameEnd (framed { laneUp with badRun := 3 } (.receiveError false))) (fun t =>
        decide ((t.lane .l3).link = .silent ∧ (t.lane .l3).receiveErrors = 1)) = true
    ∧ after (exec .frameEnd (framed { laneUp with link := .silent } (.valid (.statusL .closed .idle false true 3))))
        (fun t => decide ((t.lane .l3).link = .joining ∧ t.alarms.sources.laneTamper.l3.active)) = true
    ∧ after (exec .frameEnd { framed { laneUp with faultRun := 1 } .silentSlot with
          ring := { wall.ring with syncFault := true } }) (fun t => decide ((t.lane .l3).link = .faulted)) = true
    ∧ after (exec .frameEnd (framed { laneUp with slotFault := true } .silentSlot)) (fun t =>
        decide ((t.lane .l3).link = .online ∧ (t.lane .l3).faultRun = 1 ∧ (t.lane .l3).badRun = 1)) = true := by decide

/-- Ticket 7 PRESENTED at lane 3, the lane silent for the fourth frame with its drawer last reported open. -/
def leaving : State :=
  { presented with
    lanes := wall.lanes.set .l3
      { laneUp with
        badRun := 3, repDrawer := some .opened, handedDrawer := some .opened, holder := some (.ticket 7),
        slotReply := some .silentSlot } }

theorem witness_FrameEndJudgesALane_leftOnline :
    (leaving.lane .l3).link = .online ∧ (leaving.lane .l3).slotReply.isSome = true ∧ leaving.boundTicket .l3 = some 7
    ∧ leaving.holdsDispense (tktD 7 { dsp .presented 12 with deadline := some ⟨.take, 45⟩ })
        { dsp .presented 12 with deadline := some ⟨.take, 45⟩ }
    ∧ leaving.presentations.get .l3 = some ⟨7, true, false, false⟩
    ∧ after (exec .frameEnd leaving) (fun t =>
        decide ((t.lane .l3).link = .silent ∧ (t.lane .l3).lost = .owed ∧ (t.lane .l3).lostTimer = some 120
          ∧ (t.dispense 7).map Dispense.laneLost = some true
          ∧ (t.presentations.get .l3).map Presentation.closeAsked = some true)) = true := by decide

theorem witness_FrameEndJudgesALane :
    ((lane3 { laneUp with link := .joining, badRun := 3, slotReply := some .silentSlot }).lane .l3).slotReply
        = some .silentSlot
    ∧ (lane3 { laneUp with link := .joining }).ring.syncFault = false
    ∧ after (exec .frameEnd (lane3 { laneUp with link := .joining, badRun := 3, slotReply := some .silentSlot })) (fun t =>
        decide ((t.lane .l3).link = .silent ∧ (t.lane .l3).badRun = 4)) = true
    ∧ after (exec .frameEnd (lane3 { laneUp with
          link := .joining, joinRun := .statusL, slotReply := some (.valid (.statusD .locked false false)) })) (fun t =>
        decide ((t.lane .l3).link = .online)) = true
    ∧ after (exec .frameEnd (lane3 { laneUp with
          link := .joining, joinRun := .statusD, slotReply := some (.valid (.statusD .locked false false)) })) (fun t =>
        decide ((t.lane .l3).link = .joining ∧ (t.lane .l3).joinRun = .statusD)) = true
    ∧ 1 ≤ ({ laneUp with faultRun := 1, slotFault := true, slotReply := some .silentSlot } : LaneRec).faultRun
    ∧ after (exec .frameEnd (lane3 { laneUp with faultRun := 1, slotFault := true, slotReply := some .silentSlot }))
        (fun t => decide ((t.lane .l3).link = .faulted ∧ (t.lane .l3).lineFaults = 1)) = true := by decide

theorem witness_DrawerReportsAndWhatIsHandedOn :
    presented.presentations.get .l3 = some ⟨7, true, false, false⟩
    ∧ (⟨7, true, false, false⟩ : Presentation).ticket = (tktD 7 (dsp .presented 12)).number
    ∧ (⟨7, true, false, false⟩ : Presentation).openedSeen = true
    ∧ presented.holdsDispense (tktD 7 { dsp .presented 12 with deadline := some ⟨.take, 45⟩ })
        { dsp .presented 12 with deadline := some ⟨.take, 45⟩ }
    ∧ (dsp .presented 12).laneLost = false ∧ DrawerReport.locked ≠ .opened ∧ DrawerReport.unlocked ≠ .opened
    ∧ presented.retracting .l3 = false := by decide

/-- Ticket 7 PRESENTED and lane lost, its decision owed, the lane one STATUS_D or STATUS_L short of ONLINE. -/
def returning (run : JoinRun) (w : Uplink) : State :=
  { holdingD { dsp .presented 12 with laneLost := true, deadline := some ⟨.take, 45⟩ } with
    presentations := State.reset.presentations.set .l3 (some ⟨7, false, false, false⟩),
    lanes := wall.lanes.set .l3
      { laneUp with
        link := .joining, joinRun := run, holder := some (.ticket 7), lost := .owed, lostTimer := some 3,
        slotReply := some (.valid w) } }

theorem witness_DrawerReportsAndWhatIsHandedOn_lost :
    (returning .statusL (.statusD .locked true false)).holdsDispense
        (tktD 7 { dsp .presented 12 with laneLost := true, deadline := some ⟨.take, 45⟩ })
        { dsp .presented 12 with laneLost := true, deadline := some ⟨.take, 45⟩ }
    ∧ ((returning .statusL (.statusD .locked true false)).lane .l3).lost ≠ .idle
    ∧ (returning .statusL (.statusD .locked true false)).retracting .l3 = false
    ∧ (returning .statusL (.statusD .locked true false)).boundTicket .l3 ≠ none
    ∧ ((returning .statusD (.statusL .closed .idle false false 0)).lane .l3).joinRun = .statusD
    ∧ after (exec .frameEnd (returning .statusL (.statusD .locked true false))) (fun t =>
        decide ((t.presentations.get .l3).map Presentation.decided = some true ∧ t.retracts.length = 1
          ∧ (t.dispense 7).map Dispense.deadline = some none ∧ (t.lane .l3).lost = .idle)) = true
    ∧ after (exec .frameEnd (returning .statusD (.statusL .closed .idle false false 0))) (fun t =>
        decide ((t.dispense 7).map Dispense.state = some .disputed ∧ t.disputes = [⟨7, .l3, none⟩])) = true := by decide

/-- A STATUS_D of a JOINING lane is recorded and not handed on: a drawer asked to close stays desired CLOSING (R86, R130). -/
theorem test_joining_report : after (exec .frameEnd
      { returning .idle (.statusD .locked true false) with
        lanes := wall.lanes.set .l3
          { laneUp with
            link := .joining, handedDrawer := some .opened, holder := some (.ticket 7), lost := .owed, lostTimer := some 3,
            slotReply := some (.valid (.statusD .locked true false)) },
        presentations := State.reset.presentations.set .l3 (some ⟨7, true, true, false⟩) })
    (fun t => decide ((t.lane .l3).link = .joining ∧ (t.lane .l3).repDrawer = some .locked
      ∧ (t.lane .l3).desiredDrawer = .closing)) = true := by decide

/-- A frame in which lane 3 alone has a reply. -/
theorem witness_DrawerReportsAndWhatIsHandedOn_frame :
    (∀ m, m ≠ .l3 → ((framed laneUp (.valid (.statusD .locked true true))).lane m).slotReply = none)
    ∧ (laneUp.link = .online ∧ laneUp.slotFault = false ∧ wall.ring.syncFault = false)
    ∧ laneUp.lastEvent = some 0 ∧ (1 : Nat) = (0 + 1) % 8
    ∧ after (exec .frameEnd { waiting with lanes := (framed laneUp (.valid (.event .insert 1))).lanes }) (fun t =>
        decide ((t.envelope 7).map Envelope.state = some .capturing)) = true := by
  refine ⟨fun m h => ?_, by decide, by decide, by decide, by decide⟩
  cases m <;> first | rfl | exact absurd rfl h

/-- Ticket 7 of lane 3 with its lane lost, the lost-lane timer running. -/
def lost (d : Dispense) : State :=
  { holdingD d with lanes := wall.lanes.set .l3 { laneUp with link := .silent, lost := .owed, lostTimer := some 1 } }

theorem witness_LaneLossAndRestart :
    (wall.lane .l3).lostTimer = none ∧ ((lost (dsp .presented 12)).lane .l3).lostTimer.isSome = true
    ∧ (lost (dsp .presented 12)).boundTicket .l3 = some (tktD 7 (dsp .presented 12)).number
    ∧ (lost (dsp .presented 12)).holdsDispense (tktD 7 (dsp .presented 12)) (dsp .presented 12)
    ∧ (lost (dsp .routing 12)).boundTicket .l3 = some (tktD 7 (dsp .routing 12)).number
    ∧ (lost (dsp .routing 12)).holdsDispense (tktD 7 (dsp .routing 12)) (dsp .routing 12)
    ∧ wall.frameBegun ∧ wall.namedLane 0 = none ∧ wall.namedLane 9 = none ∧ wall.namedLane 8 = some .l8
    ∧ (wall.lane .l3).link ≠ .faulted ∧ wall.namedLane 3 = some .l3
    ∧ ((lane3 { laneUp with link := .faulted }).lane .l3).link = .faulted := by decide

/-- Ticket 7 DISPUTED with 12 notes, 5 of them swept back, and an approval of B for 7 delivered. -/
def disputed : State :=
  { holdingD (dsp .disputed 12) with
    disputes := [⟨7, .l3, some 5⟩], approvals := [⟨.resolve 7, .b, some 7, 1⟩] }

theorem witness_ResolveTakesTwoTellers_refused :
    inSetup.frameBegun ∧ inSetup.wall.service = false ∧ 9999 < 10000 ∧ wall.ticket 9999 = none
    ∧ waiting.ticket 7 = some (tkt 7 (.envelope (env .awaitingEnvelope)))
    ∧ (running .ready none none).ticket 7 = some (tkt 7 (.intake (itk .collecting))) := by decide

theorem witness_ResolveTakesTwoTellers :
    disputed.frameBegun ∧ disputed.wall.service = true ∧ Teller.ofNat? 1 = some .a
    ∧ disputed.holdsDispense (tktD 7 (dsp .disputed 12)) (dsp .disputed 12) ∧ (dsp .disputed 12).unresolved < 13
    ∧ 7 ≤ (dsp .disputed 12).unresolved ∧ (dsp .staged).state ≠ .disputed ∧ disputed.sweepingBack 7 = false
    ∧ ({ disputed with route := .retracting .l3 (.ticket 7) .disputed 12 } : State).sweepingBack 7 = true
    ∧ (wall.heldApproval (.resolve 7)).map HeldApproval.teller ≠ some (Teller.complement .a)
    ∧ disputed.heldApproval (.resolve 7) = some ⟨.resolve 7, Teller.complement .a, some 7, 1⟩ ∧ some 7 ≠ some 8
    ∧ after (exec (.resolve 7 7 1) disputed) (fun t =>
        decide ((t.dispense 7).map (fun d => (d.state, d.delivered, d.retracted)) = some (.resolved, 7, 5)
          ∧ t.countPoint.writtenOff.total = 0)) = true := by decide

/-! ### Cases: alarms -/

/-- The wall with one alarm record, of lane 1's tamper. -/
def alarmed (st : AlarmState) : State :=
  { wall with
    alarms := { Alarms.reset with
      lockdown := true,
      records := [⟨.owned (.laneTamper .l1), st, ⟨true, false, false, false⟩, .notice, 1, none⟩] } }

theorem witness_AlarmAckAndResume_ack :
    wall.frameBegun ∧ 22 < 23 ∧ wall.alarmRecord 22 = none
    ∧ (alarmed .acked).alarmRecord 1
        = some ⟨.owned (.laneTamper .l1), .acked, ⟨true, false, false, false⟩, .notice, 1, none⟩
    ∧ (alarmed .raised).alarmRecord 1
        = some ⟨.owned (.laneTamper .l1), .raised, ⟨true, false, false, false⟩, .notice, 1, none⟩
    ∧ (alarmed .standing).alarmRecord 1
        = some ⟨.owned (.laneTamper .l1), .standing, ⟨true, false, false, false⟩, .notice, 1, none⟩ := by decide

theorem witness_AlarmAckAndResume_resume :
    after (exec .resume (alarmed .raised)) (fun t => decide (t.alarms.lockdown = false)) = true
    ∧ after (exec .resume wall) (fun t => decide (t.port.held = some ⟨.badState, []⟩)) = true := by decide

/-- Two samples are held; a third that shows line AIN 0 active as one of them did changes its judged level. -/
def sampled : State := { wall with alarms := { Alarms.reset with samples := [1, 0] } }

theorem witness_InputsAreJudgedByMajority :
    sampled.alarms.samples = 1 :: 0 :: []
    ∧ after (exec (.inputSample 1) sampled) (fun t => decide (t.alarms.pattern = 1)) = true
    ∧ after (exec (.inputSample 0) sampled) (fun t => decide (t.alarms.pattern = sampled.alarms.pattern)) = true := by
  decide

/-- LOCAL active with class NOTICE for line AIN 0 and HOLD for AIN 1, in its record's state. -/
def localActive (st : AlarmState) : State :=
  { wall with
    params := { wall.params with classTable := [.none, .notice, .hold] ++ List.replicate 61 .none },
    alarms := { Alarms.reset with
      samples := [2, 1], pattern := 1, inputs := ⟨true, .notice⟩,
      records := [⟨.inputs, st, ⟨true, false, false, false⟩, .notice, 1, some 1⟩] } }

theorem witness_AlarmRecordsFollowTheirSources :
    (wall.alarms.sources.get (.lineFault .l2)).active = false ∧ wall.alarmRecord 10 = none
    ∧ wall.params.sourceClasses.get (.laneTamper .l2) = .lockdown
    ∧ ((wall.hand (.laneTamper .l2) true).alarms.sources.get (.laneTamper .l2)).active = true
    ∧ (wall.hand (.laneTamper .l2) true).alarms.lockdown = true
    ∧ (((wall.hand (.laneTamper .l2) true).hand (.laneTamper .l2) false).alarmRecord 2).map AlarmRecord.state
        = some .standing
    ∧ ((((wall.hand (.laneTamper .l2) true).hand (.laneTamper .l2) false).hand (.laneTamper .l2) true).alarmRecord 2).map
        (fun r => (r.state, r.timesRaised)) = some (.raised, 2)
    ∧ (localActive .acked).alarms.samples = 2 :: 1 :: []
    ∧ after (exec (.inputSample 2) (localActive .acked)) (fun t => decide ((t.alarmRecord 0).map (fun r =>
        (r.state, r.classes, r.current, r.pattern)) = some (.raised, ⟨true, true, false, false⟩, .hold, some 2))) = true
    ∧ after (exec (.inputSample 0) { localActive .acked with alarms := { (localActive .acked).alarms with samples := [0, 0] } })
        (fun t => decide (t.alarms.records = [])) = true := by decide

/-- Ticket 7 PICKING with the picker waiting for the D gate, a note of ticket 8 waiting there too, and a presentation. -/
def bothAtGate : State :=
  { nextAtD .d none true with
    picker := { feeding .d with state := .waitingGate }, gate := { (nextAtD .d none true).gate with waitPicker := true },
    presentations := State.reset.presentations.set .l5 (some ⟨9, false, false, false⟩) }

/-- The entry of LOCKDOWN and of QUIESCING withdraw what waits; LOCKDOWN alone asks the presentation to close. -/
theorem witness_LockdownAndQuiescingWithdrawClaims :
    bothAtGate.alarms.lockdown = false ∧ bothAtGate.picker.state = .waitingGate ∧ bothAtGate.intakeRec.state = .waitingGate
    ∧ bothAtGate.intakeRec.escrow = some ⟨some .c3, some 20⟩
    ∧ (let u := bothAtGate.hand (.laneTamper .l2) true
       u.alarms.lockdown = true ∧ u.picker.state = .paused ∧ u.picker.ticket = some 7
       ∧ u.intakeRec.destination = some .tray ∧ u.gate.waitPicker = false ∧ u.gate.waitDeposit = false
       ∧ u.presentations.get .l5 = some ⟨9, false, true, false⟩)
    ∧ after (exec .countPoint bothAtGate) (fun u => decide (u.picker.state = .paused
        ∧ u.intakeRec.destination = some .tray ∧ u.presentations.get .l5 = some ⟨9, false, false, false⟩)) = true := by
  decide

/-! ### Cases: count points and configuration -/

/-- The wall with a count point in a state. -/
def counting (st : CountState) : State :=
  { wall with
    countPoint := { CountPoint.reset with
      state := st, causes := ⟨false, true, false, false⟩, number := 65535, release := .single .d,
      timer := if st = .quiescing then some 15 else none },
    slots := { wall.slots with d := { cassette 3 20 1500 90 with state := .releasePending, prior := some .suspended } } }

theorem witness_CountPointIsRequested :
    inSetup.frameBegun ∧ inSetup.wall.service = false ∧ wall.wall.service = true ∧ wall.countPoint.state = .idle
    ∧ (counting .quiescing).countPoint.state = .quiescing ∧ (counting .balancing).countPoint.state = .balancing := by decide

theorem witness_CountPointBalancesOrTimesOut :
    wall.countPoint.state ≠ .quiescing ∧ (counting .quiescing).countPoint.state = .quiescing
    ∧ ({ counting .quiescing with route := .sweeping } : State).route ≠ .free
    ∧ ((counting .quiescing).picker.state = .idle ∧ (counting .quiescing).route = .free
        ∧ (counting .quiescing).staging.purge ≠ .running ∧ (counting .quiescing).gate.granted = none
        ∧ (counting .quiescing).intakeRec.state ≠ .placing)
    ∧ ((counting .quiescing).slot .b).state = .inService ∧ (counting .quiescing).countPoint.pending = false
    ∧ ((counting .quiescing).slot .d).state = .releasePending ∧ (counting .quiescing).countPoint.release.get .d = true
    ∧ (counting .quiescing).countPoint.written.get .d = false
    ∧ after (exec .quiesceTimerExpiry (counting .quiescing)) (fun t =>
        decide (t.countPoint.number = 1 ∧ (t.slot .d).state = .suspended)) = true := by decide

/-- A count point in QUIESCING with no cassette to write back publishes at once. -/
theorem witness_CountPointBalancesOrTimesOut_empty :
    (∀ q, (({ counting .quiescing with slots := .const .empty } : State).slot q).state ≠ .inService
      ∧ (({ counting .quiescing with slots := .const .empty } : State).slot q).state ≠ .suspended
      ∧ (({ counting .quiescing with slots := .const .empty } : State).slot q).state ≠ .releasePending)
    ∧ after (exec .quietFound { counting .quiescing with slots := .const .empty }) (fun t =>
        decide (t.countPoint.state = .idle ∧ t.balance.map Balance.result = some .clean)) = true := by
  refine ⟨fun q => ?_, by decide⟩
  cases q <;> decide

theorem witness_ConfigureChecksThenApplies :
    inSetup.frameBegun
    ∧ (∀ y ∈ ([.takeTimeout 30, .laneCount 8] : List ConfigItem),
        itemInRange y = true ∧ (setupOnly y = false ∨ inSetup.wall.service = false ∧ inSetup.wall.starting = false))
    ∧ (∀ y ∈ ([.takeTimeout 30] : List ConfigItem),
        itemInRange y = true ∧ (setupOnly y = false ∨ wall.wall.service = false ∧ wall.wall.starting = false))
    ∧ itemInRange (.denominations 8 [10000]) = true ∧ itemInRange (.denominations 8 [1, 1]) = false
    ∧ itemInRange (.classTable 63 [4]) = true ∧ itemInRange (.sourceClasses 22 [0]) = true
    ∧ ((Params.default.apply (.denominations 7 [20, 0])).denominations.get .c7 = some 20)
    ∧ ((Params.default.apply (.sourceClasses 8 [4, 3])).sourceClasses.get (.lineFault .l1) = .lockdown)
    ∧ itemInRange (.laneCount 9) = false ∧ itemInRange (.laneCount 8) = true ∧ setupOnly (.laneCount 8) = true
    ∧ wall.wall.service = true
    ∧ ({ wall with wall := ⟨false, true, true⟩ } : State).wall = ⟨false, true, true⟩ := by decide

/-! ### Cases: further clauses of the statements above -/

/-- A pick claim and a note wait at D, and D is drawn out, or suspended by a changed threshold: both are answered "not fit". -/
theorem witness_claims_not_fit :
    bothAtGate.gate.waitPicker = true ∧ bothAtGate.gate.waitDeposit = true ∧ bothAtGate.picker.ticket = some 7
    ∧ bothAtGate.intakeRec.owner = some 8 ∧ bothAtGate.intake 8 = some (itk .collecting)
    ∧ (bothAtGate.slot .d).state ≠ .absent ∧ bothAtGate.writeBackOf .d = false
    ∧ after (exec (.cassetteRemoval .d) bothAtGate) (fun u =>
        decide ((u.dispense 7).map Dispense.halt = some (some .removed) ∧ u.picker.state = .idle
          ∧ u.intakeRec.destination = some .vault)) = true
    ∧ after (exec (.configure [.suspendThreshold 2])
        { bothAtGate with slots := { bothAtGate.slots with d := { bothAtGate.slots.d with window := [true, true] } } })
        (fun u => decide ((u.slot .d).state = .suspended ∧ (u.dispense 7).map Dispense.halt = some (some .suspended)
          ∧ u.intakeRec.destination = some .vault)) = true := by decide

/-- D is released while a note waits there: its release was approved by A, and B approves it. -/
theorem witness_ReleaseTakesTwoTellers_atD :
    let s : State := { bothAtGate with
      tickets := [tkt 8 (.intake (itk .collecting))], params := { wall.params with recycling := false },
      slots := { wall.slots with d := { wall.slots.d with release := some ⟨.a, 9⟩ } } }
    s.frameBegun ∧ (s.slot .d).release.map Approval.teller = some (Teller.complement .b)
    ∧ s.tickets.any (Ticket.pickingFrom .d) = false ∧ s.gate.waitDeposit = true
    ∧ after (exec (.positionRelease 4 2) s) (fun u => decide ((u.slot .d).state = .releasePending
        ∧ u.intakeRec.destination = some .vault)) = true := by decide

/-- A pick at D that suspends it, so that D takes no stores, with a note waiting: the note goes to the vault. -/
theorem witness_PickResultAtThePosition_notFit :
    let s : State := { nextAtD .d (some .picker) true with params := { wall.params with suspendThreshold := 1 } }
    s.picker.state = .feeding ∧ s.picker.ticket = some 7 ∧ s.picker.position = some .d ∧ s.gate.waitDeposit = true
    ∧ after (exec .pickMissTimeout s) (fun u => decide ((u.slot .d).state = .suspended
        ∧ u.intakeRec.destination = some .vault ∧ u.gate.waitDeposit = false)) = true := by decide

/-- A note of ticket 8 on its way to D while the picker waits there. -/
def placingAtD (x : Slot) (finish : Bool) : State :=
  { bothAtGate with
    slots := { wall.slots with d := x }, gate := ⟨some .deposit, true, false, some .deposit⟩,
    intakeRec := { bothAtGate.intakeRec with state := .placing, destination := some .cassetteD, finishHeld := finish } }

/-- The gate goes to the picker, or to no claimant when D is depleted by its miss run. -/
theorem witness_NotePlacedIsCounted_gate :
    (placingAtD wall.slots.d false).holdsIntake (tkt 8 (.intake (itk .collecting))) (itk .collecting)
    ∧ (placingAtD wall.slots.d true).intakeRec.finishHeld = true
    ∧ after (exec .notePlaced (placingAtD wall.slots.d false)) (fun u =>
        decide (u.gate.granted = some .picker ∧ u.picker.state = .feeding)) = true
    ∧ after (exec .notePlaced (placingAtD { wall.slots.d with depleted := .misses } true)) (fun u =>
        decide (u.gate.granted = none ∧ (u.dispense 7).map Dispense.halt = some (some .depleted)
          ∧ (u.intake 8).map Intake.state = some .counted)) = true := by decide

/-- The last write-back ends with a count point pending, which begins at once. -/
theorem witness_TagWriteEndSetsTheSlotAndPublishes_pending :
    let s : State := { lastWrite false (.single .d) with
      countPoint := { (lastWrite false (.single .d)).countPoint with
        pending := true, pendingCauses := ⟨true, false, false, false⟩ },
      rejectVault := { RejectVault.reset with emptied := ⟨5, 3⟩ } }
    after (exec (.tagWriteEnd [none, none]) s) (fun u =>
      decide (u.countPoint.state = .quiescing ∧ u.countPoint.timer = some s.params.quiesceTimeout
        ∧ u.rejectVault.emptied = ⟨3, 3⟩)) = true := by decide +kernel

/-- The count write-back of C that waits takes the line with 300 notes and number 42 in C's image. -/
theorem witness_TagWriteEndSetsTheSlotAndPublishes_next :
    let s : State := { writing .markWrite with
      slots := { wall.slots with
        b := { cassette 3 20 1000 300 with identity := some (Identity.ofTag (tag 3 3 0)) },
        c := { cassette 3 20 1000 300 with identity := some (Identity.ofTag (tag 3 3 1)) } },
      tagLink := ⟨[⟨.countWriteBack 42, .c⟩], some ⟨⟨.markWrite, .b⟩, tag 3 3 1⟩⟩ }
    (tag 3 3 1).length = 64
    ∧ after (exec (.tagWriteEnd [none, none]) s) (fun u =>
        (u.tagLink.inFlight.map fun x => (byteSum x.image, (x.image.drop 16).take 5)) == some (0, [1, 44, 0, 42, 0])) = true := by
  decide +kernel

/-- Quiet with the line free: the write-backs of B, C and D are asked in order. -/
theorem witness_CountPointBalancesOrTimesOut_line :
    (∀ p, (counting .quiescing).writeBackOf p = false)
    ∧ after (exec .quietFound (counting .quiescing)) (fun u =>
        decide (u.tagLink.inFlight.map InFlight.transfer = some ⟨.countWriteBack 1, .b⟩
          ∧ u.tagLink.queue = [⟨.countWriteBack 1, .c⟩, ⟨.countWriteBack 1, .d⟩])) = true := by
  refine ⟨fun p => ?_, by decide +kernel⟩
  cases p <;> decide

/-- Figures of the vaults with a part after the last balance moment: a publish that is its own balance moment restarts them
from 0, and begins the pending count point. -/
theorem witness_CountPointBalancesOrTimesOut_figures :
    let s : State := { counting .quiescing with
      rejectVault := { RejectVault.reset with emptied := ⟨5, 3⟩, sincePick := ⟨4, 2⟩ },
      countPoint := { (counting .quiescing).countPoint with pending := true, pendingRelease := .single .b } }
    after (exec .quiesceTimerExpiry s) (fun u => decide (u.rejectVault.emptied = ⟨0, 0⟩ ∧ u.rejectVault.sincePick = ⟨0, 0⟩
        ∧ u.countPoint.state = .quiescing ∧ u.countPoint.release = .single .b)) = true
    ∧ after (exec .quietFound { s with slots := .const .empty }) (fun u => decide (u.rejectVault.emptied = ⟨0, 0⟩
        ∧ u.countPoint.state = .quiescing)) = true := by decide +kernel

/-- Lane 3, with no ticket of its own, comes ONLINE with notes in its drawer after the sweep: the drawer is held for a SWEEP
retract. -/
theorem witness_DrawerReportsAndWhatIsHandedOn_join :
    let s : State := { returning .statusL (.statusD .locked true false) with
      tickets := [], presentations := .const none, sweepDone := true,
      lanes := (returning .statusL (.statusD .locked true false)).lanes.set .l3
        { (returning .statusL (.statusD .locked true false)).lane .l3 with holder := none } }
    s.boundTicket .l3 = none ∧ (s.lane .l3).repSlot = some .closed ∧ s.retracts = [] ∧ s.route = .free
    ∧ after (exec .frameEnd s) (fun u => decide ((u.lane .l3).holder = some .sweep ∧ (u.lane .l3).lost = .idle
        ∧ u.retracts.map Retract.expected = [200])) = true := by decide

/-- A DISPUTED ticket that holds lane 3 has its drawer drawn back, or its holder cleared. -/
theorem witness_DrawerReportsAndWhatIsHandedOn_disputed :
    let s (notes : Bool) : State := { holdingD (dsp .disputed 12) with
      lanes := wall.lanes.set .l3 { laneUp with holder := some (.ticket 7), repNotes := some notes } }
    ((s true).lane .l3).holder = some (.ticket 7) ∧ (s true).dispense 7 = some (dsp .disputed 12)
    ∧ ((s true).decideDrawer .l3).retracts.map Retract.kind = [.disputed]
    ∧ (((s false).decideDrawer .l3).lane .l3).holder = none := by decide

/-- A LOCAL record left STANDING is raised again; and a class of DURESS marks the tickets of A, whose input is in the
pattern. -/
theorem witness_AlarmRecordsFollowTheirSources_local :
    let s : State := { localActive .standing with
      tickets := [tkt 7 (.envelope (env .awaitingEnvelope))],
      params := { wall.params with classTable := [.none, .duress] ++ List.replicate 62 .none },
      alarms := { (localActive .standing).alarms with samples := [1, 0], pattern := 0, inputs := ⟨false, .none⟩ } }
    s.alarms.inputs.current = .none ∧ (s.alarmRecord 0).map AlarmRecord.state = some .standing
    ∧ after (exec (.inputSample 1) s) (fun u => decide ((u.alarmRecord 0).map (fun r => (r.state, r.timesRaised))
        = some (.raised, 2) ∧ u.reasons.alarm = true ∧ (u.ticket 7).map Ticket.mark = some ⟨true, false⟩)) = true := by decide

/-- CONFIGURE in SETUP and in SERVICE: the denominations judge the positions again, the class table the pattern that holds, and
a periodic count that the settled counter has reached asks PERIODIC. -/
theorem witness_ConfigureChecksThenApplies_atOnce :
    let s : State := { inSetup with
      slots := { wall.slots with
        b := { cassette 3 20 1000 300 with identity := some (Identity.ofTag (tag 3 3 0)) },
        c := { Slot.empty with
          state := .refused, refused := some .denomination, identity := some (Identity.ofTag (tag 4 3 0)) } },
      alarms := { Alarms.reset with pattern := 1 } }
    after (exec (.configure [.denominations 3 [0, 20]]) s) (fun u => decide ((u.slot .b).refused = some .denomination
        ∧ (u.slot .c).state = .inService ∧ (u.slot .c).count = 3)) = true
    ∧ after (exec (.configure [.classTable 1 [2]]) s) (fun u =>
        decide ((u.alarmRecord 0).map AlarmRecord.current = some .hold)) = true
    ∧ after (exec (.configure [.periodicCount 3]) { wall with countPoint := { CountPoint.reset with settled := 3 } })
        (fun u => decide (u.countPoint.state = .quiescing ∧ u.countPoint.causes = ⟨false, false, true, false⟩)) = true := by
  decide +kernel

/-! ### Cases: the invariants -/

/-- Two lanes of a formed wall: one that may take its notes, and one whose slot is open for its ticket. -/
theorem witness_FormedValuesFollowTheirRows :
    presented.reform.formed = true ∧ (presented.reform.lane .l3).desiredDrawer = .unlocked
    ∧ (presented.reform.lane .l3).desiredLamp = .take ∧ (waiting.reform.lane .l3).desiredSlot = .opened
    ∧ (waiting.reform.lane .l3).desiredLamp = .deposit ∧ locked.reform.formed = true
    ∧ (leaving.reform.lane .l3).desiredDrawer = .unlocked
    ∧ (({ leaving with presentations := leaving.presentations.set .l3 (some ⟨7, true, true, false⟩) } : State).reform.lane
        .l3).desiredDrawer = .closing
    ∧ (locked.reform.lane .l1).desiredLamp = .laneClosed := by decide

theorem witness_StepKeepsTheFormedValues : State.reset.formed = true
    ∧ after (step { State.reset with pending := [.inputSample 1] }) (fun t => decide (t.alarms.samples = [1])) = true := by
  decide

/-- The wall with ticket 7 QUEUED and a step to take it: every invariant holds before. -/
def queued : State := { holdingD (dsp .queued) with pickQueue := [7], pending := [.ticketSelection] }

theorem witness_StepKeepsTheTablesOrdered : queued.tablesOrdered := by unfold State.tablesOrdered; decide

theorem witness_StepKeepsTheQueue : queued.queueRight := by
  refine ⟨by decide, fun n => ⟨fun h => ?_, fun h => ?_⟩⟩
  · have : n = 7 := by simpa [queued] using h
    subst this
    exact ⟨dsp .queued, by decide, by decide⟩
  · obtain ⟨d, h, -⟩ := h
    by_cases e : n = 7
    · subst e; decide
    · have : queued.dispense n = none := by
        simp [queued, holdingD, holding, tktD, tkt, State.dispense, State.ticket, findByKey, Ne.symm e]
      simp [this] at h

theorem witness_StepKeepsTheLanes : queued.lanesHeldOnce := by intro l; cases l <;> decide

theorem witness_StepKeepsOneRetractPerLane : (toRetract 0).retractsOnce := by unfold State.retractsOnce; decide

theorem witness_StepKeepsTheFigures : wall.slotsCount ∧ wall.rejectVault.inRange := by
  refine ⟨⟨fun p => ?_, fun p r h => ?_⟩, ?_⟩
  · unfold Slot.counts; cases p <;> decide
  · have none : wall.retiring.get p = none := by cases p <;> rfl
    simp [none] at h
  · unfold RejectVault.inRange Since.upTo; decide

theorem witness_StepKeepsTheWallModes : wall.modesFormed ∧ locked.alarms.lockdown = true
    ∧ after (exec .frameEnd locked) (fun t => t.alarms.lockdown) = true := by
  unfold State.modesFormed; decide

end Sys2Proof.Tests
end

section
/-! PROOFS. What an operation may do to the keyed tables and to the pick queue: `State.Calm` is the relation in which nearly every
operation stands, and which is proved of each of them once. The invariants of the tables, of the pick queue and of the lanes
follow from it (`State.Calm.keeps`). -/

namespace Sys2Proof.Machine

/-! ### Keyed lists -/

section Keyed
variable {α : Type} {key : α → Nat}

/-- In a rising list an entry is found under its key. -/
theorem findByKey_of_mem {x : α} {xs : List α} (hr : risingBy key xs = true) (hx : x ∈ xs) :
    findByKey key (key x) xs = some x := by
  induction xs with
  | nil => cases hx
  | cons y ys ih =>
    obtain ⟨hlt, hr⟩ := risingBy_cons.1 hr
    rcases List.mem_cons.1 hx with rfl | hx
    · simp [findByKey]
    · have hne : (key y == key x) = false := by
        have := hlt x hx
        simp; omega
      simpa [findByKey, hne] using ih hr hx

/-- A map that keeps the keys finds the image of what was found. -/
theorem findByKey_map {f : α → α} (hf : ∀ x, key (f x) = key x) (k : Nat) (xs : List α) :
    findByKey key k (xs.map f) = (findByKey key k xs).map f := by
  simp [findByKey, List.find?_map, hf]

theorem findByKey_dropKey_of_ne {k m : Nat} (hm : m ≠ k) (xs : List α) :
    findByKey key m (dropKey key k xs) = findByKey key m xs := by
  induction xs with
  | nil => rfl
  | cons y ys ih =>
    by_cases hy : key y = k
    · have hk : (key y == m) = false := by simp [hy, Ne.symm hm]
      simpa [findByKey, dropKey, hy, Ne.symm hm] using ih
    · by_cases hym : key y = m
      · simp [findByKey, dropKey, hym, hm]
      · simpa [findByKey, dropKey, hy, hym] using ih

/-- A rising list keeps at most one entry of a kind when no two of the kind have different keys. -/
theorem length_filter_le_one {p : α → Bool} {xs : List α} (hr : risingBy key xs = true) :
    (xs.filter p).length ≤ 1 ↔ ∀ x ∈ xs, ∀ y ∈ xs, p x = true → p y = true → key x = key y := by
  have hsub : risingBy key (xs.filter p) = true := risingBy_sublist List.filter_sublist hr
  have hmem : ∀ x, x ∈ xs.filter p ↔ x ∈ xs ∧ p x = true := fun x => List.mem_filter
  constructor
  · intro hlen x hx y hy hpx hpy
    have hx' := (hmem x).2 ⟨hx, hpx⟩
    have hy' := (hmem y).2 ⟨hy, hpy⟩
    match hl : xs.filter p with
    | [] => simp [hl] at hx'
    | [z] => simp [hl] at hx' hy'; rw [hx', hy']
    | _ :: _ :: _ => simp [hl] at hlen
  · intro hall
    match hl : xs.filter p with
    | [] => simp
    | [_] => simp
    | y :: z :: zs =>
      have hy := (hmem y).1 (by simp [hl])
      have hz := (hmem z).1 (by simp [hl])
      rw [hl] at hsub
      have hlt := (risingBy_cons.1 hsub).1 z (by simp)
      have heq := hall y hy.1 z hz.1 hy.2 hz.2
      omega

end Keyed

/-! ### Bodies, queued tickets and tickets that hold their lane -/

/-- Whether a body is that of a DISPENSE ticket in QUEUED. -/
def TicketBody.queued : TicketBody → Bool
  | .dispense d => decide (d.state = .queued)
  | .envelope _ => false
  | .intake _ => false

/-- Whether a body is that of a DISPENSE ticket in one of the seven states of R21. -/
def TicketBody.holds : TicketBody → Bool
  | .dispense d => d.state.holdsLane
  | .envelope _ => false
  | .intake _ => false

/-- A change of a body that neither makes nor ends a QUEUED ticket, and brings no ticket into the seven states of R21. -/
def TicketBody.calm (b c : TicketBody) : Prop := c.queued = b.queued ∧ (c.holds = true → b.holds = true)

theorem TicketBody.calm_rfl {b : TicketBody} : b.calm b := ⟨rfl, id⟩

/-- A DISPENSE record that changes without a change of its state is calm. -/
theorem TicketBody.calm_of_state {d e : Dispense} (h : e.state = d.state) :
    (TicketBody.dispense d).calm (.dispense e) := by
  simp [TicketBody.calm, TicketBody.queued, TicketBody.holds, h]

/-- A change from one DISPENSE state to another that neither leaves nor enters QUEUED, and enters the seven states of R21 from
one of them alone. -/
def DispenseState.calmTo (x y : DispenseState) : Bool :=
  decide (x ≠ .queued) && decide (y ≠ .queued) && (!y.holdsLane || x.holdsLane)

theorem TicketBody.calm_of_calmTo {d e : Dispense} (h : d.state.calmTo e.state = true) :
    (TicketBody.dispense d).calm (.dispense e) := by
  simp only [DispenseState.calmTo, Bool.and_eq_true, decide_eq_true_eq] at h
  obtain ⟨⟨hd, he⟩, hh⟩ := h
  refine ⟨by simp [TicketBody.queued, hd, he], fun hb => ?_⟩
  simp only [TicketBody.holds] at hb ⊢
  simpa [hb] using hh

/-- A body of another kind than DISPENSE is neither QUEUED nor in the seven states. -/
theorem TicketBody.calm_of_not {b c : TicketBody} (hb : b.queued = false) (hc : c.queued = false) (hh : c.holds = false) :
    b.calm c := ⟨by rw [hb, hc], by simp [hh]⟩

theorem Ticket.holdsLane_iff {l : Lane} {t : Ticket} : t.holdsLane l = true ↔ t.lane = l ∧ t.body.holds = true := by
  unfold Ticket.holdsLane TicketBody.holds
  cases t.body <;> simp

/-- A number under which a QUEUED ticket is held. -/
def State.queuedAt (s : State) (n : Nat) : Prop := ∃ t, s.ticket n = some t ∧ t.body.queued = true

/-- A number under which a ticket of a lane is held that is in one of the seven states of R21. -/
def State.heldAt (s : State) (n : Nat) (l : Lane) : Prop := ∃ t, s.ticket n = some t ∧ t.holdsLane l = true

theorem State.queuedAt_iff {s : State} {n : Nat} :
    s.queuedAt n ↔ ∃ d, s.dispense n = some d ∧ d.state = .queued := by
  constructor
  · rintro ⟨t, ht, hq⟩
    cases hb : t.body with
    | dispense d => exact ⟨d, State.dispense_some.2 ⟨t, ht, hb⟩, by simpa [hb, TicketBody.queued] using hq⟩
    | envelope e => simp [hb, TicketBody.queued] at hq
    | intake k => simp [hb, TicketBody.queued] at hq
  · rintro ⟨d, hd, hq⟩
    obtain ⟨t, ht, hb⟩ := State.dispense_some.1 hd
    exact ⟨t, ht, by simp [hb, TicketBody.queued, hq]⟩

theorem State.queueRight_iff {s : State} : s.queueRight ↔ s.pickQueue.Nodup ∧ ∀ n, n ∈ s.pickQueue ↔ s.queuedAt n := by
  simp only [State.queueRight, State.queuedAt_iff]

/-- With the ticket table in order, a ticket is in the table exactly when its number finds it. -/
theorem State.mem_tickets_iff {s : State} (h : s.tablesOrdered) {t : Ticket} :
    t ∈ s.tickets ↔ s.ticket t.number = some t :=
  ⟨findByKey_of_mem h.1, fun ht => (State.ticket_some ht).1⟩

/-- With the ticket table in order, one ticket at most holds a lane when no two numbers hold it. -/
theorem State.lanesHeldOnce_iff {s : State} (h : s.tablesOrdered) :
    s.lanesHeldOnce ↔ ∀ l m n, s.heldAt m l → s.heldAt n l → m = n := by
  simp only [State.lanesHeldOnce, length_filter_le_one h.1]
  constructor
  · rintro hall l m n ⟨t, ht, htl⟩ ⟨u, hu, hul⟩
    obtain ⟨htm, rfl⟩ := State.ticket_some ht
    obtain ⟨hum, rfl⟩ := State.ticket_some hu
    exact hall l t htm u hum htl hul
  · intro hall l t ht u hu htl hul
    exact hall l _ _ ⟨t, (State.mem_tickets_iff h).1 ht, htl⟩ ⟨u, (State.mem_tickets_iff h).1 hu, hul⟩

/-! ### Calm operations -/

/-- What a calm operation leaves: the tables in order, the pick queue and the QUEUED tickets as they were, and no ticket brought
into the seven states of R21. -/
structure State.CalmTo (s t : State) : Prop where
  tables : t.tablesOrdered
  queue : t.pickQueue = s.pickQueue
  queued : ∀ n, t.queuedAt n ↔ s.queuedAt n
  held : ∀ n l, t.heldAt n l → s.heldAt n l

/-- An operation that is calm while the tables are in order. -/
def State.Calm (s t : State) : Prop := s.tablesOrdered → s.CalmTo t

theorem State.Calm.rfl {s : State} : s.Calm s := fun h => ⟨h, Eq.refl _, fun _ => Iff.rfl, fun _ _ => id⟩

theorem State.Calm.trans {s t u : State} (h : s.Calm t) (k : t.Calm u) : s.Calm u := fun hs =>
  have ht := h hs
  have hu := k ht.tables
  ⟨hu.tables, hu.queue.trans ht.queue, fun n => (hu.queued n).trans (ht.queued n),
    fun n l hn => ht.held n l (hu.held n l hn)⟩

/-- Tickets and the pick queue as they were, with every other table still in order. -/
theorem State.Calm.of_lists {s t : State} (ht : t.tickets = s.tickets) (hn : t.nextNumber = s.nextNumber)
    (hq : t.pickQueue = s.pickQueue) (hc : risingBy id s.changeSet = true → risingBy id t.changeSet = true)
    (hd : risingBy Dispute.key s.disputes = true → risingBy Dispute.key t.disputes = true)
    (hr : risingBy AlarmRecord.key s.alarms.records = true → risingBy AlarmRecord.key t.alarms.records = true)
    (ha : risingBy HeldApproval.key s.approvals = true → risingBy HeldApproval.key t.approvals = true) : s.Calm t := by
  rintro ⟨h1, h2, h3, h4, h5, h6, h7, h8, h9⟩
  refine ⟨?_, hq, fun n => ?_, fun n l => ?_⟩
  · unfold State.tablesOrdered
    rw [ht, hn]
    exact ⟨h1, h2, h3, h4, h5, hc h6, hd h7, hr h8, ha h9⟩
  · simp only [State.queuedAt, State.ticket, ht]
  · simp only [State.heldAt, State.ticket, ht]; exact id

/-- The tables and the pick queue of a state. -/
structure Tables where
  tickets    : List Ticket
  nextNumber : Nat
  pickQueue  : List Nat
  changeSet  : List Nat
  disputes   : List Dispute
  records    : List AlarmRecord
  approvals  : List HeldApproval

/-- The tables and the pick queue, of which the invariants speak. -/
def State.tables (s : State) : Tables :=
  ⟨s.tickets, s.nextNumber, s.pickQueue, s.changeSet, s.disputes, s.alarms.records, s.approvals⟩

/-- An operation that leaves the tables is calm. -/
theorem State.Calm.of_tables {s t : State} (h : t.tables = s.tables) : s.Calm t := by
  simp only [State.tables, Tables.mk.injEq] at h
  obtain ⟨h1, h2, h3, h4, h5, h6, h7⟩ := h
  exact .of_lists h1 h2 h3 (h4 ▸ id) (h5 ▸ id) (h6 ▸ id) (h7 ▸ id)

section Branches
variable {s t u : State} {c : Prop} [Decidable c]

/-- Either branch may be taken. -/
theorem State.Calm.ite (h : s.Calm t) (k : s.Calm u) : s.Calm (if c then t else u) := by split <;> assumption

/-- An operation that follows only under a condition. -/
theorem State.Calm.thenIf (h : s.Calm t) (k : t.Calm u) : s.Calm (if c then u else t) := .ite (h.trans k) h

end Branches

/-- An operation made for each of several places. -/
theorem State.Calm.foldl {α : Type} {f : State → α → State} (hf : ∀ (s : State) (x : α), s.Calm (f s x)) (xs : List α) (s : State) :
    s.Calm (xs.foldl f s) := by
  induction xs generalizing s with
  | nil => exact .rfl
  | cons x xs ih => exact (hf s x).trans (ih _)

/-- A calm operation made from a state that is itself reached calmly. -/
theorem State.Calm.since {s t u : State} (k : t.Calm u) (h : s.Calm t) : s.Calm u := h.trans k

/-- A calm operation made from a state whose tables are those of the one before. -/
theorem State.Calm.after {s t u : State} (k : t.Calm u) (h : t.tables = s.tables := by rfl) : s.Calm u :=
  (State.Calm.of_tables h).trans k

/-! ### The invariants that calm operations keep -/

/-- What a step keeps of the tables, the pick queue and the lanes. -/
structure State.Keeps (s t : State) : Prop where
  tables : s.tablesOrdered → t.tablesOrdered
  queue : s.tablesOrdered → s.queueRight → t.queueRight
  lanes : s.tablesOrdered → s.lanesHeldOnce → t.lanesHeldOnce

/-- One ticket at most holds a lane still when no ticket has been brought into the seven states. -/
theorem State.lanesHeldOnce_of_held {s t : State} (hs : s.tablesOrdered) (ht : t.tablesOrdered)
    (held : ∀ n l, t.heldAt n l → s.heldAt n l) (h : s.lanesHeldOnce) : t.lanesHeldOnce :=
  (State.lanesHeldOnce_iff ht).2 fun l m n hm hn =>
    (State.lanesHeldOnce_iff hs).1 h l m n (held m l hm) (held n l hn)

theorem State.Calm.keeps {s t : State} (h : s.Calm t) : s.Keeps t where
  tables hs := (h hs).tables
  queue hs hq := by
    rw [State.queueRight_iff] at hq ⊢
    rw [(h hs).queue]
    exact ⟨hq.1, fun n => (hq.2 n).trans ((h hs).queued n).symm⟩
  lanes hs hl := State.lanesHeldOnce_of_held hs (h hs).tables (h hs).held hl

theorem State.Keeps.trans {s t u : State} (h : s.Keeps t) (k : t.Keeps u) : s.Keeps u where
  tables hs := k.tables (h.tables hs)
  queue hs hq := k.queue (h.tables hs) (h.queue hs hq)
  lanes hs hl := k.lanes (h.tables hs) (h.lanes hs hl)

/-! ### Tickets put back, mapped and opened -/

variable {s : State}

theorem State.ticket_putTicket (t : Ticket) (n : Nat) :
    (s.putTicket t).ticket n = if n = t.number then some t else s.ticket n := by
  split
  · rename_i h; subst h; exact State.ticket_putTicket_self t
  · rename_i h; exact State.ticket_putTicket_of_ne h

/-- The tables with a held ticket put back under its number. -/
theorem State.tablesOrdered_putTicket {t u : Ticket} (h : s.tablesOrdered) (ht : s.ticket t.number = some t)
    (hu : u.number = t.number) : (s.putTicket u).tablesOrdered := by
  obtain ⟨h1, h2, h3, rest⟩ := h
  have hmem := (State.ticket_some ht).1
  refine ⟨risingBy_putByKey _ h1, ?_, fun v hv => ?_, rest⟩
  · rw [State.putTicket_tickets, length_putByKey_of_mem h1 hmem hu.symm]; exact h2
  · rcases mem_putByKey hv with rfl | hv
    · rw [hu]; exact h3 t hmem
    · exact h3 v hv

/-- A held ticket put back with its number and lane and a calm change of its body. -/
theorem State.calm_putTicket {t u : Ticket} (ht : s.ticket t.number = some t) (hn : u.number = t.number)
    (hl : u.lane = t.lane) (hb : t.body.calm u.body) : s.Calm (s.putTicket u) := by
  intro h
  have found : ∀ n, (s.putTicket u).ticket n = if n = t.number then some u else s.ticket n := fun n => by
    rw [State.ticket_putTicket, hn]
  refine ⟨State.tablesOrdered_putTicket h ht hn, rfl, fun n => ?_, fun n l => ?_⟩
  · simp only [State.queuedAt, found]
    split
    · rename_i hn; subst hn; simp [ht, hb.1]
    · rfl
  · simp only [State.heldAt, found]
    split
    · rename_i hn
      subst hn
      simp only [Option.some.injEq, exists_eq_left', ht, Ticket.holdsLane_iff, hl]
      exact fun ⟨h1, h2⟩ => ⟨h1, hb.2 h2⟩
    · exact id

/-- The body of a ticket replaced by a calm change. -/
theorem State.calm_rewrite {n : Nat} {b : TicketBody} (h : ∀ t, s.ticket n = some t → t.body.calm b) :
    s.Calm (s.rewrite n b) := by
  rcases State.rewrite_cases (s := s) n b with ⟨t, ht, he⟩ | ⟨-, he⟩
  · obtain rfl := (State.ticket_some ht).2
    rw [he]
    exact State.calm_putTicket ht rfl rfl (h t ht)
  · rw [he]; exact .rfl

theorem State.calm_noteTicket (n : Nat) : s.Calm (s.noteTicket n) :=
  .of_lists rfl rfl rfl (risingBy_addNumber n) id id id

/-- A state change that is calm. -/
theorem State.calm_move {n : Nat} {b : TicketBody} (h : ∀ t, s.ticket n = some t → t.body.calm b) :
    s.Calm (s.move n b) :=
  (State.calm_rewrite h).trans (State.calm_noteTicket n)

/-- The change of a DISPENSE record is calm when it is so for the record the number names. -/
theorem State.calm_move_dispense {n : Nat} {d : Dispense} {b : TicketBody} (hd : s.dispense n = some d)
    (h : (TicketBody.dispense d).calm b) : s.Calm (s.move n b) :=
  State.calm_move fun t ht => by
    obtain ⟨u, hu, hb⟩ := State.dispense_some.1 hd
    rw [ht, Option.some.injEq] at hu
    subst hu
    rwa [hb]

/-- A claim from one DISPENSE state into another that neither leaves nor enters QUEUED, and enters the seven states of R21
from one of them alone. -/
theorem State.calm_claim {n : Nat} {f : Dispense → Dispense} (from_ into : DispenseState)
    (hf : ∀ d, (f d).state = into) (hc : from_.calmTo into = true) : s.Calm (s.claim n (· = from_) f) := by
  rcases State.claim_cases (s := s) n (fun x => decide (x = from_)) f with ⟨d, hd, hin, he⟩ | he
  · rw [he]
    exact State.calm_move_dispense hd (TicketBody.calm_of_calmTo (by rw [hf, of_decide_eq_true hin]; exact hc))
  · rw [he]; exact .rfl

/-- A change of fields of a DISPENSE ticket that is no state change. -/
theorem State.calm_adjust {n : Nat} {f : Dispense → Dispense} (h : ∀ d, (f d).state = d.state) : s.Calm (s.adjust n f) := by
  rcases State.adjust_cases (s := s) n f with ⟨d, hd, he⟩ | he
  · rw [he]
    refine State.calm_rewrite fun t ht => ?_
    obtain ⟨u, hu, hb⟩ := State.dispense_some.1 hd
    rw [ht, Option.some.injEq] at hu
    subst hu
    rw [hb]
    exact TicketBody.calm_of_state (h d)
  · rw [he]; exact .rfl

/-- Every ticket changed in place, its number, its lane and its state being kept. -/
theorem State.calm_mapTickets {f : Ticket → Ticket} (hn : ∀ t, (f t).number = t.number) (hl : ∀ t, (f t).lane = t.lane)
    (hq : ∀ t, (f t).body.queued = t.body.queued) (hh : ∀ t, (f t).body.holds = t.body.holds) :
    s.Calm { s with tickets := s.tickets.map f } := by
  rintro ⟨h1, h2, h3, rest⟩
  have found : ∀ n, ({ s with tickets := s.tickets.map f } : State).ticket n = (s.ticket n).map f :=
    fun n => findByKey_map hn n s.tickets
  refine ⟨⟨(risingBy_map hn _).trans h1, by simpa using h2, ?_, rest⟩, rfl, fun n => ?_, fun n l => ?_⟩
  · simpa [hn] using h3
  · simp [State.queuedAt, found, hq]
  · simp [State.heldAt, found, Ticket.holdsLane_iff, hl, hh]

end Sys2Proof.Machine
end

section
/-! PROOFS. The number issued (R4), the opening of a ticket, and what the pick queue takes and gives up (R20). -/

namespace Sys2Proof.Machine

variable {s : State}

/-! ### The number issued -/

/-- The number k places after n, wrapping from 9999 to 1. -/
def numberAfter (n k : Nat) : Nat := (n - 1 + k) % 9999 + 1

theorem numberAfter_zero {n : Nat} (h1 : 1 ≤ n) (h2 : n ≤ 9999) : numberAfter n 0 = n := by
  unfold numberAfter; omega

theorem numberAfter_range (n k : Nat) : 1 ≤ numberAfter n k ∧ numberAfter n k ≤ 9999 := by
  unfold numberAfter; omega

/-- The step of the search (R4) is one place onward. -/
theorem numberAfter_succ {n : Nat} (h1 : 1 ≤ n) (h2 : n ≤ 9999) (k : Nat) :
    numberAfter (if n < Config.maxNumber then n + 1 else 1) k = numberAfter n (k + 1) := by
  unfold numberAfter Config.maxNumber
  split <;> omega

/-- The search passes over held numbers alone, and stops at a free one or when its tries are used up. -/
theorem searchNumber_spec (held : List Nat) (fuel : Nat) {n : Nat} (h1 : 1 ≤ n) (h2 : n ≤ 9999) :
    ∃ k ≤ fuel, searchNumber held fuel n = numberAfter n k ∧ (∀ j < k, numberAfter n j ∈ held)
      ∧ (k = fuel ∨ numberAfter n k ∉ held) := by
  induction fuel generalizing n with
  | zero => exact ⟨0, Nat.le_refl _, (numberAfter_zero h1 h2).symm, fun j hj => by omega, .inl rfl⟩
  | succ fuel ih =>
    by_cases hn : n ∈ held
    · obtain ⟨k, hk, he, hj, hf⟩ := ih (n := if n < Config.maxNumber then n + 1 else 1) (by split <;> omega)
        (by unfold Config.maxNumber; split <;> omega)
      simp only [numberAfter_succ h1 h2] at he hj hf
      refine ⟨k + 1, by omega, by simp [searchNumber, hn, he], fun j hjk => ?_, hf.imp_left (by omega)⟩
      cases j with
      | zero => rwa [numberAfter_zero h1 h2]
      | succ j => exact hj j (by omega)
    · exact ⟨0, Nat.zero_le _, by simp [searchNumber, hn, numberAfter_zero h1 h2], fun j hj => by omega,
        .inr (by rwa [numberAfter_zero h1 h2])⟩

/-- More tries than numbers held find a free one: the numbers passed over are all different. -/
theorem searchNumber_free {held : List Nat} {fuel n : Nat} (h1 : 1 ≤ n) (h2 : n ≤ 9999) (hl : held.length < fuel)
    (hf : fuel ≤ 9999) :
    ∃ k < 9999, searchNumber held fuel n = numberAfter n k ∧ (∀ j < k, numberAfter n j ∈ held)
      ∧ numberAfter n k ∉ held := by
  obtain ⟨k, hk, he, hj, hfree⟩ := searchNumber_spec held fuel h1 h2
  have hlen : k ≤ held.length := by
    have nodup : ((List.range k).map (numberAfter n)).Nodup := by
      refine List.Nodup.map_on (fun i hi j hj hij => ?_) List.nodup_range
      simp only [List.mem_range] at hi hj
      unfold numberAfter at hij
      omega
    have sub : (List.range k).map (numberAfter n) ⊆ held := fun m hm => by
      obtain ⟨j, hjk, rfl⟩ := List.mem_map.1 hm
      exact hj j (List.mem_range.1 hjk)
    simpa using (nodup.subperm sub).length_le
  exact ⟨k, by omega, he, hj, hfree.resolve_left (by omega)⟩

theorem State.ticket_eq_none {n : Nat} : s.ticket n = none ↔ n ∉ s.tickets.map Ticket.number := by
  simp [State.ticket, findByKey]

theorem State.hasFreeEntry_iff : s.hasFreeEntry = true ↔ s.tickets.length < 32 := decide_eq_true_iff

/-- With an entry free, the number issued is the first after the counter that no entry holds (R4). -/
theorem State.issueNumber_spec (h : s.tablesOrdered) (hfree : s.hasFreeEntry = true) :
    ∃ k < 9999, s.issueNumber = numberAfter s.nextNumber k
      ∧ (∀ j < k, s.ticket (numberAfter s.nextNumber j) ≠ none) ∧ s.ticket s.issueNumber = none := by
  obtain ⟨-, -, -, hlow, hhigh, -⟩ := h
  have hlen : (s.tickets.map Ticket.number).length < Config.tableSize := by
    rw [List.length_map]; exact State.hasFreeEntry_iff.1 hfree
  obtain ⟨k, hk, he, hj, hn⟩ := searchNumber_free hlow hhigh hlen (by decide)
  refine ⟨k, hk, he, fun j hjk => ?_, ?_⟩
  · rw [ne_eq, State.ticket_eq_none, not_not]; exact hj j hjk
  · rw [State.ticket_eq_none, State.issueNumber, he]; exact hn

theorem State.ticket_issueNumber (h : s.tablesOrdered) (hfree : s.hasFreeEntry = true) :
    s.ticket s.issueNumber = none :=
  have ⟨_, _, _, _, hn⟩ := State.issueNumber_spec h hfree
  hn

theorem State.issueNumber_range (h : s.tablesOrdered) (hfree : s.hasFreeEntry = true) :
    1 ≤ s.issueNumber ∧ s.issueNumber ≤ 9999 := by
  obtain ⟨k, -, he, -⟩ := State.issueNumber_spec h hfree
  rw [he]
  exact numberAfter_range _ _

/-- Settles O11: a free number before the one issued would be among those the search passed over. -/
theorem numberIssuedIsTheFirstFree : Obligations.NumberIssuedIsTheFirstFree := by
  intro s h hfree
  obtain ⟨k, hk, he, hj, hn⟩ := State.issueNumber_spec h hfree
  obtain ⟨hlow, hhigh⟩ := State.issueNumber_range h hfree
  obtain ⟨-, -, -, hlo, hhi, -⟩ := h
  refine ⟨hn, hlow, hhigh, fun m hm1 hm2 hm => ?_⟩
  have hplace : numberAfter s.nextNumber ((m + 9999 - s.nextNumber) % 9999) = m := by unfold numberAfter; omega
  have hle : k ≤ (m + 9999 - s.nextNumber) % 9999 := by
    by_contra hlt
    exact hj _ (by omega) (hplace ▸ hm)
  have hoff : (s.issueNumber + 9999 - s.nextNumber) % 9999 = k := by rw [he]; unfold numberAfter; omega
  omega

/-! ### Opening -/

section Opening
variable (l : Lane) (opener : Option Teller) (mark : TellerSet) (b : TicketBody)

theorem State.ticket_openTicket (n : Nat) :
    (s.openTicket l opener mark b).ticket n =
      if n = s.issueNumber then
        some { number := s.issueNumber, lane := l, opener := opener, openStamp := s.nextStamp, mark := mark, body := b }
      else s.ticket n :=
  State.ticket_putTicket _ n

theorem State.tablesOrdered_openTicket (hfree : s.hasFreeEntry = true) (h : s.tablesOrdered) :
    (s.openTicket l opener mark b).tablesOrdered := by
  have hrange := State.issueNumber_range h hfree
  obtain ⟨h1, -, h3, -, -, h6, h7⟩ := h
  have hlen := State.hasFreeEntry_iff.1 hfree
  refine ⟨risingBy_putByKey _ h1, (length_putByKey_le _ _).trans hlen, fun t ht => ?_, ?_, ?_, risingBy_addNumber _ h6, h7⟩
  · rcases mem_putByKey ht with rfl | ht
    · exact hrange
    · exact h3 t ht
  · unfold State.openTicket; dsimp only; split <;> omega
  · unfold State.openTicket Config.maxNumber; dsimp only; split <;> omega

/-- A new ticket that is in none of the seven states of R21 brings none there. -/
theorem State.heldAt_openTicket (hb : b.holds = false) (n : Nat) (k : Lane)
    (h : (s.openTicket l opener mark b).heldAt n k) : s.heldAt n k := by
  obtain ⟨t, ht, hh⟩ := h
  rw [State.ticket_openTicket] at ht
  split at ht
  · rw [Option.some.injEq] at ht
    subst ht
    simp [Ticket.holdsLane_iff, hb] at hh
  · exact ⟨t, ht, hh⟩

/-- The opening of a ticket that is neither QUEUED nor in the seven states is calm. -/
theorem State.calm_openTicket (hfree : s.hasFreeEntry = true) (hq : b.queued = false) (hb : b.holds = false) :
    s.Calm (s.openTicket l opener mark b) := fun h => by
  refine ⟨State.tablesOrdered_openTicket _ _ _ _ hfree h, rfl, fun n => ?_, State.heldAt_openTicket _ _ _ _ hb⟩
  simp only [State.queuedAt, State.ticket_openTicket]
  split
  · rename_i hn
    simp [hn, State.ticket_issueNumber h hfree, hq]
  · rfl

end Opening

/-! ### The pick queue -/

/-- The pick queue is right but for one number, which it does not hold. -/
def State.queueRightBut (s : State) (n : Nat) : Prop :=
  s.pickQueue.Nodup ∧ n ∉ s.pickQueue ∧ ∀ m, m ≠ n → (m ∈ s.pickQueue ↔ s.queuedAt m)

theorem State.queueRight.leave {n : Nat} (h : s.queueRight) : (s.leaveQueue n).queueRightBut n := by
  obtain ⟨hnd, hm⟩ := State.queueRight_iff.1 h
  refine ⟨hnd.filter _, by simp, fun m hmn => ?_⟩
  have hq : (s.leaveQueue n).queuedAt m ↔ s.queuedAt m := Iff.rfl
  rw [hq, State.leaveQueue_pickQueue]
  simp [hmn, hm]

theorem State.queueRight.but {n : Nat} (h : s.queueRight) (hn : ¬ s.queuedAt n) : s.queueRightBut n := by
  obtain ⟨hnd, hm⟩ := State.queueRight_iff.1 h
  exact ⟨hnd, fun hmem => hn ((hm n).1 hmem), fun m _ => hm m⟩

theorem State.queueRightBut.right {n : Nat} (h : s.queueRightBut n) (hn : ¬ s.queuedAt n) : s.queueRight := by
  obtain ⟨hnd, hnot, hm⟩ := h
  refine State.queueRight_iff.2 ⟨hnd, fun m => ?_⟩
  by_cases hmn : m = n
  · subst hmn; exact ⟨fun h => absurd h hnot, fun h => absurd h hn⟩
  · exact hm m hmn

/-- A change at the one number alone leaves the rest of the queue right. -/
theorem State.queueRightBut.congr {t : State} {n : Nat} (h : s.queueRightBut n) (hq : t.pickQueue = s.pickQueue)
    (ht : ∀ m, m ≠ n → t.ticket m = s.ticket m) : t.queueRightBut n := by
  obtain ⟨hnd, hnot, hm⟩ := h
  refine ⟨hq ▸ hnd, hq ▸ hnot, fun m hmn => ?_⟩
  rw [hq, hm m hmn]
  simp only [State.queuedAt, ht m hmn]

/-- The tail of the queue taken by a number: every other ticket stays as it was. -/
theorem State.queueRightBut.push {t : State} {n : Nat} (h : s.queueRightBut n) (hq : t.pickQueue = s.pickQueue ++ [n])
    (ht : ∀ m, m ≠ n → t.ticket m = s.ticket m) (hn : t.queuedAt n) : t.queueRight := by
  obtain ⟨hnd, hnot, hm⟩ := h
  refine State.queueRight_iff.2 ⟨?_, fun m => ?_⟩
  · rw [hq]
    exact List.nodup_append.2 ⟨hnd, List.nodup_singleton n, fun a ha b hb => by
      rw [List.mem_singleton] at hb
      subst hb
      exact fun hab => hnot (hab ▸ ha)⟩
  · by_cases hmn : m = n
    · subst hmn; simp [hq, hn]
    · have : t.queuedAt m ↔ s.queuedAt m := by simp only [State.queuedAt, ht m hmn]
      simp [hq, hmn, this, hm m hmn]

end Sys2Proof.Machine
end

section
/-! PROOFS. Every shared operation is calm, and so are the movements that the events and requests are made of. The lemmas stand
in the order of the definitions they speak of. -/

namespace Sys2Proof.Machine

variable (s : State)

/-! ### Notes, the picker and the gate -/

theorem State.calm_place (r : Reason) : s.Calm (s.place r) := .of_tables rfl

theorem State.calm_placeIf (c : Bool) (r : Reason) : s.Calm (s.placeIf c r) :=
  .thenIf .rfl (s.calm_place r)

theorem State.calm_putSlot (p : Pos) (x : Slot) : s.Calm (s.putSlot p x) := .of_tables rfl

theorem State.calm_askClose (l : Lane) : s.Calm (s.askClose l) := by
  rcases State.askClose_cases (s := s) l with ⟨p, -, h⟩ | ⟨-, h⟩ <;> rw [h]
  · exact .of_tables rfl
  · exact .rfl

theorem State.calm_haltPick (n : Nat) (why : HaltReason) : s.Calm (s.haltPick n why) :=
  (State.calm_claim .picking .pickHalted (fun _ => rfl) rfl).trans (.of_tables rfl)

theorem State.calm_feed (n : Nat) (p : Pos) : s.Calm (s.feed n p) := .of_tables rfl

theorem State.calm_decidePick (n : Nat) : s.Calm (s.decidePick n) := by
  unfold State.decidePick
  refine .trans (t := { s with gate := { s.gate with waitPicker := false } }) (.of_tables rfl) ?_
  dsimp only
  split
  · exact State.calm_haltPick _ _ _
  · split
    · exact State.calm_haltPick _ _ _
    · exact .of_tables rfl

theorem State.calm_startPick (n : Nat) (p : Pos) : s.Calm (s.startPick n p) :=
  .ite (.ite (s.calm_decidePick n) (.of_tables rfl)) (s.calm_feed n p)

theorem State.calm_workPick (n : Nat) : s.Calm (s.workPick n) := by
  refine .ite (.of_tables rfl) ?_
  split
  · exact .rfl
  · split
    · exact .rfl
    · split
      · exact s.calm_haltPick _ _
      · exact s.calm_startPick _ _

theorem State.calm_takeUp (n : Nat) : s.Calm (s.takeUp n) :=
  .trans (t := { s with picker := { s.picker with ticket := some n } }) (.of_tables rfl) (State.calm_workPick _ n)

theorem State.calm_placeNote (x : Destination) : s.Calm (s.placeNote x) := .of_tables rfl

theorem State.calm_redecide : s.Calm s.redecide := by
  unfold State.redecide
  split
  · exact s.calm_placeNote _
  · exact .rfl

theorem State.calm_decideStore : s.Calm s.decideStore :=
  .ite (.of_tables rfl) ((State.calm_redecide _).after)

theorem State.calm_decideNote (e : Escrow) : s.Calm (s.decideNote e) := by
  unfold State.decideNote
  dsimp only
  split
  · exact .thenIf (.of_tables rfl) (State.calm_decideStore _)
  · exact .of_tables rfl

theorem State.calm_serveGatePicker : s.Calm s.serveGatePicker := by
  refine .ite ?_ .rfl
  split
  · exact s.calm_decidePick _
  · exact .rfl

theorem State.calm_serveGateDeposit : s.Calm s.serveGateDeposit := .thenIf .rfl s.calm_decideStore

theorem State.calm_freeGate : s.Calm s.freeGate :=
  .trans (t := { s with gate := { s.gate with granted := none } }) (.of_tables rfl)
    (.ite ((State.calm_serveGateDeposit _).trans (State.calm_serveGatePicker _))
      ((State.calm_serveGatePicker _).trans (State.calm_serveGateDeposit _)))

theorem State.calm_recheckGate : s.Calm s.recheckGate := by
  have picker : s.Calm (if s.gate.waitPicker then
      match (s.slot .d).pickUnfit, s.picker.ticket with
      | some why, some n => { s with gate := { s.gate with waitPicker := false } }.haltPick n why
      | _, _ => s
    else s) := by
    refine .ite ?_ .rfl
    split
    · exact (State.calm_haltPick _ _ _).after
    · exact .rfl
  exact .thenIf picker ((State.calm_redecide _).after)

theorem State.calm_pauseWaitingPick : s.Calm s.pauseWaitingPick := .thenIf .rfl (.of_tables rfl)

theorem State.calm_recallWaitingNote : s.Calm s.recallWaitingNote := by
  refine .ite ?_ .rfl
  split
  · exact (State.calm_decideNote _ _).after
  · exact .rfl

/-! ### Alarms and marks -/

/-- A mark changes neither the number, the lane nor the body of a ticket. -/
theorem State.calm_markTickets (p : Teller) : s.Calm (s.markTickets p) := by
  unfold State.markTickets
  apply State.calm_mapTickets <;> intro t <;> split <;> rfl

theorem State.calm_markTicketsOf (c : Teller → Bool) : s.Calm (s.markTicketsOf c) :=
  .thenIf (.thenIf .rfl (s.calm_markTickets .a)) (State.calm_markTickets _ .b)

theorem State.calm_onLockdown : s.Calm s.onLockdown :=
  (State.calm_recallWaitingNote _).since ((State.calm_pauseWaitingPick _).since (.foldl State.calm_askClose _ s))

/-- The alarm table changed for one that is in order. -/
theorem State.calm_setRecords {records : List AlarmRecord} (takesLockdown : Bool)
    (h : risingBy AlarmRecord.key s.alarms.records = true → risingBy AlarmRecord.key records = true) :
    s.Calm (s.setRecords records takesLockdown) :=
  .thenIf (.thenIf ((State.calm_placeIf _ _ _).since (.of_lists rfl rfl rfl id id h id)) (State.calm_markTicketsOf _ _))
    (State.calm_onLockdown _)

theorem State.calm_sourceUp (src : AlarmSource) (current : AlarmClass) (pattern : Option Nat) :
    s.Calm (s.sourceUp src current pattern) :=
  .ite .rfl (s.calm_setRecords _ (risingBy_putByKey _))

theorem State.calm_sourceDown (src : AlarmSource) : s.Calm (s.sourceDown src) := by
  unfold State.sourceDown
  split
  · exact .rfl
  · split
    · exact s.calm_setRecords _ (risingBy_putByKey _)
    · exact s.calm_setRecords _ risingBy_dropKey
    · exact .rfl

theorem State.calm_hand (o : Owned) (active : Bool) : s.Calm (s.hand o active) := by
  unfold State.hand
  split
  · exact .rfl
  · dsimp only
    split
    · exact (State.calm_sourceUp _ _ _ _).after
    · exact (State.calm_sourceDown _ _).after

theorem State.calm_handVaults : s.Calm s.handVaults := (s.calm_hand _ _).trans (State.calm_hand _ _ _)

theorem State.calm_reclassInputs (pattern : BitVec 6) : s.Calm (s.reclassInputs pattern) := by
  unfold State.reclassInputs
  dsimp only
  refine .thenIf ?_ (State.calm_markTicketsOf _ _)
  split
  · exact (State.calm_sourceUp _ _ _ _).after
  · split
    · exact (State.calm_sourceDown _ _).after
    · split
      · exact .of_tables rfl
      · exact (State.calm_setRecords _ _ (risingBy_putByKey _)).after

theorem State.calm_sample (levels : BitVec 6) : s.Calm (s.sample levels) := by
  unfold State.sample
  dsimp only
  split
  · exact .ite (.of_tables rfl) (State.calm_reclassInputs _ _).after
  · exact .of_tables rfl

theorem State.calm_acknowledge (r : AlarmRecord) : s.Calm (s.acknowledge r) := by
  unfold State.acknowledge
  split
  · exact s.calm_setRecords _ (risingBy_putByKey _)
  · exact s.calm_setRecords _ risingBy_dropKey
  · exact .rfl

/-! ### Tags, positions and vaults -/

theorem State.calm_pumpTags : s.Calm s.pumpTags := by
  unfold State.pumpTags
  split
  · exact .of_tables rfl
  · exact .rfl

theorem State.calm_askTag (kind : TransferKind) (p : Pos) : s.Calm (s.askTag kind p) :=
  .ite .rfl (State.calm_pumpTags _).after

theorem State.calm_endTransfer : s.Calm s.endTransfer := (State.calm_pumpTags _).after

theorem State.calm_judgeCassette (p : Pos) (k : Identity) : s.Calm (s.judgeCassette p k) := by
  unfold State.judgeCassette
  split
  · exact s.calm_putSlot _ _
  · exact (s.calm_putSlot _ _).trans (State.calm_hand _ _ _)

theorem State.calm_rejudge (p : Pos) : s.Calm (s.rejudge p) := by
  unfold State.rejudge
  dsimp only
  split
  · exact .rfl
  · split
    · exact .ite (s.calm_putSlot _ _) (s.calm_putSlot _ _)
    · exact .ite (s.calm_putSlot _ _) (s.calm_putSlot _ _)
    · exact .ite (s.calm_putSlot _ _) (s.calm_putSlot _ _)
    · exact .ite (s.calm_judgeCassette _ _) .rfl
    · exact .rfl
    · exact .rfl
    · exact .rfl

theorem State.calm_changeRejectVault (f : RejectVault → RejectVault) : s.Calm (s.changeRejectVault f) :=
  (State.calm_handVaults _).after

theorem State.calm_countPick (p : Pos) (r : GaugeResult) : s.Calm (s.countPick p r) := by
  unfold State.countPick
  dsimp only
  refine .trans (.thenIf ?_ (State.calm_changeRejectVault _ _)) (State.calm_recheckGate _)
  split
  · exact .ite ((s.calm_putSlot _ _).trans (State.calm_askTag _ _ _)) (s.calm_putSlot _ _)
  · exact .of_tables rfl
  · exact .of_tables rfl

theorem State.calm_countStore : s.Calm s.countStore := by
  unfold State.countStore
  refine .trans ?_ (State.calm_recheckGate _)
  split <;> exact .of_tables rfl

theorem State.calm_followRemoval (p : Pos) : s.Calm (s.followRemoval p) :=
  .thenIf (.thenIf .rfl (.of_tables rfl)) (.of_tables rfl)

theorem State.calm_retire (p : Pos) (kind : RemovalKind) (stale : Bool) : s.Calm (s.retire p kind stale) := .of_tables rfl

theorem State.calm_remove (p : Pos) : s.Calm (s.remove p) := by
  have retired (kind : RemovalKind) (stale : Bool) : s.Calm ((s.retire p kind stale).followRemoval p) :=
    (s.calm_retire p kind stale).trans (State.calm_followRemoval _ p)
  have cut (u : State) : u.Calm (u.cutTags p) := (State.calm_pumpTags _).after
  unfold State.remove
  dsimp only
  have cleared (u : State) (x : Slot) (h : s.Calm u) : s.Calm ((u.putSlot p x).cutTags p) :=
    (cut _).since ((u.calm_putSlot p x).since h)
  have answered (u : State) (c : CountPoint) (h : s.Calm u) : s.Calm ({ u with countPoint := c }).recheckGate :=
    (State.calm_recheckGate _).since (h.trans (.of_tables rfl))
  cases hx : (s.slot p).state <;> simp only
  case absent | identifying | refused => exact answered _ _ (cleared _ _ .rfl)
  case unlocked => exact answered _ _ (cleared _ _ (retired _ _))
  case inService | suspended | releasePending =>
    exact (State.calm_hand _ _ _).since (answered _ _ (cleared _ _ (retired _ _)))

theorem State.calm_insertCassette (p : Pos) : s.Calm (s.insertCassette p) :=
  (s.calm_putSlot _ _).trans (State.calm_askTag _ _ _)

theorem State.calm_endRead (p : Pos) (tries : List TagTry) : s.Calm (s.endRead p tries) := by
  unfold State.endRead
  split
  · exact (s.calm_judgeCassette _ _).trans (State.calm_endTransfer _)
  · exact (s.calm_putSlot _ _).trans (State.calm_endTransfer _)
  · exact .rfl

theorem State.calm_emptyVault (v : Vault) :
    s.Calm ((match v with
      | .reject => { s with rejectVault := s.rejectVault.empty }
      | .intake => { s with intakeVault := s.intakeVault.empty } : State).handVaults.place .position) := by
  refine .trans (.trans ?_ (State.calm_handVaults _)) (State.calm_place _ _)
  cases v <;> exact .of_tables rfl

/-! ### Count points -/

theorem State.calm_enterQuiescing (causes : CauseSet) (release : PosSet) : s.Calm (s.enterQuiescing causes release) :=
  (State.calm_recallWaitingNote _).since (State.calm_pauseWaitingPick _).after

theorem State.calm_requestCount (c : Cause) (release : PosSet) : s.Calm (s.requestCount c release) := by
  unfold State.requestCount
  split
  · exact s.calm_enterQuiescing _ _
  · exact .of_tables rfl
  · exact .of_tables rfl

theorem State.calm_countSettlement : s.Calm s.countSettlement :=
  .thenIf (.of_tables rfl) (State.calm_requestCount _ _ _)

theorem State.calm_publishSlot (result : CountResult) (p : Pos) : s.Calm (s.publishSlot result p) := .of_tables rfl

theorem State.calm_publish (result : CountResult) : s.Calm (s.publish result) := by
  have slots : s.Calm (Pos.all.foldl (State.publishSlot result) s) := .foldl (fun u p => u.calm_publishSlot result p) _ s
  unfold State.publish
  dsimp only
  refine .thenIf (slots.trans (.of_tables rfl)) ((State.calm_enterQuiescing _ _ _).after)

theorem State.calm_publishIfWritten : s.Calm s.publishIfWritten := .thenIf .rfl (s.calm_publish _)

theorem State.calm_handWriteBack (p : Pos) (ok : Bool) : s.Calm (s.handWriteBack p ok) :=
  (State.calm_publishIfWritten _).after

theorem State.calm_enterBalancing : s.Calm s.enterBalancing := by
  unfold State.enterBalancing
  dsimp only
  exact (State.calm_publishIfWritten _).since (.after (.foldl (fun u p => .thenIf .rfl (u.calm_askTag _ _)) _ _))

theorem State.calm_timeOutCount : s.Calm s.timeOutCount := (State.calm_publish _ _).after

end Sys2Proof.Machine
end

section
/-! PROOFS. The movements that single events and requests are made of are calm: picks, retracts, deliveries, envelopes, intake
runs, and what a frame end hands on. -/

namespace Sys2Proof.Machine

variable (s : State)

/-! ### Tickets of the other kinds -/

section Kinds
variable {s : State} {n : Nat}

/-- The record of an ENVELOPE ticket stands in its ticket. -/
theorem State.envelope_some {e : Envelope} : s.envelope n = some e ↔ ∃ t, s.ticket n = some t ∧ t.body = .envelope e := by
  unfold State.envelope
  split
  · rename_i h; rw [h]; simp
  · rename_i h
    refine ⟨nofun, ?_⟩
    rintro ⟨⟨a, b, c, d, f, g⟩, h1, rfl⟩
    exact absurd h1 (h _ _ _ _ _ _)

/-- The record of an INTAKE ticket stands in its ticket. -/
theorem State.intake_some {k : Intake} : s.intake n = some k ↔ ∃ t, s.ticket n = some t ∧ t.body = .intake k := by
  unfold State.intake
  split
  · rename_i h; rw [h]; simp
  · rename_i h
    refine ⟨nofun, ?_⟩
    rintro ⟨⟨a, b, c, d, f, g⟩, h1, rfl⟩
    exact absurd h1 (h _ _ _ _ _ _)

theorem State.calm_rewrite_envelope {e f : Envelope} (h : s.envelope n = some e) : s.Calm (s.rewrite n (.envelope f)) :=
  State.calm_rewrite fun t ht => by
    obtain ⟨u, hu, hb⟩ := State.envelope_some.1 h
    rw [ht, Option.some.injEq] at hu
    subst hu
    rw [hb]
    exact TicketBody.calm_of_not rfl rfl rfl

theorem State.calm_rewrite_intake {k m : Intake} (h : s.intake n = some k) : s.Calm (s.rewrite n (.intake m)) :=
  State.calm_rewrite fun t ht => by
    obtain ⟨u, hu, hb⟩ := State.intake_some.1 h
    rw [ht, Option.some.injEq] at hu
    subst hu
    rw [hb]
    exact TicketBody.calm_of_not rfl rfl rfl

end Kinds

theorem State.calm_envelopeClaim (n : Nat) (from_ : EnvelopeState) (f : Envelope → Envelope) :
    s.Calm (s.envelopeClaim n from_ f) := by
  unfold State.envelopeClaim
  split
  · rename_i e he
    exact .ite ((State.calm_noteTicket n).since (State.calm_rewrite_envelope he)) .rfl
  · exact .rfl

theorem State.calm_intakeClaim (n : Nat) (from_ into : IntakeState) : s.Calm (s.intakeClaim n from_ into) := by
  unfold State.intakeClaim
  split
  · rename_i k hk
    exact .ite ((State.calm_noteTicket n).since (State.calm_rewrite_intake hk)) .rfl
  · exact .rfl

theorem State.calm_intakeCount (n : Nat) (f : Intake → Intake) : s.Calm (s.intakeCount n f) := by
  unfold State.intakeCount
  split
  · rename_i k hk
    exact .ite (State.calm_rewrite_intake hk) .rfl
  · exact .rfl

/-! ### The Request Port -/

theorem State.calm_hold (r : Response) : s.Calm (s.hold r) := .of_tables rfl

/-- The read-out numbers put back keep the change set in order. -/
theorem State.calm_putBackNumbers (numbers : List Nat) : s.Calm (s.putBackNumbers numbers) := by
  refine .of_lists rfl rfl rfl (fun h => ?_) id id id
  have fold (xs : List Nat) : ∀ ys, risingBy id ys = true → risingBy id (xs.foldl (fun set n => addNumber n set) ys) = true := by
    induction xs with
    | nil => exact fun _ => id
    | cons x xs ih => exact fun ys hy => ih _ (risingBy_addNumber x hy)
  exact fold _ _ h

theorem State.calm_giveUpResponse : s.Calm s.giveUpResponse := by
  have back : s.Calm (if s.port.read then s
      else (({ s with reasons := s.reasons.union s.port.readOutReasons }.putBackNumbers s.port.readOutNumbers).place .port)) :=
    .ite .rfl ((State.calm_place _ _).since (State.calm_putBackNumbers _ _).after)
  exact back.trans (.of_tables rfl)

theorem State.calm_beginFrame : s.Calm s.beginFrame := by
  unfold State.beginFrame
  split
  · exact .of_tables rfl
  · exact s.calm_giveUpResponse.trans (.of_tables rfl)
  · exact .rfl
  · exact s.calm_place _

theorem State.calm_takeFrame : s.Calm s.takeFrame := by
  unfold State.takeFrame
  split
  · exact s.calm_beginFrame
  · exact s.calm_beginFrame
  · exact .rfl
  · exact .rfl

/-! ### Tickets -/

/-- A mark changes neither the number, the lane nor the body of a ticket. -/
theorem State.calm_markTicket (n : Nat) (teller : Teller) : s.Calm (s.markTicket n teller) := by
  unfold State.markTicket
  split
  · rename_i t ht
    obtain rfl := (State.ticket_some ht).2
    exact State.calm_putTicket ht rfl rfl TicketBody.calm_rfl
  · exact .rfl

/-- A ticket with no pick in flight is let out of PICKING or PICK_HALTED. -/
theorem State.calm_endPicked {n : Nat} {d e : Dispense} (hd : s.dispense n = some e) (he : e.state.holdsLane = true) :
    s.Calm (s.endPicked n d) := by
  have hq : e.state ≠ .queued := fun h => by simp [h, DispenseState.holdsLane] at he
  have moved (into : DispenseState) (hi : into ≠ .queued) : s.Calm (s.move n (.dispense (d.enter into))) :=
    State.calm_move_dispense hd (TicketBody.calm_of_calmTo (by simp [DispenseState.calmTo, hq, hi, he, Dispense.enter]))
  exact .ite ((moved .purging (by decide)).trans (.of_tables rfl)) ((moved .voided (by decide)).trans (.of_tables rfl))

theorem State.calm_letGo (n : Nat) : s.Calm (s.letGo n) := .thenIf .rfl (.of_tables rfl)

theorem State.calm_takeExpired (n : Nat) : s.Calm (s.takeExpired n) := by
  unfold State.takeExpired
  split
  · rename_i number l opener stamp mark d ht
    refine .ite ((State.calm_askClose _ l).since (State.calm_rewrite fun t h => ?_)) .rfl
    rw [ht, Option.some.injEq] at h
    subst h
    exact TicketBody.calm_of_state rfl
  · exact .rfl

/-! ### Picks and purges -/

theorem State.calm_completeBundle (n : Nat) : s.Calm (s.completeBundle n) :=
  (State.calm_claim .picking .staged (fun _ => rfl) rfl).trans (.of_tables rfl)

theorem State.calm_finishVoid (n : Nat) : s.Calm (s.finishVoid n) :=
  .ite (.of_tables rfl) ((State.calm_claim .purging .voided (fun _ => rfl) rfl).trans (.of_tables rfl))

theorem State.calm_nextStep (n : Nat) (r : GaugeResult) : s.Calm (s.nextStep n r) := by
  unfold State.nextStep
  split
  · split
    · exact .ite (s.calm_completeBundle n) (.ite (s.calm_haltPick _ _) (s.calm_takeUp n))
    · exact s.calm_finishVoid n
    all_goals exact .rfl
  · exact .rfl

theorem Dispense.takeResult_state (r : GaugeResult) (d : Dispense) : (d.takeResult r).state = d.state := by
  unfold Dispense.takeResult
  split
  · split <;> rfl
  · rfl

theorem State.calm_pickResult (n : Nat) (p : Pos) (r : GaugeResult) : s.Calm (s.pickResult n p r) := by
  have counted : s.Calm ((s.countPick p r).adjust n (Dispense.takeResult r)) :=
    (State.calm_adjust (Dispense.takeResult_state r)).since (s.calm_countPick p r)
  have next (u : State) (hu : s.Calm u) : s.Calm ({ u with picker := u.picker.stop }.nextStep n r) :=
    (State.calm_nextStep _ n r).since (hu.trans (.of_tables rfl))
  exact next _ (.thenIf (counted.trans (.of_tables rfl)) (State.calm_freeGate _))

theorem State.calm_endPurge (count : Nat) : s.Calm (s.endPurge count) := by
  have emptied (u : State) (hu : s.Calm u) : s.Calm { u with staging := .empty } := hu.trans (.of_tables rfl)
  unfold State.endPurge
  refine emptied _ ?_
  dsimp only
  split
  · exact .trans (s.calm_changeRejectVault _) (State.calm_claim .purging .voided (fun _ => rfl) rfl)
  · exact s.calm_changeRejectVault _

/-! ### Retracts, deliveries and disputes -/

theorem State.calm_askRetract (e : Retract) : s.Calm (s.askRetract e) := .ite .rfl (.of_tables rfl)

theorem State.calm_promote (e : Retract) : s.Calm (s.promote e) := by
  unfold State.promote
  dsimp only
  split
  · exact (State.calm_claim .presented .retracting (fun _ => rfl) rfl).after
  · exact .of_tables rfl

theorem State.calm_deliver (n : Nat) (l : Lane) : s.Calm (s.deliver n l) :=
  (State.calm_claim .staged .routing (fun _ => rfl) rfl).trans (.of_tables rfl)

theorem State.calm_putLane (l : Lane) (r : LaneRec) : s.Calm (s.putLane l r) := .of_tables rfl

theorem State.calm_dispute (n : Nat) (l : Lane) : s.Calm (s.dispute n l) := by
  have listed (u : State) (e : Dispute) (r : LaneRec) (hu : s.Calm u) :
      s.Calm (({ u with disputes := putByKey Dispute.key e u.disputes }.putLane l r).putPresentation l none) :=
    hu.trans (.of_lists rfl rfl rfl id (risingBy_putByKey _) id id)
  unfold State.dispute
  split
  · rename_i d hd
    split
    · rename_i hst
      exact listed _ _ _ (State.calm_move_dispense hd (TicketBody.calm_of_calmTo (by rw [hst]; rfl)))
    · exact .rfl
  · exact .rfl

theorem State.calm_arrive (l : Lane) (n : Nat) : s.Calm (s.arrive l n) := by
  have presented (u : State) (p : Option Presentation) (hu : s.Calm u) : s.Calm (u.putPresentation l p) :=
    hu.trans (.of_tables rfl)
  unfold State.arrive
  dsimp only
  refine .thenIf (.thenIf ?_ (State.calm_askRetract _ _)) (State.calm_dispute _ n l)
  exact presented _ _ (.after (State.calm_claim .routing .presented (fun _ => rfl) rfl))

theorem State.calm_handRetract (holder : Holder) (kind : RetractKind) (c : Nat) : s.Calm (s.handRetract holder kind c) := by
  unfold State.handRetract
  split
  · exact (State.calm_changeRejectVault _ _).since (State.calm_claim .retracting .returned (fun _ => rfl) rfl)
  · refine (State.calm_changeRejectVault _ _).since (.of_lists rfl rfl rfl id (fun h => ?_) id id)
    exact (risingBy_map (fun e => by split <;> rfl) _).trans h
  · exact s.calm_changeRejectVault _

theorem State.calm_endRetract (l : Lane) (holder : Holder) (kind : RetractKind) (c : Nat) :
    s.Calm (s.endRetract l holder kind c) :=
  .trans (State.calm_handRetract _ holder kind c).after (.of_tables rfl)

theorem State.calm_decideDrawer (l : Lane) : s.Calm (s.decideDrawer l) := by
  unfold State.decideDrawer
  dsimp only
  split
  · exact .ite (State.calm_askRetract _ _).after .rfl
  · split
    · exact .ite (.ite (s.calm_askRetract _) (.ite .rfl (.of_tables rfl))) .rfl
    · exact .rfl
  · exact .rfl

theorem State.calm_endSweep (count : Nat) : s.Calm (s.endSweep count) := by
  unfold State.endSweep
  dsimp only
  refine (State.calm_requestCount _ _ _).since (.since
    (.foldl (fun u l => .thenIf .rfl (u.calm_decideDrawer l)) _ _) ?_)
  exact (s.calm_changeRejectVault fun v => v.addSweep count).trans (.of_tables rfl)

/-! ### Envelopes -/

/-- A lane with a ticket that awaits an envelope has an oldest one. -/
theorem State.oldestWaiting_isSome {l : Lane} (h : s.awaitsEnvelope l = true) : (s.oldestWaiting l).isSome = true := by
  have fold (xs : List Ticket) : ∀ x : Option Ticket, x.isSome = true → (xs.foldl earlier x).isSome = true := by
    induction xs with
    | nil => exact fun _ => id
    | cons t xs ih =>
      refine fun x hx => ih _ ?_
      cases x with
      | none => cases hx
      | some u => simp only [earlier]; split <;> rfl
  obtain ⟨t, ht, htl⟩ := List.any_eq_true.1 h
  unfold State.oldestWaiting
  match hx : s.tickets.filter (Ticket.awaitsEnvelope l) with
  | [] => exact absurd htl (by simpa using List.filter_eq_nil_iff.1 hx t ht)
  | u :: us => exact fold us _ rfl

/-- An insertion that is not refused has a waiting ticket or finds an entry free (R100). -/
theorem State.hasFreeEntry_of_accepted {l : Lane} (h : s.refusesInsert l = none) (hw : s.oldestWaiting l = none) :
    s.hasFreeEntry = true := by
  have hno : s.awaitsEnvelope l = false := by
    by_contra hyes
    have := s.oldestWaiting_isSome (Bool.not_eq_false _ ▸ hyes)
    simp [hw] at this
  by_contra hfree
  unfold State.refusesInsert at h
  split_ifs at h
  simp_all

theorem State.calm_beginCapture (l : Lane) (n : Nat) : s.Calm (s.beginCapture l n) :=
  (s.calm_envelopeClaim _ _ _).trans (.of_tables rfl)

theorem State.calm_insertEvent (l : Lane) : s.Calm (s.insertEvent l) := by
  unfold State.insertEvent
  split
  · split
    · exact .of_tables rfl
    · rename_i haccept
      unfold State.acceptInsert
      split
      · exact s.calm_beginCapture _ _
      · rename_i hnone
        exact (State.calm_beginCapture _ _ _).since
          (State.calm_openTicket _ _ _ _ (s.hasFreeEntry_of_accepted haccept hnone) rfl rfl)
  all_goals exact .rfl

theorem State.calm_handlingIdle (l : Lane) : s.Calm (s.handlingIdle l) := .of_tables rfl

theorem State.calm_raiseBin (l : Lane) : s.Calm (s.raiseBin l) := (State.calm_placeIf _ _ _).after

theorem State.calm_captureDone (l : Lane) : s.Calm (s.captureDone l) := by
  unfold State.captureDone
  dsimp only
  split
  · exact (State.calm_handlingIdle _ _).since ((State.calm_envelopeClaim _ _ _ _).since (s.calm_raiseBin l))
  · exact .rfl

theorem State.calm_jam (l : Lane) (why : JamCause) : s.Calm (s.jam l why) := by
  unfold State.jam
  dsimp only
  split
  · exact (s.calm_envelopeClaim _ _ _).trans (.of_tables rfl)
  · exact .rfl

theorem State.calm_returnDone (l : Lane) : s.Calm (s.returnDone l) := by
  unfold State.returnDone
  split
  · exact s.calm_jam _ _
  · exact s.calm_handlingIdle _
  all_goals exact .rfl

theorem State.calm_takeEvent (l : Lane) (kind : EventKind) : s.Calm (s.takeEvent l kind) := by
  cases kind
  · exact s.calm_insertEvent l
  · exact s.calm_captureDone l
  · exact s.calm_jam l _
  · exact s.calm_returnDone l

theorem State.calm_decideHandling (l : Lane) (x : SlotValue) : s.Calm (s.decideHandling l x) := by
  unfold State.decideHandling
  split
  · exact .ite .rfl (s.calm_jam _ _)
  · exact .ite .rfl (s.calm_handlingIdle _)
  all_goals exact .rfl

theorem State.calm_clearedJam (n : Nat) (l : Lane) (captured : Bool) : s.Calm (s.clearedJam n l captured) :=
  .ite ((State.calm_handlingIdle _ _).since ((State.calm_envelopeClaim _ _ _ _).since (s.calm_raiseBin l)))
    ((State.calm_handlingIdle _ _).since (s.calm_envelopeClaim _ _ _))

/-! ### Intake runs -/

theorem State.calm_beginIntake (n : Nat) : s.Calm (s.beginIntake n) := by
  unfold State.beginIntake
  dsimp only
  exact .ite ((s.calm_intakeClaim _ _ _).trans (.of_tables rfl)) ((s.calm_intakeClaim _ _ _).trans (.of_tables rfl))

theorem State.calm_endRun (n : Nat) : s.Calm (s.endRun n) := (s.calm_intakeClaim _ _ _).trans (.of_tables rfl)

theorem State.calm_finishIntake (n : Nat) : s.Calm (s.finishIntake n) := by
  unfold State.finishIntake
  split
  · exact .rfl
  · dsimp only
    split
    · exact (State.calm_endRun _ n).after
    all_goals exact .of_tables rfl

theorem State.calm_notePlaced (n : Nat) (x : Destination) (e : Escrow) : s.Calm (s.notePlaced n x e) := by
  have bank : s.Calm (s.bankNote x e) := by
    unfold State.bankNote
    split
    · exact (State.calm_freeGate _).since s.calm_countStore
    · exact (State.calm_handVaults _).after
    · exact .rfl
    · exact .rfl
  have leave (u : State) : u.Calm (u.leavePlacing n) := .ite (u.calm_endRun n) (.of_tables rfl)
  exact (leave _).since ((State.calm_intakeCount _ _ _).since bank)

theorem State.calm_strayPlaced : s.Calm s.strayPlaced := .ite (.of_tables rfl) (.of_tables rfl)

/-! ### The Lane Ring -/

theorem State.calm_changeLane (l : Lane) (r : LaneRec) : s.Calm (s.changeLane l r) := (State.calm_placeIf _ _ _).after

theorem State.calm_applyCountTo (count : Nat) (l : Lane) : s.Calm (State.applyCountTo count s l) :=
  .ite (s.calm_changeLane _ _)
    (.ite .rfl ((State.calm_hand _ _ _).since ((State.calm_hand _ _ _).since (s.calm_changeLane _ _))))

theorem State.calm_applyLaneCount : s.Calm s.applyLaneCount := by
  unfold State.applyLaneCount
  split
  · exact .after (.foldl (fun u l => u.calm_applyCountTo _ l) _ _)
  · exact .rfl

theorem State.calm_leftOnline (l : Lane) : s.Calm (s.leftOnline l) := by
  unfold State.leftOnline
  split
  · rename_i n hn
    have marked : s.Calm (s.adjust n fun d => { d with laneLost := true }) := State.calm_adjust fun _ => rfl
    exact .thenIf (.ite marked (marked.trans (.of_tables rfl))) (State.calm_askClose _ _)
  · exact .rfl

theorem State.calm_applyFault (l : Lane) : s.Calm (s.applyFault l) := by
  refine .ite (.ite (.ite ?_ (s.calm_putLane _ _)) (s.calm_putLane _ _)) .rfl
  exact (State.calm_hand _ _ _).since (.thenIf (s.calm_changeLane _ _) (State.calm_leftOnline _ _))

theorem State.calm_judgeLane (l : Lane) : s.Calm (s.judgeLane l) := by
  unfold State.judgeLane
  dsimp only
  split
  · exact .thenIf (s.calm_changeLane _ _) (State.calm_leftOnline _ _)
  · exact .rfl

theorem State.calm_decideClose (l : Lane) (p : Presentation) (notes : Bool) : s.Calm (s.decideClose l p notes) := by
  have stopped : s.Calm (s.adjust p.ticket fun d => { d with deadline := none }) := State.calm_adjust fun _ => rfl
  have delivered : s.Calm (s.claim p.ticket (· = .presented) fun d => { d.enter .delivered with delivered := d.presented }) :=
    State.calm_claim .presented .delivered (fun _ => rfl) rfl
  exact .ite ((State.calm_askRetract _ _).since (stopped.trans (.of_tables rfl))) (delivered.trans (.of_tables rfl))

theorem State.calm_startTake (n : Nat) : s.Calm (s.startTake n) := State.calm_adjust fun d => by split <;> rfl

theorem State.calm_presentReport (l : Lane) (p : Presentation) (x : DrawerReport) (notes fault : Bool) :
    s.Calm (s.presentReport l p x notes fault) :=
  .ite (.of_tables rfl) (.ite .rfl (.ite (s.calm_decideClose _ _ _) (.ite (s.calm_startTake _) .rfl)))

theorem State.calm_lostReport (l : Lane) (p : Presentation) (x : DrawerReport) (notes fault : Bool) :
    s.Calm (s.lostReport l p x notes fault) := by
  have stopped : s.Calm (s.adjust p.ticket fun d => { d with deadline := none }) := State.calm_adjust fun _ => rfl
  exact .ite .rfl (.ite (s.calm_askClose l)
    (.ite ((State.calm_askRetract _ _).since (stopped.trans (.of_tables rfl)))
      ((s.calm_dispute p.ticket l).trans (.of_tables rfl))))

theorem State.calm_drawerReport (l : Lane) (x : DrawerReport) (notes fault : Bool) :
    s.Calm (s.drawerReport l x notes fault) := by
  unfold State.drawerReport
  split
  · split
    · exact .ite (s.calm_presentReport _ _ _ _ _) (.ite (s.calm_lostReport _ _ _ _ _) .rfl)
    · exact .rfl
  · exact .rfl

theorem State.calm_recordReply (l : Lane) (online : Bool) (w : Uplink) : s.Calm (s.recordReply l online w) := by
  unfold State.recordReply
  dsimp only
  split
  · exact (State.calm_hand _ _ _).since (State.calm_placeIf _ _ _).after
  all_goals exact (State.calm_placeIf _ _ _).after

theorem State.calm_enterOnline (l : Lane) : s.Calm (s.enterOnline l) := by
  unfold State.enterOnline
  dsimp only
  refine .thenIf ?_ (State.calm_decideDrawer _ _)
  split
  · refine (State.calm_decideHandling _ _ _).since ?_
    split
    · exact (State.calm_drawerReport _ _ _ _ _).after
    · exact .of_tables rfl
  · split
    · exact (State.calm_drawerReport _ _ _ _ _).after
    · exact .of_tables rfl

theorem State.calm_handReport (l : Lane) (last : Option Nat) (w : Uplink) : s.Calm (s.handReport l last w) := by
  unfold State.handReport
  split
  · exact (State.calm_drawerReport _ _ _ _ _).after
  · exact .rfl
  · exact .ite (s.calm_takeEvent _ _) .rfl

theorem State.calm_handOn (l : Lane) (before : LaneRec) : s.Calm (s.handOn l before) := by
  unfold State.handOn
  dsimp only
  split
  · exact .ite (s.calm_recordReply _ _ _) (.ite ((State.calm_handReport _ _ _ _).since (s.calm_recordReply _ _ _))
      ((State.calm_enterOnline _ _).since (s.calm_recordReply _ _ _)))
  · exact .rfl

theorem State.calm_endFrame : s.Calm s.endFrame :=
  .trans (.since (.foldl (fun u l => u.calm_handOn l _) _ _)
      (.since (.foldl State.calm_judgeLane _ _) (.foldl State.calm_applyFault _ s)))
    (.of_tables rfl)

theorem State.calm_lostExpired (l : Lane) : s.Calm (s.lostExpired l) := by
  unfold State.lostExpired
  split
  · split
    · exact .ite (s.calm_dispute _ _) (.of_tables rfl)
    · exact .rfl
  · exact .of_tables rfl

/-- RESOLVE of a ticket that is DISPUTED. -/
theorem State.calm_resolve {n : Nat} {d e : Dispense} {l : Lane} {delivered : Nat} (hd : s.dispense n = some e)
    (he : e.state = .disputed) : s.Calm (s.resolve n l d delivered) := by
  have unlisted (u : State) (c : CountPoint) (hu : s.Calm u) :
      s.Calm { u with countPoint := c, disputes := dropKey Dispute.key n u.disputes } :=
    hu.trans (.of_lists rfl rfl rfl id risingBy_dropKey id id)
  unfold State.resolve
  dsimp only
  refine .thenIf (unlisted _ _ (State.calm_move_dispense hd (TicketBody.calm_of_calmTo ?_))) (.of_tables rfl)
  rw [he]; rfl

/-! ### Cassettes, count points and configuration -/

theorem State.calm_releasePosition (p : Pos) : s.Calm (s.releasePosition p) :=
  (State.calm_requestCount _ _ _).since ((State.calm_recheckGate _).since (s.calm_putSlot _ _))

theorem State.calm_setPresent (v : Vault) (present : Bool) : s.Calm (s.setPresent v present) := by
  cases v <;> exact .of_tables rfl

theorem State.calm_configured (items : List ConfigItem) : s.Calm (s.configured items) := by
  have announce (u : State) : u.Calm (u.announceLanes items) := .thenIf .rfl (.of_tables rfl)
  have recount (u : State) (n : Nat) : u.Calm (u.recountPeriodic n) := .thenIf .rfl (u.calm_requestCount _ _)
  unfold State.configured
  dsimp only
  refine (recount _ _).since ((State.calm_recheckGate _).since ?_)
  refine .since (.foldl (fun u p => u.calm_putSlot p _) _ _) ?_
  refine .ite ?_ ((State.calm_reclassInputs _ _).since ?_) <;>
    exact .ite (announce _).after (.since (.foldl State.calm_rejudge _ _) (announce _).after)

theorem State.calm_seePosition (p : Pos) (present : Bool) : s.Calm (s.seePosition p present) :=
  .thenIf .rfl (s.calm_insertCassette p)

/-! ### The formed values and the seconds -/

theorem State.calm_reform : s.Calm s.reform := .of_tables rfl

/-- A second changes neither the number, the lane nor the state of a ticket. -/
theorem Ticket.tick_keeps (t : Ticket) :
    t.tick.number = t.number ∧ t.tick.lane = t.lane ∧ t.tick.body.queued = t.body.queued
      ∧ t.tick.body.holds = t.body.holds := by
  obtain ⟨_, _, _, _, _, body⟩ := t
  cases body <;> exact ⟨rfl, rfl, rfl, rfl⟩

theorem State.calm_tick : s.Calm s.tick := by
  have tickets : s.Calm { s with tickets := s.tickets.map Ticket.tick } :=
    State.calm_mapTickets (fun t => t.tick_keeps.1) (fun t => t.tick_keeps.2.1) (fun t => t.tick_keeps.2.2.1)
      fun t => t.tick_keeps.2.2.2
  have approvals : risingBy HeldApproval.key (s.approvals.map fun a => { a with seconds := a.seconds - 1 })
      = risingBy HeldApproval.key s.approvals :=
    risingBy_map (f := fun a : HeldApproval => { a with seconds := a.seconds - 1 }) (fun _ => rfl) _
  exact tickets.trans (.of_lists rfl rfl rfl id id id fun h => approvals.trans h)

end Sys2Proof.Machine
end

section
/-! PROOFS. The operations that bring a ticket into or out of the pick queue, or a lane's ticket into the seven states of R21,
and what every command keeps: the formed values (R17, R22, R86, R97, R124), the order of the tables (R1, R4, R32, R135, R145,
R177), the pick queue (R20) and one ticket under way for each lane (R21). -/

namespace Sys2Proof.Machine

/-! ### One ticket put under its number -/

/-- A state that has one ticket put under its number, and every other ticket as it was. -/
structure State.Replaces (s v : State) (u : Ticket) : Prop where
  tables : s.tablesOrdered → v.tablesOrdered
  found : ∀ m, v.ticket m = if m = u.number then some u else s.ticket m

namespace State.Replaces

variable {s v : State} {u : Ticket}

theorem queuedAt_self (h : s.Replaces v u) : v.queuedAt u.number ↔ u.body.queued = true := by
  simp [State.queuedAt, h.found]

theorem ticket_of_ne (h : s.Replaces v u) {m : Nat} (hm : m ≠ u.number) : v.ticket m = s.ticket m := by
  rw [h.found, if_neg hm]

/-- A ticket put under its number holds its lane only if it is in one of the seven states. -/
theorem held (h : s.Replaces v u) (hu : u.body.holds = false) (m : Nat) (l : Lane) (hm : v.heldAt m l) : s.heldAt m l := by
  obtain ⟨t, ht, hl⟩ := hm
  rw [h.found] at ht
  split at ht
  · rw [Option.some.injEq] at ht
    subst ht
    simp [Ticket.holdsLane_iff, hu] at hl
  · exact ⟨t, ht, hl⟩

theorem lanes (h : s.Replaces v u) (hu : u.body.holds = false) (hs : s.tablesOrdered) (hl : s.lanesHeldOnce) :
    v.lanesHeldOnce :=
  State.lanesHeldOnce_of_held hs (h.tables hs) (h.held hu) hl

/-- A QUEUED ticket is in none of the seven states. -/
theorem holds_of_queued {b : TicketBody} (h : b.queued = true) : b.holds = false := by
  cases b with
  | dispense d => simp only [TicketBody.queued, decide_eq_true_eq] at h; simp [TicketBody.holds, h, DispenseState.holdsLane]
  | envelope e => rfl
  | intake k => rfl

/-- A ticket that was not QUEUED enters QUEUED at the tail of the pick queue. -/
theorem enqueued (h : s.Replaces v u) (hq : v.pickQueue = s.pickQueue ++ [u.number]) (hu : u.body.queued = true)
    (hs : s.tablesOrdered → ¬ s.queuedAt u.number) : s.Keeps v where
  tables := h.tables
  queue ht hr := (hr.but (hs ht)).push hq (fun _ => h.ticket_of_ne) (h.queuedAt_self.2 hu)
  lanes := h.lanes (holds_of_queued hu)

/-- A ticket enters QUEUED anew, at the tail of the pick queue. -/
theorem requeued (h : s.Replaces v u) (hq : v.pickQueue = s.pickQueue.filter (· != u.number) ++ [u.number])
    (hu : u.body.queued = true) : s.Keeps v where
  tables := h.tables
  queue _ hr := hr.leave.push hq (fun _ => h.ticket_of_ne) (h.queuedAt_self.2 hu)
  lanes := h.lanes (holds_of_queued hu)

/-- The pick queue is right when a ticket that is not QUEUED any more has left it. -/
theorem queue_of_left (h : s.Replaces v u) (hq : v.pickQueue = s.pickQueue.filter (· != u.number))
    (hu : u.body.queued = false) (hr : s.queueRight) : v.queueRight :=
  (hr.leave.congr hq fun _ => h.ticket_of_ne).right (by simp [h.queuedAt_self, hu])

/-- A ticket leaves QUEUED and the pick queue. -/
theorem dequeued (h : s.Replaces v u) (hq : v.pickQueue = s.pickQueue.filter (· != u.number))
    (hu : u.body.queued = false) (hh : u.body.holds = false) : s.Keeps v where
  tables := h.tables
  queue _ := h.queue_of_left hq hu
  lanes := h.lanes hh

/-- A ticket leaves the pick queue for one of the seven states, of whose lane no other ticket is in them (R21). -/
theorem selected (h : s.Replaces v u) (hq : v.pickQueue = s.pickQueue.filter (· != u.number)) (hu : u.body.queued = false)
    (hl : ∀ m, m ≠ u.number → ¬ s.heldAt m u.lane) : s.Keeps v where
  tables := h.tables
  queue _ := h.queue_of_left hq hu
  lanes ht hr := by
    have other {l : Lane} {m : Nat} (hm : v.heldAt m l) : m = u.number ∧ l = u.lane ∨ m ≠ u.number ∧ s.heldAt m l := by
      obtain ⟨t, htm, htl⟩ := hm
      rw [h.found] at htm
      split at htm
      · rename_i hmn
        rw [Option.some.injEq] at htm
        subst htm
        exact .inl ⟨hmn, (Ticket.holdsLane_iff.1 htl).1.symm⟩
      · rename_i hmn
        exact .inr ⟨hmn, t, htm, htl⟩
    refine (State.lanesHeldOnce_iff (h.tables ht)).2 fun l m n hm hn => ?_
    rcases other hm with ⟨rfl, rfl⟩ | ⟨hmu, hm⟩ <;> rcases other hn with ⟨rfl, hnl⟩ | ⟨hnu, hn⟩
    · rfl
    · exact absurd hn (hl n hnu)
    · exact absurd hm (hnl ▸ hl m hmu)
    · exact (State.lanesHeldOnce_iff ht).1 hr l m n hm hn

end State.Replaces

variable {s : State}

theorem State.ticket_ticketEnters (u : Ticket) (m : Nat) :
    (s.ticketEnters u).ticket m = if m = u.number then some u else s.ticket m :=
  State.ticket_putTicket u m

/-- A held ticket put back as it enters a state, whatever happens to the pick queue. -/
theorem State.replaces_of_enters {t u : Ticket} {w : State} (ht : s.ticket t.number = some t) (hu : u.number = t.number)
    (hw : w.tables = { (s.ticketEnters u).tables with pickQueue := w.pickQueue }) : s.Replaces w u := by
  simp only [State.tables, Tables.mk.injEq] at hw
  obtain ⟨h1, h2, -, h3, h4, h5, h6⟩ := hw
  refine ⟨fun hs => ?_, fun m => ?_⟩
  · have := (State.calm_noteTicket u.number (State.tablesOrdered_putTicket hs ht hu)).tables
    unfold State.tablesOrdered at this ⊢
    rw [h1, h2, h3, h4, h5, h6]
    exact this
  · rw [← State.ticket_ticketEnters u m]; simp only [State.ticket, h1]

/-! ### The ticket requests that change the pick queue -/

section Requests
variable {t : Ticket} {d e : Dispense}

/-- The mark of an approval on a held ticket (R33). -/
theorem State.markTicket_held (ht : s.ticket t.number = some t) (who : Teller) :
    s.markTicket t.number who = s.putTicket { t with mark := s.markNow who t.mark } := by
  simp [State.markTicket, ht]

/-- The mark and a state change of a held ticket together. -/
theorem State.markTicket_move (ht : s.ticket t.number = some t) (who : Teller) (b : TicketBody) :
    (s.markTicket t.number who).move t.number b = s.ticketEnters { t with mark := s.markNow who t.mark, body := b } := by
  rw [State.markTicket_held ht]
  have hm : (s.putTicket { t with mark := s.markNow who t.mark }).ticket t.number
      = some { t with mark := s.markNow who t.mark } := by
    simp [State.ticket_putTicket]
  rw [State.move_held (t := { t with mark := s.markNow who t.mark }) hm]
  exact State.putTicket_ticketEnters (by rfl)

/-- A held ticket marked and put into QUEUED at the queue's tail (R12, R14, R20). -/
theorem State.markTicket_move_joinQueue (ht : s.ticket t.number = some t) (who : Teller) (e : Dispense) :
    ((s.markTicket t.number who).move t.number (.dispense e)).joinQueue t.number =
      { s.ticketEnters { t with mark := s.markNow who t.mark,
                                body := .dispense { e with queueStamp := some s.nextStamp } } with
        pickQueue := s.pickQueue ++ [t.number], nextStamp := s.nextStamp + 1 } := by
  rw [State.markTicket_move ht]
  exact State.joinQueue_enters (t := { t with mark := s.markNow who t.mark, body := .dispense e }) rfl

/-- APPROVE of a ticket that is not QUEUED. -/
theorem State.keeps_approve (ht : s.ticket t.number = some t) (hb : t.body = .dispense d) (hd : d.state ≠ .queued)
    (who : Teller) (he : e.state = .queued) :
    s.Keeps (((s.markTicket t.number who).move t.number (.dispense e)).joinQueue t.number) := by
  rw [State.markTicket_move_joinQueue ht]
  let u : Ticket :=
    { t with mark := s.markNow who t.mark, body := .dispense { e with queueStamp := some s.nextStamp } }
  refine State.Replaces.enqueued (u := u) (State.replaces_of_enters ht rfl rfl) rfl ?_ fun _ => ?_
  · simp [u, TicketBody.queued, he]
  · simp [u, State.queuedAt, ht, hb, TicketBody.queued, hd]

/-- AMEND of a ticket that has not been picked (R14). -/
theorem State.keeps_applyAmend (ht : s.ticket t.number = some t) (hb : t.body = .dispense d)
    (who : Teller) (amount : Nat) (plan : List Segment) : s.Keeps (s.applyAmend t.number d who amount plan) := by
  have hu : (s.leaveQueue t.number).ticket t.number = some t := ht
  let u (e : Dispense) : Ticket := { t with mark := s.markNow who t.mark, body := .dispense e }
  unfold State.applyAmend
  split
  · refine State.Calm.keeps (State.calm_rewrite fun u h => ?_)
    rw [ht, Option.some.injEq] at h
    subst h
    rw [hb]
    exact TicketBody.calm_of_state rfl
  · dsimp only
    split
    · rw [State.markTicket_move hu]
      exact State.Replaces.dequeued (u := u _) (State.replaces_of_enters ht rfl rfl) rfl rfl rfl
    · rw [State.markTicket_move_joinQueue hu]
      exact State.Replaces.requeued (u := u _) (State.replaces_of_enters ht rfl rfl) rfl rfl

/-- A DISPENSE ticket opened that joins the pick queue at once (R4, R6, R20). -/
theorem State.openTicket_joinQueue (l : Lane) (opener : Option Teller) (mark : TellerSet) (d : Dispense) :
    (s.openTicket l opener mark (.dispense d)).joinQueue s.issueNumber =
      { s.ticketEnters { number := s.issueNumber, lane := l, opener := opener, openStamp := s.nextStamp, mark := mark,
                         body := .dispense { d with queueStamp := some (s.nextStamp + 1) } } with
        nextNumber := if s.issueNumber < 9999 then s.issueNumber + 1 else 1, nextStamp := s.nextStamp + 2,
        pickQueue := s.pickQueue ++ [s.issueNumber] } := by
  have hd : (s.openTicket l opener mark (.dispense d)).holdsDispense
      { number := s.issueNumber, lane := l, opener := opener, openStamp := s.nextStamp, mark := mark, body := .dispense d }
      d := ⟨by rw [State.ticket_openTicket, if_pos rfl], rfl⟩
  unfold State.joinQueue
  rw [State.adjust_held hd]
  simp only [State.openTicket_enters, State.putTicket, State.ticketEnters, putByKey_putByKey]

/-- A DISPENSE ticket opened (R6). -/
theorem State.keeps_openDispenseTicket (hfree : s.hasFreeEntry = true) (who : Teller) (l : Lane) (amount : Nat)
    (plan : List Segment) : s.Keeps (s.openDispenseTicket who l amount plan) := by
  unfold State.openDispenseTicket
  dsimp only
  split
  · rename_i hdual
    refine State.Calm.keeps (State.calm_openTicket _ _ _ _ hfree ?_ ?_) <;>
      simp [State.newDispense, hdual, TicketBody.queued, TicketBody.holds, DispenseState.holdsLane]
  · rename_i hdual
    let u : Ticket :=
      { number := s.issueNumber, lane := l, opener := some who, openStamp := s.nextStamp,
        mark := s.markNow who ⟨false, false⟩,
        body := .dispense { s.newDispense who amount plan with queueStamp := some (s.nextStamp + 1) } }
    unfold State.openFor
    rw [State.openTicket_joinQueue]
    refine State.Replaces.enqueued (u := u) ⟨fun hs => ?_, fun m => ?_⟩ rfl ?_ fun hs => ?_
    · exact State.tablesOrdered_openTicket l (some who) u.mark u.body hfree hs
    · exact State.ticket_openTicket l (some who) u.mark u.body m
    · simp [u, State.newDispense, hdual, TicketBody.queued]
    · simp [u, State.queuedAt, State.ticket_issueNumber hs hfree]

/-- A queued ticket selected whose lane no other ticket holds (R21). -/
theorem State.keeps_select (ht : s.ticket t.number = some t) (hb : t.body = .dispense d) (hd : d.state = .queued)
    (hl : ∀ m, ¬ s.heldAt m t.lane) : s.Keeps (s.select t.number) := by
  let u : Ticket := { t with body := .dispense (d.enter .picking) }
  have entered : (s.leaveQueue t.number).claim t.number (· = .queued) (Dispense.enter .picking)
      = (s.leaveQueue t.number).ticketEnters u :=
    State.claim_held (s := s.leaveQueue t.number) ⟨ht, hb⟩ (by simp [hd])
  have kept : s.Keeps ((s.leaveQueue t.number).ticketEnters u) :=
    State.Replaces.selected (u := u) (State.replaces_of_enters ht rfl rfl) rfl rfl fun m _ => hl m
  unfold State.select
  rw [entered]
  exact kept.trans (State.calm_takeUp _ _).after.keeps

/-- VOID of a QUEUED ticket (R25). -/
theorem State.keeps_voidQueued (ht : s.ticket t.number = some t) (d : Dispense) :
    s.Keeps ((s.leaveQueue t.number).move t.number (.dispense (d.enter .voided))) := by
  let u : Ticket := { t with body := .dispense (d.enter .voided) }
  rw [State.move_held (s := s.leaveQueue t.number) ht]
  exact State.Replaces.dequeued (u := u) (State.replaces_of_enters ht rfl rfl) rfl rfl rfl

end Requests

end Sys2Proof.Machine
end

section
/-! PROOFS. What every command keeps, one lemma for each command, and the invariants that follow for a step. A command either
forms the values anew at its end, or changes nothing that they are formed from. -/

namespace Sys2Proof.Machine

variable {s t u : State}

/-! ### The formed values -/

/-- Every formed value stands when each lane record and each slot is as its rule forms it. -/
theorem State.formed_iff :
    s.formed = true ↔ (∀ l, s.formLane l (s.lane l) = s.lane l) ∧ ∀ p, (s.slot p).committed = s.committedAt p := by
  constructor
  · intro h
    have he := State.reform_of_formed h
    refine ⟨fun l => ?_, fun p => ?_⟩
    · have hl : (s.reform.lanes).get l = s.lanes.get l := by rw [he]
      rwa [State.reform_lanes, PerLane_get_mapWith] at hl
    · have hp : (s.reform.slots.get p).committed = (s.slots.get p).committed := by rw [he]
      rw [State.reform_slots, PerPos_get_mapWith] at hp
      exact hp.symm
  · rintro ⟨hl, hp⟩
    have lanes : s.lanes.mapWith s.formLane = s.lanes := PerLane_ext fun l => by rw [PerLane_get_mapWith]; exact hl l
    have slots : (s.slots.mapWith fun p x => { x with committed := s.committedAt p }) = s.slots :=
      PerPos_ext fun p => by rw [PerPos_get_mapWith, ← hp p]; rfl
    simp only [State.formed, State.reform, lanes, slots, decide_true]

/-- What the formed values of a lane are formed from, in its own record. -/
def LaneRec.inputs (r : LaneRec) : Link × Option DrawerReport × Bool × Nat × Bool × Option DrawerReport :=
  (r.link, r.handedDrawer, r.binVerified, r.binCount, r.unheard, r.repDrawer)

/-- The formed values of a lane record. -/
def LaneRec.values (r : LaneRec) : DrawerValue × SlotValue × Lamp × DrawerValue × SlotValue :=
  (r.desiredDrawer, r.desiredSlot, r.desiredLamp, r.effDrawer, r.effSlot)

/-- A lane record is as the rules form it when its formed values are. -/
theorem State.formLane_eq_iff {l : Lane} {r : LaneRec} :
    s.formLane l r = r ↔
      r.values = (s.formDrawer l, s.formSlot l, s.formLamp l, s.overrideDrawer l, s.overrideSlot l) := by
  cases r
  simp only [State.formLane, LaneRec.values, LaneRec.mk.injEq, Prod.mk.injEq, true_and, and_true]
  tauto

/-- The formed values of a state with all that they are formed from. -/
structure FormView where
  laneInputs    : Lane → Link × Option DrawerReport × Bool × Nat × Bool × Option DrawerReport
  laneValues    : Lane → DrawerValue × SlotValue × Lamp × DrawerValue × SlotValue
  slotCommitted : Pos → Nat
  committed     : Pos → Nat
  awaits        : Lane → Bool
  collects      : Lane → Bool
  lost          : Nat → Bool
  free          : Bool
  queued        : Nat
  presentations : PerLane (Option Presentation)
  handlings     : PerLane Handling
  lockdown      : Bool
  service       : Bool
  params        : Params

/-- The formed values of a state with all that they are formed from. -/
def State.formView (s : State) : FormView :=
  { laneInputs := fun l => (s.lane l).inputs, laneValues := fun l => (s.lane l).values,
    slotCommitted := fun p => (s.slot p).committed, committed := s.committedAt, awaits := s.awaitsEnvelope,
    collects := fun l => s.tickets.any (Ticket.collectsAt l), lost := s.laneLost, free := s.hasFreeEntry,
    queued := s.pickQueue.length, presentations := s.presentations, handlings := s.handlings,
    lockdown := s.alarms.lockdown, service := s.wall.service, params := s.params }

/-- Values that stand as formed stand so while nothing that they are formed from changes. -/
theorem State.formed_of_view (h : t.formView = s.formView) (hs : s.formed = true) : t.formed = true := by
  simp only [State.formView, FormView.mk.injEq, LaneRec.inputs, funext_iff, Prod.mk.injEq] at h
  obtain ⟨inputs, values, slots, committed, awaits, collects, lost, free, queued, pres, hand, lockdown, service, params⟩ := h
  have drawer (l : Lane) : t.formDrawer l = s.formDrawer l := by
    simp only [State.formDrawer, pres, inputs, lost, lockdown]
  have slot (l : Lane) : t.formSlot l = s.formSlot l := by
    obtain ⟨link, -, verified, count, unheard, -⟩ := inputs l
    unfold State.formSlot State.slotMayOpen
    rw [hand, service, awaits, params, free, lockdown, link, verified, count, unheard]
  have lamp (l : Lane) : t.formLamp l = s.formLamp l := by
    unfold State.formLamp State.claimsDeposit
    rw [service, lockdown, drawer, slot, awaits, hand, collects, (inputs l).1, params, queued]
  have effDrawer (l : Lane) : t.overrideDrawer l = s.overrideDrawer l := by
    simp only [State.overrideDrawer, lockdown, inputs, drawer]
  have effSlot (l : Lane) : t.overrideSlot l = s.overrideSlot l := by
    simp only [State.overrideSlot, lockdown, slot]
  rw [State.formed_iff] at hs ⊢
  simp only [State.formLane_eq_iff, drawer, slot, lamp, effDrawer, effSlot, values, slots, committed] at hs ⊢
  exact hs

/-! ### What a command keeps -/

/-- What a command keeps: the formed values stand as formed, the tables in order, the pick queue and the lanes right. -/
structure State.Kept (s t : State) : Prop where
  formed : s.formed = true → t.formed = true
  keeps : s.Keeps t

theorem State.Kept.refl : s.Kept s := ⟨id, State.Calm.rfl.keeps⟩

theorem State.Kept.trans (h : s.Kept t) (k : t.Kept u) : s.Kept u :=
  ⟨fun hs => k.formed (h.formed hs), h.keeps.trans k.keeps⟩

/-- A change of nothing that the formed values or the invariants of the tables speak of. -/
theorem State.Kept.of_same (ht : t.tables = s.tables) (hv : t.formView = s.formView) : s.Kept t :=
  ⟨State.formed_of_view hv, (State.Calm.of_tables ht).keeps⟩

/-- A command that forms the values anew at its end. -/
theorem State.Keeps.reform (h : s.Keeps t) : s.Kept t.reform :=
  ⟨fun _ => State.formed_reform, h.trans (State.calm_reform t).keeps⟩

theorem State.Kept.of_reform (h : s.Calm t) : s.Kept t.reform := h.keeps.reform

theorem State.Kept.of_calm (h : s.Calm t) (hv : t.formView = s.formView) : s.Kept t := ⟨State.formed_of_view hv, h.keeps⟩

theorem State.Kept.hold (h : s.Kept t) (r : Response) : s.Kept (t.hold r) := h.trans (.of_same rfl rfl)

/-- The frame of a request changes nothing but the port, the reasons and the change set (R173, R175). -/
theorem State.kept_beginFrame (s : State) : s.Kept s.beginFrame := by
  refine ⟨State.formed_of_view ?_, s.calm_beginFrame.keeps⟩
  unfold State.beginFrame
  split
  · rfl
  · unfold State.giveUpResponse; dsimp only; split <;> rfl
  · rfl
  · rfl

theorem State.kept_takeFrame (s : State) : s.Kept s.takeFrame := by
  unfold State.takeFrame
  split
  · exact s.kept_beginFrame
  · exact s.kept_beginFrame
  · exact .refl
  · exact .refl

/-- A request keeps what its effect keeps, when it is taken; when it is refused it changes no record (R174, R176). -/
theorem State.kept_answer {act : State → Except Status (State × List Byte)}
    (h : ∀ (s t : State) (payload : List Byte), act s = .ok (t, payload) → s.Kept t) : s.Kept (s.answer act) := by
  rcases State.answer_cases (s := s) act with ⟨t, payload, ht, he⟩ | ⟨e, -, he⟩ <;> rw [he]
  · exact (s.kept_takeFrame.trans (h _ _ _ ht)).hold _
  · exact s.kept_takeFrame.hold _

/-- The outcome of a command, when it has one, keeps what commands keep. -/
def State.KeptBy (s : State) (o : Host.Outcome State Fault Refusal) : Prop := ∀ t, o = .next t → s.Kept t

theorem State.KeptBy.next (h : s.Kept t) : s.KeptBy (.next t) := fun u hu => by
  cases hu; exact h

theorem State.KeptBy.ite {c : Prop} [Decidable c] {o p : Host.Outcome State Fault Refusal} (h : s.KeptBy o) (k : s.KeptBy p) :
    s.KeptBy (if c then o else p) := by split <;> assumption

/-- A request taken only after its checks (R5, R176). -/
def Grants (P : State → Prop) (x : Except Status (State × List Byte)) : Prop := ∀ t payload, x = .ok (t, payload) → P t

section Grants
variable {P : State → Prop} {e : Status} {α : Type}

theorem Grants.ok {payload : List Byte} (h : P t) : Grants P (.ok (t, payload)) := fun u p hu => by
  cases hu; exact h

theorem Grants.error : Grants P (.error e) := fun _ _ h => by cases h

theorem Grants.need {c : Bool} {k : Except Status (State × List Byte)} (h : c = true → Grants P k) : Grants P (need c e k) := by
  cases c
  · exact .error
  · exact h rfl

theorem Grants.named {x : Option α} {k : α → Except Status (State × List Byte)} (h : ∀ a, x = some a → Grants P (k a)) :
    Grants P (named x e k) := by
  cases x with
  | none => exact .error
  | some a => exact h a rfl

end Grants

/-- A command that is a request, by what its checks and its effect grant. -/
theorem State.KeptBy.request {act : State → Except Status (State × List Byte)} (h : ∀ s : State, Grants s.Kept (act s)) :
    s.KeptBy (.next (s.answer act)) := .next (State.kept_answer h)

/-! ### Changes of one record that the formed values do not read -/

theorem State.kept_setSlot {p : Pos} {x : Slot} (h : x.committed = (s.slot p).committed) :
    s.Kept { s with slots := s.slots.set p x } := by
  have committed : (fun q => ((s.slots.set p x).get q).committed) = fun q => (s.slots.get q).committed := funext fun q => by
    by_cases hq : q = p
    · subst hq; rw [PerPos_get_set_self]; exact h
    · rw [PerPos_get_set_of_ne _ _ hq]
  refine .of_same rfl ?_
  simp only [State.formView, State.slot, committed]
  rfl

/-- A position record written back with its committed notes as they were. -/
theorem State.kept_putSlot {p : Pos} {x : Slot} (h : x.committed = (s.slot p).committed) : s.Kept (s.putSlot p x) := by
  have h' := State.kept_setSlot h
  exact h'.trans (.of_same rfl rfl)

theorem State.kept_putLane {l : Lane} {r : LaneRec} (hi : r.inputs = (s.lane l).inputs) (hv : r.values = (s.lane l).values) :
    s.Kept (s.putLane l r) := by
  have at_lane {α : Type} (f : LaneRec → α) (h : f r = f (s.lane l)) :
      (fun k => f ((s.lanes.set l r).get k)) = fun k => f (s.lanes.get k) := funext fun k => by
    by_cases hk : k = l
    · subst hk; rw [PerLane_get_set_self]; exact h
    · rw [PerLane_get_set_of_ne _ _ hk]
  refine .of_same rfl ?_
  simp only [State.formView, State.lane, State.putLane, at_lane _ hi, at_lane _ hv]
  rfl

/-- A first approval kept or dropped in the held approval list. -/
theorem State.kept_approvals {xs : List HeldApproval}
    (h : risingBy HeldApproval.key s.approvals = true → risingBy HeldApproval.key xs = true) :
    s.Kept { s with approvals := xs } :=
  .of_calm (.of_lists rfl rfl rfl id id id h) rfl

theorem State.kept_dropApproval (x : HeldTarget) : s.Kept (s.dropApproval x) := State.kept_approvals risingBy_dropKey

/-- An approval of a dual request (R177) keeps what its effect keeps. -/
theorem State.grants_approveDual {x : HeldTarget} {delivered : Option Nat} {teller : Teller} {effect : State → State}
    (h : (s.dropApproval x).Kept (effect (s.dropApproval x))) :
    Grants s.Kept (s.approveDual x delivered teller effect) := by
  unfold State.approveDual
  dsimp only
  split
  · exact .ok (State.kept_approvals (risingBy_putByKey _))
  · exact .ok ((State.kept_dropApproval x).trans h)
  · exact .error

/-! ### The Request Port -/

theorem State.keptBy_badFrame (partByte : Bool) (bytes : List Byte) : s.KeptBy (execBadFrame partByte bytes s) := by
  refine .ite ?_ (.next .refl)
  split
  · exact .request fun _ => .error
  · exact .next .refl

theorem State.keptBy_responseRead (clocked : Nat) : s.KeptBy (execResponseRead clocked s) :=
  .ite (.next .refl) (.next (.of_same rfl rfl))

theorem State.keptBy_readAttention : s.KeptBy (execReadAttention s) :=
  .request fun _ => .ok (.of_calm (.of_lists rfl rfl rfl (fun _ => rfl) id id id) rfl)

theorem State.keptBy_dualApprovalExpiry (target : DualTarget) : s.KeptBy (execDualApprovalExpiry target s) := by
  cases target with
  | release p => exact .next (State.kept_setSlot rfl)
  | vault v => exact .next (State.kept_dropApproval _)
  | bin l => exact .next (State.kept_dropApproval _)
  | resolve n => exact .next (State.kept_dropApproval _)

theorem State.keptBy_startWall : s.KeptBy (execStartWall s) :=
  .request fun _ => .need fun _ => .need fun _ => .need fun _ => .ok (.of_same rfl rfl)

theorem State.keptBy_enterSetup : s.KeptBy (execEnterSetup s) :=
  .request fun _ => .need fun _ => .need fun _ => .need fun _ => .need fun _ => .need fun _ =>
    .ok (.of_reform (.of_tables rfl))

/-! ### Tickets -/

theorem State.keptBy_openDispense (teller lane amount : Nat) (segments : List SegmentArg) :
    s.KeptBy (execOpenDispense teller lane amount segments s) :=
  .request fun _ => .need fun _ => .named fun _ _ => .named fun _ _ => .need fun _ => .named fun _ _ => .need fun hfree =>
    .need fun _ => .need fun _ => .need fun _ => .ok (State.keeps_openDispenseTicket hfree _ _ _ _).reform

theorem State.keptBy_openEnvelope (teller lane : Nat) : s.KeptBy (execOpenEnvelope teller lane s) :=
  .request fun _ => .need fun _ => .named fun _ _ => .named fun _ _ => .need fun hfree =>
    .ok (.of_reform (State.calm_openTicket _ _ _ _ hfree rfl rfl))

theorem State.keptBy_openIntake (teller lane : Nat) : s.KeptBy (execOpenIntake teller lane s) :=
  .request fun _ => .need fun _ => .named fun _ _ => .named fun _ _ => .need fun hfree =>
    .ok (.of_reform (State.calm_openTicket _ _ _ _ hfree rfl rfl))

theorem State.keptBy_approve (ticket teller : Nat) : s.KeptBy (execApprove ticket teller s) := by
  refine .request fun s => .need fun _ => .need fun _ => .named fun who _ => .named fun t ht => ?_
  obtain rfl := (State.ticket_some ht).2
  split
  · rename_i d hb
    refine .need fun hd => .need fun _ => .ok (State.keeps_approve ht hb ?_ who rfl).reform
    rw [of_decide_eq_true hd]
    decide
  · exact .error
  · exact .error

theorem State.keptBy_approvalWindowExpiry (ticket : Nat) : s.KeptBy (execApprovalWindowExpiry ticket s) :=
  .next (.of_reform (State.calm_claim .awaitingSecond .expired (fun _ => rfl) rfl))

/-- AMEND of a halted ticket takes it from PICK_HALTED to PICKING (R15). -/
theorem State.grants_amendHalted {n : Nat} {d : Dispense} (hd : s.dispense n = some d) (hst : d.state = .pickHalted)
    (amount : Option Nat) (asks : List Ask) : Grants s.Kept (s.amendHalted n d amount asks) := by
  refine .need fun _ => .need fun _ => .need fun _ => .need fun _ => .need fun _ => .need fun _ => .need fun _ => .ok ?_
  refine .of_reform ((State.calm_takeUp _ _).since (State.calm_move_dispense hd (TicketBody.calm_of_calmTo ?_)))
  rw [hst]
  rfl

theorem State.keptBy_amend (ticket teller amount : Nat) (segments : List SegmentArg) :
    s.KeptBy (execAmend ticket teller amount segments s) := by
  refine .request fun s => .need fun _ => .need fun _ => .named fun who _ => .named fun a _ => .named fun asks _ =>
    .need fun _ => .named fun t ht => ?_
  obtain rfl := (State.ticket_some ht).2
  split
  · rename_i d hb
    have waiting : Grants s.Kept (s.amendWaiting t.number d who a asks) :=
      .need fun _ => .need fun _ => .need fun _ => .need fun _ => .ok (State.keeps_applyAmend ht hb who _ _).reform
    split
    · exact waiting
    · exact waiting
    · rename_i hst
      exact State.grants_amendHalted (State.dispense_some.2 ⟨t, ht, hb⟩) hst a asks
    all_goals exact .error
  · rename_i e hb
    exact .need fun _ => .named fun _ _ =>
      .ok (.of_reform (State.calm_rewrite_envelope (State.envelope_some.2 ⟨t, ht, hb⟩)))
  · exact .error

/-- The ticket R21 selects is in the pick queue and held, and no ticket of its lane is in the seven states. -/
theorem State.selected_some {n : Nat} (h : s.selected = some n) :
    n ∈ s.pickQueue ∧ ∃ t, s.ticket n = some t ∧ ∀ m, ¬ s.heldAt m t.lane := by
  unfold State.selected at h
  split at h
  · refine ⟨List.mem_of_find?_eq_some h, ?_⟩
    have takes := List.find?_some h
    unfold State.laneTakes at takes
    split at takes
    · rename_i t ht
      rw [Bool.and_eq_true, Bool.not_eq_true', List.any_eq_false] at takes
      exact ⟨t, ht, fun m ⟨u, hu, hl⟩ => takes.2 u (State.ticket_some hu).1 hl⟩
    · cases takes
  · cases h

/-- A selection keeps the tables and the lanes; it keeps the pick queue, in which the ticket selected is QUEUED. -/
theorem State.keeps_selected {n : Nat} (h : s.selected = some n) : s.Keeps (s.select n) := by
  obtain ⟨hmem, t, ht, hl⟩ := State.selected_some h
  obtain rfl := (State.ticket_some ht).2
  by_cases hq : s.queuedAt t.number
  · obtain ⟨d, hd, hst⟩ := State.queuedAt_iff.1 hq
    obtain ⟨u, hu, hb⟩ := State.dispense_some.1 hd
    rw [ht, Option.some.injEq] at hu
    subst hu
    exact State.keeps_select ht hb hst hl
  · have skip : (s.leaveQueue t.number).claim t.number (· = .queued) (Dispense.enter .picking) = s.leaveQueue t.number := by
      rcases State.claim_cases (s := s.leaveQueue t.number) t.number (fun x => decide (x = .queued))
        (Dispense.enter .picking) with ⟨d, hd, hst, -⟩ | he
      · exact absurd (State.queuedAt_iff.2 ⟨d, hd, of_decide_eq_true hst⟩) hq
      · exact he
    have left : s.Keeps (s.leaveQueue t.number) :=
      ⟨id, fun _ hr => absurd (((State.queueRight_iff.1 hr).2 _).1 hmem) hq, fun _ => id⟩
    unfold State.select
    rw [skip]
    exact left.trans (State.calm_takeUp _ _).after.keeps

theorem State.keptBy_ticketSelection : s.KeptBy (execTicketSelection s) := by
  unfold execTicketSelection
  split
  · rename_i n hn
    exact .next (State.keeps_selected hn).reform
  · exact .next .refl

/-- VOID of a held DISPENSE ticket, where it is taken (R25, R26). -/
theorem State.keeps_voidDispense {t : Ticket} {d : Dispense} {u : State} (h : s.holdsDispense t d)
    (hu : s.voidDispense t.number t.lane d = some u) : s.Keeps u := by
  have hd : s.dispense t.number = some d := State.dispense_some.2 ⟨t, h⟩
  have moved (into : DispenseState) (hc : d.state.calmTo into = true) :
      s.Calm (s.move t.number (.dispense (d.enter into))) :=
    State.calm_move_dispense hd (TicketBody.calm_of_calmTo hc)
  unfold State.voidDispense at hu
  cases hst : d.state <;> simp only [hst, Option.some.injEq, reduceCtorEq] at hu
  case awaitingSecond => exact hu ▸ (moved .voided (by rw [hst]; rfl)).keeps
  case queued => exact hu ▸ State.keeps_voidQueued h.1 d
  case picking =>
    split at hu <;> rw [Option.some.injEq] at hu <;> subst hu
    · exact (moved .purging (by rw [hst]; rfl)).keeps
    · have hd' : (s.letGo t.number).dispense t.number = some d := by
        unfold State.letGo; split <;> exact hd
      exact ((State.calm_endPicked _ hd' (by rw [hst]; rfl)).since (s.calm_letGo _)).keeps
  case pickHalted => exact hu ▸ (s.calm_endPicked hd (by rw [hst]; rfl)).keeps
  case staged =>
    subst hu
    have after (u : State) (x : Staging) (h : s.Calm u) : s.Keeps { u with staging := x } :=
      (h.trans (State.Calm.of_tables (t := { u with staging := x }) rfl)).keeps
    exact after _ _ (moved .purging (by rw [hst]; rfl))
  case presented =>
    split at hu <;> rw [Option.some.injEq] at hu <;> subst hu
    · exact State.Calm.rfl.keeps
    · refine ((State.calm_askClose _ _).since (State.calm_rewrite fun v hv => ?_)).keeps
      rw [h.1, Option.some.injEq] at hv
      subst hv
      rw [h.2]
      exact TicketBody.calm_of_state hst.symm

theorem State.keptBy_void (ticket : Nat) : s.KeptBy (execVoid ticket s) := by
  refine .request fun s => .need fun _ => .need fun _ => .named fun t ht => .named fun u hu => .ok (State.Keeps.reform ?_)
  obtain rfl := (State.ticket_some ht).2
  unfold State.voidTicket at hu
  split at hu
  · rename_i d hb
    exact State.keeps_voidDispense ⟨ht, hb⟩ hu
  · rename_i e hb
    split at hu <;> cases hu
    exact ((State.calm_noteTicket _).since (State.calm_rewrite_envelope (State.envelope_some.2 ⟨t, ht, hb⟩))).keeps
  · rename_i k hb
    split at hu <;> cases hu
    exact ((State.calm_noteTicket _).since (State.calm_rewrite_intake (State.intake_some.2 ⟨t, ht, hb⟩))).keeps

/-- A ticket in a terminal state is neither QUEUED nor in the seven states. -/
theorem Ticket.terminal_queued {t : Ticket} (h : t.terminal = true) : t.body.queued = false := by
  unfold Ticket.terminal at h
  cases hb : t.body with
  | dispense d =>
    simp only [hb] at h
    cases hd : d.state <;> simp_all [TicketBody.queued, DispenseState.terminal]
  | envelope e => rfl
  | intake k => rfl

/-- The entry of a ticket that is not QUEUED freed. -/
theorem State.calm_settle {t : Ticket} (ht : s.ticket t.number = some t) (hq : t.body.queued = false) :
    s.Calm (s.settle t) := by
  have found (m : Nat) (hm : m ≠ t.number) : findByKey Ticket.number m (dropKey Ticket.number t.number s.tickets)
      = s.ticket m := findByKey_dropKey_of_ne hm s.tickets
  have freed : s.Calm { s with tickets := dropKey Ticket.number t.number s.tickets,
                               changeSet := s.changeSet.filter (· != t.number) } := by
    rintro ⟨h1, h2, h3, h4, h5, h6, rest⟩
    refine ⟨⟨risingBy_dropKey h1, (List.length_filter_le _ _).trans h2, fun u hu => h3 u (List.mem_filter.1 hu).1, h4, h5,
      risingBy_sublist List.filter_sublist h6, rest⟩, rfl, fun n => ?_, fun n l hn => ?_⟩
    · by_cases hn : n = t.number
      · subst hn
        have hs : ¬ s.queuedAt t.number := by
          rintro ⟨u, hu, hqu⟩
          rw [ht, Option.some.injEq] at hu
          rw [← hu, hq] at hqu
          cases hqu
        exact ⟨by rintro ⟨u, hu, -⟩; simp [State.ticket] at hu, fun h => absurd h hs⟩
      · simp only [State.queuedAt, State.ticket, found n hn]
    · obtain ⟨u, hu, hl⟩ := hn
      by_cases hn : n = t.number
      · subst hn; simp [State.ticket] at hu
      · exact ⟨u, (found n hn).symm.trans hu, hl⟩
  unfold State.settle
  dsimp only
  split
  · exact (State.calm_countSettlement _).since freed
  · exact (State.calm_countSettlement _).since freed
  · exact freed

theorem State.keptBy_settle (ticket : Nat) : s.KeptBy (execSettle ticket s) := by
  refine .request fun s => .need fun _ => .need fun _ => .named fun t ht => .need fun hterm => .ok ?_
  obtain rfl := (State.ticket_some ht).2
  exact .of_reform (State.calm_settle ht (Ticket.terminal_queued hterm))

theorem State.keptBy_takeTimerExpiry (ticket : Nat) : s.KeptBy (execTakeTimerExpiry ticket s) :=
  .next (.of_reform (s.calm_takeExpired _))

/-! ### Cassettes and vaults -/

theorem State.keptBy_cassetteInsertion (p : Pos) : s.KeptBy (execCassetteInsertion p s) :=
  .ite (.next (.of_reform (s.calm_insertCassette p))) (.next .refl)

theorem State.keptBy_cassetteRemoval (p : Pos) : s.KeptBy (execCassetteRemoval p s) :=
  .ite (.next .refl)
    (.ite (.next (.of_reform ((State.calm_handWriteBack _ _ _).since (s.calm_remove p)))) (.next (.of_reform (s.calm_remove p))))

theorem State.keptBy_identityReadEnd (tries : List TagTry) : s.KeptBy (execIdentityReadEnd tries s) := by
  unfold execIdentityReadEnd
  split
  · exact .next (.of_reform (s.calm_endRead _ _))
  all_goals exact .next .refl

theorem State.keptBy_tagWriteEnd (tries : List TagTry) : s.KeptBy (execTagWriteEnd tries s) := by
  unfold execTagWriteEnd
  split
  · exact .next .refl
  · exact .next .refl
  · split
    · exact .next (.of_reform ((State.calm_endTransfer _).since (s.calm_putSlot _ _)))
    · exact .next .refl
  · split
    · exact .next (.of_reform ((State.calm_handWriteBack _ _ _).since ((State.calm_endTransfer _).since (s.calm_putSlot _ _))))
    · exact .next .refl

theorem State.keptBy_positionReinstate (position : Nat) : s.KeptBy (execPositionReinstate position s) :=
  .request fun _ => .named fun _ _ => .need fun _ => .need fun _ => .ok (.of_reform (State.calm_putSlot _ _ _))

theorem State.keptBy_positionRelease (position teller : Nat) : s.KeptBy (execPositionRelease position teller s) := by
  refine .request fun s => .need fun _ => .named fun p _ => .named fun who _ => .need fun _ => .need fun _ => .need fun _ => ?_
  unfold State.approveRelease
  split
  · exact .ok (State.kept_putSlot rfl)
  · exact .ok (.of_reform (s.calm_releasePosition p))
  · exact .error

theorem State.keptBy_vaultEmptied (vault teller : Nat) : s.KeptBy (execVaultEmptied vault teller s) :=
  .request fun _ => .named fun v _ => .named fun _ _ => .need fun _ => .need fun _ =>
    State.grants_approveDual (.of_reform (State.calm_emptyVault _ v))

theorem State.keptBy_vaultPresenceChange (v : Vault) (present : Bool) : s.KeptBy (execVaultPresenceChange v present s) :=
  .next (.of_reform ((State.calm_handVaults _).since (s.calm_setPresent v present)))

/-! ### Dispensing -/

theorem State.keptBy_pickerResume : s.KeptBy (execPickerResume s) := by
  unfold execPickerResume
  split
  · exact .ite (.next (.of_reform (s.calm_workPick _))) (.next .refl)
  · exact .next .refl

theorem State.kept_takeGauge (r : GaugeResult) : s.Kept (s.takeGauge r) := by
  unfold State.takeGauge
  split
  · exact .of_reform (s.calm_pickResult _ _ _)
  · exact .refl

theorem State.keptBy_purgeBegin : s.KeptBy (execPurgeBegin s) := .ite (.next (.of_same rfl rfl)) (.next .refl)

theorem State.keptBy_purgeCompletion (count : Nat) : s.KeptBy (execPurgeCompletion count s) :=
  .ite (.next (.of_reform (s.calm_endPurge count))) (.next .refl)

theorem State.keptBy_retractPromotion : s.KeptBy (execRetractPromotion s) := by
  unfold execRetractPromotion
  split
  · exact .ite (.next (.of_reform (s.calm_promote _))) (.next .refl)
  · exact .next .refl

theorem State.keptBy_retractGrant : s.KeptBy (execRetractGrant s) := by
  unfold execRetractGrant
  split
  · exact .next (.of_reform (.of_tables rfl))
  · exact .next .refl

theorem State.keptBy_deliveryGrant : s.KeptBy (execDeliveryGrant s) := by
  unfold execDeliveryGrant
  split
  · exact .next (.of_reform (s.calm_deliver _ _))
  · exact .next .refl

theorem State.keptBy_deliveryArrival : s.KeptBy (execDeliveryArrival s) := by
  unfold execDeliveryArrival
  split
  · exact .next (.of_reform (s.calm_arrive _ _))
  all_goals exact .next .refl

theorem State.keptBy_retractCompletion (count : Nat) : s.KeptBy (execRetractCompletion count s) := by
  unfold execRetractCompletion
  split
  · exact .next (.of_reform (s.calm_endRetract _ _ _ _))
  all_goals exact .next .refl

theorem State.keptBy_sweepBegin : s.KeptBy (execSweepBegin s) :=
  .ite (.next (.of_reform (.of_tables rfl))) (.next .refl)

theorem State.keptBy_sweepCompletion (count : Nat) : s.KeptBy (execSweepCompletion count s) :=
  .ite (.next (.of_reform (s.calm_endSweep count))) (.next .refl)

/-! ### Deposits -/

theorem State.keptBy_clearJam (ticket outcome : Nat) : s.KeptBy (execClearJam ticket outcome s) :=
  .request fun _ => .need fun _ => .need fun _ => .named fun _ _ => .named fun _ _ => .named fun _ _ => .need fun _ =>
    .ok (.of_reform (State.calm_clearedJam _ _ _ _))

theorem State.calm_setBin (s : State) (l : Lane) (count : Nat) :
    s.Calm ((s.putLane l { s.lane l with binCount := count, binVerified := true }).place .lane) := .of_tables rfl

theorem State.keptBy_binEmptied (lane teller : Nat) : s.KeptBy (execBinEmptied lane teller s) :=
  .request fun _ => .named fun l _ => .named fun _ _ => .need fun _ =>
    State.grants_approveDual (.of_reform (State.calm_setBin _ l 0))

theorem State.keptBy_binSet (lane count : Nat) : s.KeptBy (execBinSet lane count s) :=
  .request fun _ => .named fun l _ => .need fun _ => .need fun _ => .ok (.of_reform (State.calm_setBin _ l count))

theorem State.keptBy_intakeBegin (ticket : Nat) : s.KeptBy (execIntakeBegin ticket s) :=
  .request fun _ => .need fun _ => .need fun _ => .named fun _ _ => .named fun _ _ => .need fun _ => .need fun _ =>
    .need fun _ => .ok (.of_reform (State.calm_beginIntake _ _))

theorem State.keptBy_intakeFinish (ticket : Nat) : s.KeptBy (execIntakeFinish ticket s) :=
  .request fun _ => .need fun _ => .need fun _ => .named fun _ _ => .named fun _ _ => .need fun _ =>
    .ok (.of_reform (State.calm_finishIntake _ _))

theorem State.keptBy_escrowEvent (code : Option Code) : s.KeptBy (execEscrowEvent code s) := by
  unfold execEscrowEvent
  split
  · exact .next (.of_reform (.of_tables rfl))
  · exact .next (.of_reform (s.calm_decideNote _))
  all_goals exact .next .refl

theorem State.keptBy_notePlaced : s.KeptBy (execNotePlaced s) := by
  unfold execNotePlaced
  split
  · split
    · exact .next (.of_reform (s.calm_notePlaced _ _ _))
    · exact .next .refl
  · exact .ite (.next (.of_reform s.calm_strayPlaced)) (.next .refl)
  · exact .ite (.next (.of_reform s.calm_strayPlaced)) (.next .refl)
  all_goals exact .next .refl

/-! ### The Lane Ring -/

theorem State.keptBy_syncSlot (heard : RingWord) : s.KeptBy (execSyncSlot heard s) :=
  .next (.of_reform (State.calm_applyLaneCount _).after)

theorem State.keptBy_laneSlot (l : Lane) (heard : RingWord) (reply : Reply) : s.KeptBy (execLaneSlot l heard reply s) := by
  unfold execLaneSlot
  split
  · have after (u : State) (ltx : Option RingWord) (h : s.Kept u) : s.Kept { u with ring := { u.ring with ltx } } :=
      h.trans (.of_same rfl rfl)
    exact .next (after _ _ (State.kept_putLane rfl rfl))
  · exact .ite (.next (.of_same rfl rfl)) (.next .refl)

theorem State.keptBy_lostLaneTimerExpiry (l : Lane) : s.KeptBy (execLostLaneTimerExpiry l s) :=
  .ite (.next (.of_reform (s.calm_lostExpired l))) (.next .refl)

theorem State.keptBy_resolve (ticket delivered teller : Nat) : s.KeptBy (execResolve ticket delivered teller s) :=
  .request fun s => .need fun _ => .named fun _ _ => .need fun _ => .named fun _ _ => .named fun _ hd => .need fun hst =>
    .need fun _ => .need fun _ => State.grants_approveDual
      (.of_reform (State.calm_resolve (s := s.dropApproval (.resolve ticket)) hd (of_decide_eq_true hst)))

theorem State.keptBy_laneRestart (lane : Nat) : s.KeptBy (execLaneRestart lane s) :=
  .request fun s => .named fun _ _ => .need fun _ => .ok (.of_reform ((State.calm_hand _ _ _).since (s.calm_changeLane _ _)))

/-! ### Alarms, count points and configuration -/

theorem State.keptBy_alarmAck (source : Nat) : s.KeptBy (execAlarmAck source s) :=
  .request fun s => .need fun _ => .named fun _ _ => .need fun _ => .ok (.of_reform (s.calm_acknowledge _))

theorem State.keptBy_resume : s.KeptBy (execResume s) :=
  .request fun _ => .need fun _ => .need fun _ => .ok (.of_reform (.of_tables rfl))

theorem State.keptBy_countPoint : s.KeptBy (execCountPoint s) :=
  .request fun s => .need fun _ => .ok (.of_reform (s.calm_requestCount _ _))

theorem State.keptBy_quietFound : s.KeptBy (execQuietFound s) := .ite (.next (.of_reform s.calm_enterBalancing)) (.next .refl)

theorem State.keptBy_quiesceTimerExpiry : s.KeptBy (execQuiesceTimerExpiry s) :=
  .ite (.next (.of_reform s.calm_timeOutCount)) (.next .refl)

theorem State.keptBy_configure (items : List ConfigItem) : s.KeptBy (execConfigure items s) := by
  refine .request fun s => .need fun _ => ?_
  split
  · exact .error
  · exact .ok (.of_reform (s.calm_configured items))

/-- Right after reset the tables are in order, and the pick queue and the ticket table are empty. -/
theorem State.keeps_of_reset (h : State.reset.Calm t) : s.Keeps t := by
  have tables : State.reset.tablesOrdered := by unfold State.tablesOrdered; decide
  have queue : State.reset.queueRight := State.queueRight_iff.2 ⟨List.nodup_nil, fun n => by
    simp [State.reset, State.queuedAt, State.ticket, findByKey]⟩
  have lanes : State.reset.lanesHeldOnce := fun l => by simp [State.reset]
  exact ⟨fun _ => h.keeps.tables tables, fun _ _ => h.keeps.queue tables queue, fun _ _ => h.keeps.lanes tables lanes⟩

theorem State.keptBy_fullReset (prsA prsB prsC prsD rejectPresent intakePresent : Bool) :
    s.KeptBy (execFullReset prsA prsB prsC prsD rejectPresent intakePresent s) := by
  refine .next ⟨fun _ => State.formed_of_view (s := State.afterReset prsA prsB prsC prsD rejectPresent intakePresent) rfl
    State.formed_reform, State.keeps_of_reset (.trans (t := State.afterReset ..) ?_ (.of_tables rfl))⟩
  refine (State.calm_reform _).since ((State.calm_seePosition _ _ _).since ((State.calm_seePosition _ _ _).since
    ((State.calm_seePosition _ _ _).since ((State.calm_seePosition _ _ _).since ?_))))
  exact (State.calm_handVaults _).after

/-! ### Every command, and every step -/

/-- Every command keeps the formed values, the order of the tables, the pick queue and the lanes. -/
theorem State.keptBy_exec (i : Instr) (s : State) : s.KeptBy (exec i s) := by
  cases i with
  | fullReset => exact State.keptBy_fullReset _ _ _ _ _ _
  | requestFrameBegin => exact .next s.kept_beginFrame
  | frameWhileActing => exact .next (.of_same rfl rfl)
  | badFrame => exact State.keptBy_badFrame _ _
  | responseRead => exact State.keptBy_responseRead _
  | alarmAck => exact State.keptBy_alarmAck _
  | alarmList => exact .request fun _ => .need fun _ => .ok .refl
  | amend => exact State.keptBy_amend _ _ _ _
  | approve => exact State.keptBy_approve _ _
  | balanceRead => exact .request fun _ => .ok .refl
  | binEmptied => exact State.keptBy_binEmptied _ _
  | binSet => exact State.keptBy_binSet _ _
  | clearJam => exact State.keptBy_clearJam _ _
  | configRead => exact .request fun _ => .ok .refl
  | configure => exact State.keptBy_configure _
  | countPoint => exact State.keptBy_countPoint
  | enterSetup => exact State.keptBy_enterSetup
  | identify => exact .request fun _ => .ok .refl
  | intakeBegin => exact State.keptBy_intakeBegin _
  | intakeFinish => exact State.keptBy_intakeFinish _
  | laneQuery => exact .request fun _ => .named fun _ _ => .ok .refl
  | laneRestart => exact State.keptBy_laneRestart _
  | list => exact .request fun _ => .need fun _ => .ok .refl
  | lookup => exact .request fun _ => .need fun _ => .named fun _ _ => .ok .refl
  | openDispense => exact State.keptBy_openDispense _ _ _ _
  | openEnvelope => exact State.keptBy_openEnvelope _ _
  | openIntake => exact State.keptBy_openIntake _ _
  | positionQuery => exact .request fun _ => .named fun _ _ => .ok .refl
  | positionReinstate => exact State.keptBy_positionReinstate _
  | positionRelease => exact State.keptBy_positionRelease _ _
  | readAttention => exact State.keptBy_readAttention
  | resolve => exact State.keptBy_resolve _ _ _
  | resume => exact State.keptBy_resume
  | settle => exact State.keptBy_settle _
  | startWall => exact State.keptBy_startWall
  | vaultEmptied => exact State.keptBy_vaultEmptied _ _
  | void => exact State.keptBy_void _
  | dualApprovalExpiry => exact State.keptBy_dualApprovalExpiry _
  | approvalWindowExpiry => exact State.keptBy_approvalWindowExpiry _
  | takeTimerExpiry => exact State.keptBy_takeTimerExpiry _
  | lostLaneTimerExpiry => exact State.keptBy_lostLaneTimerExpiry _
  | quiesceTimerExpiry => exact State.keptBy_quiesceTimerExpiry
  | ticketSelection => exact State.keptBy_ticketSelection
  | pickerResume => exact State.keptBy_pickerResume
  | gaugeResult => exact .next (State.kept_takeGauge _)
  | pickMissTimeout => exact .next (State.kept_takeGauge _)
  | purgeBegin => exact State.keptBy_purgeBegin
  | purgeCompletion => exact State.keptBy_purgeCompletion _
  | retractPromotion => exact State.keptBy_retractPromotion
  | deliveryGrant => exact State.keptBy_deliveryGrant
  | deliveryArrival => exact State.keptBy_deliveryArrival
  | retractGrant => exact State.keptBy_retractGrant
  | retractCompletion => exact State.keptBy_retractCompletion _
  | sweepBegin => exact State.keptBy_sweepBegin
  | sweepCompletion => exact State.keptBy_sweepCompletion _
  | quietFound => exact State.keptBy_quietFound
  | cassetteInsertion => exact State.keptBy_cassetteInsertion _
  | cassetteRemoval => exact State.keptBy_cassetteRemoval _
  | identityReadEnd => exact State.keptBy_identityReadEnd _
  | tagWriteEnd => exact State.keptBy_tagWriteEnd _
  | vaultPresenceChange => exact State.keptBy_vaultPresenceChange _ _
  | escrowEvent => exact State.keptBy_escrowEvent _
  | notePlaced => exact State.keptBy_notePlaced
  | inputSample => exact .next (.of_reform (s.calm_sample _))
  | syncSlot => exact State.keptBy_syncSlot _
  | laneSlot => exact State.keptBy_laneSlot _ _ _
  | frameEnd => exact .next (.of_reform s.calm_endFrame)

/-- A second on the clock changes nothing that the values are formed from. -/
theorem State.formView_tick (s : State) : s.tick.formView = s.formView := by
  have inputs (l : Lane) : (s.tick.lane l).inputs = (s.lane l).inputs := by cases l <;> rfl
  have values (l : Lane) : (s.tick.lane l).values = (s.lane l).values := by cases l <;> rfl
  have committed (p : Pos) : (s.tick.slot p).committed = (s.slot p).committed := by cases p <;> rfl
  have ticket (n : Nat) : s.tick.ticket n = (s.ticket n).map Ticket.tick :=
    findByKey_map (fun t => t.tick_keeps.1) n s.tickets
  have lost (n : Nat) : s.tick.laneLost n = s.laneLost n := by
    simp only [State.laneLost, State.dispense, ticket]
    rcases s.ticket n with _ | ⟨_, _, _, _, _, body⟩
    · rfl
    · cases body <;> rfl
  have notes (p : Pos) : (Ticket.committedAt p) ∘ Ticket.tick = Ticket.committedAt p := by
    funext ⟨_, _, _, _, _, body⟩; cases body <;> rfl
  have awaits (l : Lane) : (Ticket.awaitsEnvelope l) ∘ Ticket.tick = Ticket.awaitsEnvelope l := by
    funext ⟨_, _, _, _, _, body⟩; cases body <;> rfl
  have collects (l : Lane) : (Ticket.collectsAt l) ∘ Ticket.tick = Ticket.collectsAt l := by
    funext ⟨_, _, _, _, _, body⟩; cases body <;> rfl
  simp only [State.formView, FormView.mk.injEq, funext_iff]
  refine ⟨inputs, values, committed, fun p => ?_, fun l => ?_, fun l => ?_, lost, ?_, rfl, rfl, rfl, rfl, rfl, rfl⟩
  · simp only [State.committedAt, State.tick_tickets, List.map_map, notes]
  · simp only [State.awaitsEnvelope, State.tick_tickets, List.any_map, awaits]
  · simp only [State.tick_tickets, List.any_map, collects]
  · simp only [State.hasFreeEntry, State.tick_tickets, List.length_map]

/-- Every step keeps the formed values, the order of the tables, the pick queue and the lanes. -/
theorem State.kept_step (h : step s = .next t) : s.Kept t := by
  unfold step at h
  split at h
  · rename_i i rest hp
    have taken : s.Kept { s with pending := rest } := .of_same rfl rfl
    exact taken.trans (State.keptBy_exec i _ t h)
  · cases h
    exact .of_calm s.calm_tick s.formView_tick

/-- Settles O54: a command either forms the values anew or changes nothing that they are formed from. -/
theorem stepKeepsTheFormedValues : Obligations.StepKeepsTheFormedValues :=
  fun _ _ hs h => (State.kept_step h).formed hs

/-- Settles O55. -/
theorem stepKeepsTheTablesOrdered : Obligations.StepKeepsTheTablesOrdered :=
  fun _ _ hs h => (State.kept_step h).keeps.tables hs

/-- Settles O56. -/
theorem stepKeepsTheQueueAndTheLanes : Obligations.StepKeepsTheQueueAndTheLanes :=
  ⟨fun _ _ hs hq h => (State.kept_step h).keeps.queue hs hq, fun _ _ hs hl h => (State.kept_step h).keeps.lanes hs hl⟩

end Sys2Proof.Machine
end

section
/-! PROOFS. What a request yields by its checks and its effect, and the reading requests (R30, R31, R61, R140, R150, R172, R180). -/

namespace Sys2Proof.Machine

variable {s : State}

/-! ### Requests by their checks -/

/-- What a request yields by the result of its checks and its effect (R174, R176). -/
def State.respond (s : State) : Except Status (State × List Byte) → Host.Outcome State Fault Refusal
  | .ok (t, payload) => t.answeredOk payload
  | .error e => s.refusedWith e

/-- A request whose frame has begun responds by its own checks and effect. -/
theorem State.answer_respond (h : s.frameBegun) (act : State → Except Status (State × List Byte)) :
    Host.Outcome.next (s.answer act) = s.respond (act s) := by
  unfold State.answer
  rw [State.takeFrame_of_begun h]
  rcases act s with e | ⟨t, payload⟩ <;> rfl

section Respond
variable {e : Status} {α : Type}

@[simp] theorem State.respond_ok (t : State) (payload : List Byte) : s.respond (.ok (t, payload)) = t.answeredOk payload := rfl

@[simp] theorem State.respond_error : s.respond (.error e) = s.refusedWith e := rfl

@[simp] theorem State.respond_need (c : Bool) (k : Except Status (State × List Byte)) :
    s.respond (need c e k) = if c then s.respond k else s.refusedWith e := by cases c <;> rfl

@[simp] theorem State.respond_named (x : Option α) (k : α → Except Status (State × List Byte)) :
    s.respond (named x e k) = x.elim (s.refusedWith e) fun a => s.respond (k a) := by cases x <;> rfl

end Respond

/-- A ticket number in its range (R5 step 2). -/
theorem numberInRange_iff {n : Nat} : numberInRange n = true ↔ ¬ (n = 0 ∨ 9999 < n) := by
  unfold numberInRange Config.maxNumber
  rw [decide_eq_true_iff]
  omega

/-- The check of a ticket number (R5 step 2). -/
theorem State.respond_numberInRange {e : Status} (n : Nat) (k : Except Status (State × List Byte)) :
    s.respond (need (numberInRange n) e k) = if n = 0 ∨ 9999 < n then s.refusedWith e else s.respond k := by
  rw [State.respond_need]
  by_cases h : n = 0 ∨ 9999 < n
  · rw [if_pos h, if_neg fun h' => numberInRange_iff.1 h' h]
  · rw [if_neg h, if_pos (numberInRange_iff.2 h)]

/-! ### The readings -/

theorem State.exec_lookup (h : s.frameBegun) (n : Nat) :
    exec (.lookup n) s =
      (if n = 0 ∨ 9999 < n then s.refusedWith .range
       else match s.ticket n with
         | none => s.refusedWith .notFound
         | some t => s.answeredOk (s.lookupBytes t)) := by
  refine (State.answer_respond h _).trans ?_
  rw [State.respond_numberInRange]
  split
  · rfl
  · cases s.ticket n <;> rfl

theorem State.exec_laneQuery (h : s.frameBegun) (n : Nat) :
    exec (.laneQuery n) s =
      (match Lane.ofNat? n with
       | none => s.refusedWith .range
       | some l => s.answeredOk (s.laneBytes l)) := by
  refine (State.answer_respond h _).trans ?_
  cases Lane.ofNat? n <;> rfl

theorem State.exec_positionQuery (h : s.frameBegun) (n : Nat) :
    exec (.positionQuery n) s =
      (match Pos.ofNat? n with
       | some p => s.answeredOk (s.positionBytes p)
       | none =>
         if n = 5 then s.answeredOk (s.rejectVault.bytes ++ beBytes 2 s.rejectVault.room)
         else if n = 6 then s.answeredOk s.intakeVault.bytes
         else s.refusedWith .range) := by
  refine (State.answer_respond h _).trans ?_
  rw [State.respond_named]
  unfold State.targetBytes
  split
  · rfl
  · rfl
  · rename_i h5 h6
    cases Pos.ofNat? n with
    | some p => rfl
    | none => rw [if_neg h5, if_neg h6]; rfl

/-- Settles O9. -/
theorem readingsChangeNoRecord : Obligations.ReadingsChangeNoRecord := by
  refine ⟨fun s h => ⟨?_, ?_, ?_⟩, fun n s h => ⟨State.exec_lookup h n, ?_, ?_, State.exec_laneQuery h n,
    State.exec_positionQuery h n⟩⟩
  · exact State.answer_respond h _
  · exact State.answer_respond h _
  · exact State.answer_respond h _
  · exact (State.answer_respond h _).trans (State.respond_numberInRange n _)
  · refine (State.answer_respond h _).trans ?_
    by_cases hn : 22 < n <;> simp [hn]

end Sys2Proof.Machine
end

section
/-! PROOFS. The arguments of the ticket requests and the plans they ask (R5, R6, R18), and the requests that open or approve a
ticket (R6 to R9, R12). -/

namespace Sys2Proof.Machine

variable {s : State}

/-! ### The ranges of step 2 of R5 -/

theorem Teller.ofNat?_range {n : Nat} {who : Teller} (h : Teller.ofNat? n = some who) : 1 ≤ n ∧ n ≤ 2 := by
  unfold Teller.ofNat? at h
  split at h
  · decide
  · decide
  · cases h

theorem Pos.ofNat?_range {n : Nat} {p : Pos} (h : Pos.ofNat? n = some p) : 1 ≤ n ∧ n ≤ 4 := by
  unfold Pos.ofNat? at h
  split at h <;> first | decide | cases h

theorem State.namedLane_range {n : Nat} {l : Lane} (h : s.namedLane n = some l) : 1 ≤ n ∧ n ≤ s.params.laneCount := by
  unfold State.namedLane at h
  split at h
  · refine ⟨Nat.one_le_iff_ne_zero.2 ?_, by assumption⟩
    rintro rfl
    cases h
  · cases h

theorem amountInRange_iff {n : Nat} : amountInRange n = true ↔ 1 ≤ n ∧ n ≤ 999999 := decide_eq_true_iff

/-- A segment in its ranges. -/
def inRange (g : SegmentArg) : Prop := 1 ≤ g.position ∧ g.position ≤ 4 ∧ 1 ≤ g.notes ∧ g.notes ≤ 200

theorem askOf_some {g : SegmentArg} {x : Ask} (h : askOf g = some x) : inRange g ∧ x.notes = g.notes := by
  unfold askOf at h
  split at h
  · rename_i p hp
    split at h
    · rename_i hn
      cases h
      obtain ⟨h1, h4⟩ := Pos.ofNat?_range hp
      exact ⟨⟨h1, h4, hn.1, hn.2⟩, rfl⟩
    · cases h
  · cases h

theorem asksOf_some {segs : List SegmentArg} {asks : List Ask} (h : asksOf segs = some asks) :
    (∀ g ∈ segs, inRange g) ∧ asks.map Ask.notes = segs.map SegmentArg.notes := by
  induction segs generalizing asks with
  | nil => cases h; simp
  | cons g gs ih =>
    unfold asksOf at h
    split at h
    · rename_i x xs hx hxs
      cases h
      obtain ⟨hg, hn⟩ := askOf_some hx
      obtain ⟨hgs, hns⟩ := ih hxs
      exact ⟨by simpa using ⟨hg, hgs⟩, by simp [hn, hns]⟩
    · cases h

theorem namedSegments_some {segs : List SegmentArg} {asks : List Ask} (h : namedSegments segs = some asks) :
    1 ≤ segs.length ∧ segs.length ≤ 4 ∧ (∀ g ∈ segs, inRange g) ∧ (segs.map SegmentArg.notes).sum ≤ 200 := by
  unfold namedSegments at h
  split at h
  · rename_i hlen
    split at h
    · rename_i asks' ha
      split at h
      · rename_i hsum
        obtain ⟨hg, hn⟩ := asksOf_some ha
        exact ⟨hlen.1, hlen.2, hg, by rw [← hn]; exact hsum⟩
      · cases h
    · cases h
  · cases h

/-! ### Plans (R3, R18) -/

/-- The notes some asks want at a position. -/
abbrev wantedAt (p : Pos) (asks : List Ask) : Nat := (asks.map fun x => if x.position = p then x.notes else 0).sum

theorem asksAt_newSegments (p : Pos) (asks : List Ask) : asksAt p (s.newSegments asks) = wantedAt p asks := by
  unfold asksAt State.newSegments
  rw [List.map_map]
  rfl

theorem planValue_newSegments (asks : List Ask) :
    planValue (s.newSegments asks) = (asks.map fun x => x.notes * s.noteValueAt x.position).sum := by
  unfold planValue State.newSegments
  rw [List.map_map]
  rfl

theorem State.allInService_newSegments {asks : List Ask} :
    s.allInService (s.newSegments asks) = true ↔ ∀ x ∈ asks, (s.slot x.position).state = .inService := by
  unfold State.allInService State.newSegments
  simp only [List.all_eq_true, decide_eq_true_eq, List.forall_mem_map]
  rfl

/-- Notes are wanted only at the positions that are named. -/
theorem mem_of_wantedAt {p : Pos} {asks : List Ask} (h : 0 < wantedAt p asks) : ∃ x ∈ asks, x.position = p := by
  by_contra hno
  have hz : wantedAt p asks = 0 := List.sum_eq_zero fun n hn => by
    obtain ⟨x, hx, rfl⟩ := List.mem_map.1 hn
    rw [if_neg fun hp => hno ⟨x, hx, hp⟩]
  omega

/-- The availability test of segments whose positions are all IN_SERVICE (R18). -/
theorem State.availableFor_newSegments {asks : List Ask} (own : List Segment)
    (h : ∀ x ∈ asks, (s.slot x.position).state = .inService) :
    s.availableFor own (s.newSegments asks) = true ↔
      ∀ x ∈ asks, wantedAt x.position asks
        ≤ (s.slot x.position).count - ((s.slot x.position).committed - unpickedAt x.position own) := by
  have avail (x : Ask) (hx : x ∈ asks) (own : Nat) : (s.slot x.position).available own
      = (s.slot x.position).count - ((s.slot x.position).committed - own) := by
    unfold Slot.available; rw [if_pos (h x hx)]
  unfold State.availableFor
  simp only [asksAt_newSegments, List.all_eq_true, decide_eq_true_eq]
  constructor
  · intro hall x hx
    rw [← avail x hx]
    exact hall (s.newSegment x) (List.mem_map_of_mem hx)
  · intro hall g hg
    obtain ⟨x, hx, rfl⟩ := List.mem_map.1 hg
    exact (hall x hx).trans_eq (avail x hx _).symm

theorem State.dualNeeded_eq (amount : Nat) :
    s.dualNeeded amount = decide (s.params.dualLimit ≠ 0 ∧ s.params.dualLimit < amount) := by
  simp [State.dualNeeded]

/-- The answer of a ticket request that leaves the ticket in the table. -/
theorem State.ticketDone_held {t : Ticket} (h : s.ticket t.number = some t) :
    s.ticketDone t.number = (s.reform, beBytes 2 t.number ++ beBytes 1 t.stateCode) := by
  have hr : s.reform.ticket t.number = some t := h
  simp [State.ticketDone, ticketAnswer, hr]

/-- What a request responds that leaves a ticket in the table. -/
theorem State.respond_ticketDone {u : State} {t : Ticket} (h : u.ticket t.number = some t) :
    s.respond (.ok (u.ticketDone t.number)) = u.reform.answeredOk (beBytes 2 t.number ++ beBytes 1 t.stateCode) := by
  rw [State.ticketDone_held h, State.respond_ok]

/-! ### OPEN DISPENSE (R5 to R7) -/

section OpenDispense
variable {teller lane amount : Nat} {segs : List SegmentArg} {who : Teller} {l : Lane} {asks : List Ask}

/-- Arguments that do not all name something in their ranges are refused with RANGE. -/
theorem State.exec_openDispense_range (h : s.frameBegun) (hs : s.wall.service = true)
    (hbad : Teller.ofNat? teller = none ∨ s.namedLane lane = none ∨ amountInRange amount = false ∨ namedSegments segs = none) :
    exec (.openDispense teller lane amount segs) s = s.refusedWith .range := by
  refine (State.answer_respond h _).trans ?_
  simp only [State.respond_need, State.respond_named, hs, if_true]
  rcases hw : Teller.ofNat? teller with _ | who
  · rfl
  rcases hl : s.namedLane lane with _ | l
  · rfl
  cases ha : amountInRange amount
  · rfl
  rcases hg : namedSegments segs with _ | asks
  · rfl
  simp_all

/-- The checks that follow those of the ranges. -/
theorem State.exec_openDispense_named (h : s.frameBegun) (hs : s.wall.service = true) (hw : Teller.ofNat? teller = some who)
    (hl : s.namedLane lane = some l) (ha : amountInRange amount = true) (hg : namedSegments segs = some asks) :
    exec (.openDispense teller lane amount segs) s =
      s.respond
        (need s.hasFreeEntry .tableFull <|
          need (s.allInService (s.newSegments asks)) .unavailable <|
          need (decide (planValue (s.newSegments asks) = amount)) .valueMismatch <|
          need (s.availableFor [] (s.newSegments asks)) .short <|
          .ok ((s.openDispenseTicket who l amount (s.newSegments asks)).ticketDone s.issueNumber)) := by
  refine (State.answer_respond h _).trans ?_
  simp only [hs, hw, hl, ha, hg, need_true, named_some]

/-- The record of a DISPENSE ticket opened, as R6 and R7 leave it. -/
def State.openedDispense (s : State) (who : Teller) (l : Lane) (amount : Nat) (plan : List Segment) : Ticket :=
  { number := s.issueNumber, lane := l, opener := some who, openStamp := s.nextStamp, mark := s.markNow who ⟨false, false⟩,
    body := .dispense
      { s.newDispense who amount plan with
        queueStamp := if s.dualNeeded amount then none else some (s.nextStamp + 1) } }

/-- The ticket waits for its second approval, or stands at the tail of the pick queue. -/
theorem State.openDispenseTicket_enters (who : Teller) (l : Lane) (amount : Nat) (plan : List Segment) :
    s.openDispenseTicket who l amount plan =
      { s.ticketEnters (s.openedDispense who l amount plan) with
        nextNumber := if s.issueNumber < 9999 then s.issueNumber + 1 else 1,
        nextStamp := if s.dualNeeded amount then s.nextStamp + 1 else s.nextStamp + 2,
        pickQueue := if s.dualNeeded amount then s.pickQueue else s.pickQueue ++ [s.issueNumber] } := by
  unfold State.openDispenseTicket State.openFor State.openedDispense
  dsimp only
  cases s.dualNeeded amount
  · exact State.openTicket_joinQueue _ _ _ _
  · exact State.openTicket_enters _ _ _

theorem State.ticket_openDispenseTicket (who : Teller) (l : Lane) (amount : Nat) (plan : List Segment) :
    (s.openDispenseTicket who l amount plan).ticket s.issueNumber = some (s.openedDispense who l amount plan) := by
  rw [State.openDispenseTicket_enters]
  exact State.ticket_ticketEnters_self (t := s.openedDispense who l amount plan)

theorem State.stateCode_openedDispense (who : Teller) (l : Lane) (amount : Nat) (plan : List Segment) :
    (s.openedDispense who l amount plan).stateCode = if s.dualNeeded amount then 0x01 else 0x02 := by
  unfold State.openedDispense State.newDispense Ticket.stateCode
  cases s.dualNeeded amount <;> rfl

end OpenDispense

/-- Settles O12. -/
theorem openDispenseChecksAndOpens : Obligations.OpenDispenseChecksAndOpens := by
  constructor
  · intro teller lane amount segs s h
    refine ⟨fun hs => ?_, fun hs hbad => State.exec_openDispense_range h hs ?_, ?_⟩
    · refine (State.answer_respond h _).trans ?_
      simp only [hs, need_false, State.respond_error]
    · by_contra hgood
      simp only [not_or, ← ne_eq, Option.ne_none_iff_exists', Bool.not_eq_false] at hgood
      obtain ⟨⟨who, hw⟩, ⟨l, hl⟩, ha, asks, hg⟩ := hgood
      have := Teller.ofNat?_range hw
      have := State.namedLane_range hl
      have := amountInRange_iff.1 ha
      obtain ⟨h1, h4, hin, hsum⟩ := namedSegments_some hg
      have hne : segs ≠ [] := List.ne_nil_of_length_pos h1
      have hseg : ¬ ∃ g ∈ segs, g.position = 0 ∨ 4 < g.position ∨ g.notes = 0 ∨ 200 < g.notes := by
        rintro ⟨g, hg, hout⟩
        obtain ⟨a, b, c, d⟩ := hin g hg
        omega
      simp only [hne, hseg, false_or] at hbad
      omega
    · intro who l asks hs hw hl h1 h2 hg
      rw [State.exec_openDispense_named h hs hw hl (amountInRange_iff.2 ⟨h1, h2⟩) hg]
      refine ⟨fun hfree => ?_, fun hfree hout => ?_, fun hfree hin => ⟨fun hv => ?_, fun hv hshort => ?_⟩⟩
      · rw [hfree]; rfl
      · have hout' : s.allInService (s.newSegments asks) = false := by
          rw [← Bool.not_eq_true, State.allInService_newSegments]; simpa using hout
        rw [hfree, hout']; rfl
      all_goals have hin' := State.allInService_newSegments.2 hin
      · simp [hfree, hin', planValue_newSegments, hv]
      · obtain ⟨p, -, hp⟩ := hshort
        obtain ⟨x, hx, rfl⟩ := mem_of_wantedAt (Nat.zero_lt_of_lt hp)
        have hshort : s.availableFor [] (s.newSegments asks) = false := by
          rw [← Bool.not_eq_true, State.availableFor_newSegments [] hin]
          exact fun hall => absurd (hall x hx) (by simpa [unpickedAt] using hp)
        simp [hfree, hin', planValue_newSegments, hv, hshort]
  · intro teller lane amount segs who l asks s h hs hw hl h1 h2 hg hfree hin hv hp
    have havail : s.availableFor [] (s.newSegments asks) = true :=
      (State.availableFor_newSegments [] hin).2 fun x _ => by simpa [unpickedAt] using hp x.position
    rw [State.exec_openDispense_named h hs hw hl (amountInRange_iff.2 ⟨h1, h2⟩) hg]
    rw [hfree, State.allInService_newSegments.2 hin, planValue_newSegments, decide_eq_true hv, havail]
    simp only [need_true]
    have held := State.ticket_openDispenseTicket (s := s) who l amount (s.newSegments asks)
    refine (State.respond_ticketDone (t := s.openedDispense who l amount (s.newSegments asks)) held).trans ?_
    rw [State.stateCode_openedDispense, State.openDispenseTicket_enters]
    unfold State.openedDispense State.newDispense
    rw [State.dualNeeded_eq]
    rfl

/-! ### OPEN ENVELOPE and OPEN INTAKE (R8, R9) -/

section OpenFor
variable {teller lane : Nat}

/-- What OPEN ENVELOPE and OPEN INTAKE respond, by the body of the ticket they open. -/
theorem State.respond_openFor (h : s.frameBegun) {b : TicketBody} {code : Nat}
    (hb : ∀ t : Ticket, t.body = b → t.stateCode = code) {i : Instr}
    (hi : exec i s = .next (s.answer fun t =>
      need t.wall.service .notInService <|
      named (Teller.ofNat? teller) .range fun who =>
      named (t.namedLane lane) .range fun l =>
      need t.hasFreeEntry .tableFull <|
      .ok ((t.openFor who l b).ticketDone t.issueNumber))) :
    exec i s =
      if ¬ s.wall.service then s.refusedWith .notInService
      else
        match Teller.ofNat? teller, s.namedLane lane with
        | some who, some l =>
          if 32 ≤ s.tickets.length then s.refusedWith .tableFull
          else (s.openFor who l b).reform.answeredOk (beBytes 2 s.issueNumber ++ beBytes 1 code)
        | _, _ => s.refusedWith .range := by
  rw [hi, State.answer_respond h]
  cases hs : s.wall.service
  · rfl
  rcases Teller.ofNat? teller with _ | who
  · rfl
  rcases s.namedLane lane with _ | l
  · rfl
  simp only [need_true, named_some, State.respond_need, not_true_eq_false, if_false]
  by_cases hfull : 32 ≤ s.tickets.length
  · have hfree : ¬ s.hasFreeEntry = true := by rw [State.hasFreeEntry_iff]; omega
    rw [if_pos hfull, if_neg hfree]
  · have hfree : s.hasFreeEntry = true := by rw [State.hasFreeEntry_iff]; omega
    rw [if_neg hfull, if_pos hfree]
    let t : Ticket :=
      { number := s.issueNumber, lane := l, opener := some who, openStamp := s.nextStamp,
        mark := s.markNow who ⟨false, false⟩, body := b }
    have held : (s.openFor who l b).ticket t.number = some t := State.ticket_ticketEnters_self (t := t)
    rw [← hb t rfl]
    exact State.respond_ticketDone held

end OpenFor

/-! ### APPROVE (R12) -/

/-- APPROVE of a held DISPENSE ticket that waits for its second approval. -/
theorem State.respond_approve {t : Ticket} (ht : s.ticket t.number = some t) (who : Teller) (e : Dispense) :
    s.respond (.ok ((((s.markTicket t.number who).move t.number (.dispense e)).joinQueue t.number).ticketDone t.number)) =
      State.answeredOk
        (State.reform
          { s.ticketEnters { t with mark := s.markNow who t.mark,
                                    body := .dispense { e with queueStamp := some s.nextStamp } } with
            pickQueue := s.pickQueue ++ [t.number], nextStamp := s.nextStamp + 1 })
        (beBytes 2 t.number ++ beBytes 1 e.state.code) := by
  rw [State.markTicket_move_joinQueue ht]
  exact State.respond_ticketDone
    (t := { t with mark := s.markNow who t.mark, body := .dispense { e with queueStamp := some s.nextStamp } })
    State.ticket_ticketEnters_self

/-- Settles O13. -/
theorem openEnvelopeIntakeAndApprove : Obligations.OpenEnvelopeIntakeAndApprove := by
  constructor
  · intro teller lane s h
    refine ⟨(State.respond_openFor h (code := 0x10) ?_ rfl).trans rfl, (State.respond_openFor h (code := 0x18) ?_ rfl).trans rfl⟩
    all_goals intro t ht; simp only [Ticket.stateCode, ht]; rfl
  · intro n teller s h
    refine (State.answer_respond h _).trans ?_
    cases hs : s.wall.service
    · rfl
    simp only [need_true, State.respond_numberInRange, not_true_eq_false, if_false]
    split
    · rfl
    rcases Teller.ofNat? teller with _ | who
    · rfl
    rcases ht : s.ticket n with _ | t
    · rfl
    obtain rfl := (State.ticket_some ht).2
    rcases hb : t.body with d | e | k
    · simp only [named_some, hb, State.respond_need, decide_eq_true_eq]
      by_cases hd : d.state = .awaitingSecond
      · rw [if_pos hd, if_neg (not_not.2 hd)]
        by_cases hwho : who = d.first
        · rw [if_neg (not_not.2 hwho), if_pos hwho]
        · rw [if_pos hwho, if_neg hwho]
          exact State.respond_approve ht who _
      · rw [if_neg hd, if_pos hd]
    · simp only [named_some, hb, State.respond_error]
    · simp only [named_some, hb, State.respond_error]

end Sys2Proof.Machine
end

section
/-! PROOFS. The timers of tickets and approvals (R13, R29, R177), VOID (R25 to R27), SETTLE (R28) and selection (R21). -/

namespace Sys2Proof.Machine

variable {s : State} {t : Ticket} {d : Dispense}

/-! ### Held tickets -/

theorem State.dispense_of_holds (h : s.holdsDispense t d) : s.dispense t.number = some d :=
  State.dispense_some.2 ⟨t, h⟩

/-- A request that names a held ticket by its number in range. -/
theorem State.respond_ticketNumber (hs : s.wall.service = true) (h1 : 1 ≤ t.number) (h2 : t.number ≤ 9999)
    (ht : s.ticket t.number = some t) (k : Ticket → Except Status (State × List Byte)) :
    s.respond (need s.wall.service .notInService <| need (numberInRange t.number) .range <|
      named (s.ticket t.number) .notFound k) = s.respond (k t) := by
  rw [hs, numberInRange_iff.2 (by omega), ht]
  rfl

/-- Close asked on a lane, as its presentation stands (R87). -/
theorem State.askClose_some {l : Lane} {p : Presentation} (h : s.presentations.get l = some p) :
    s.askClose l = { s with presentations := s.presentations.set l (some { p with closeAsked := true }) } := by
  unfold State.askClose
  rw [h]
  rfl

theorem State.askClose_none {l : Lane} (h : s.presentations.get l = none) : s.askClose l = s := by
  unfold State.askClose
  rw [h]

/-! ### Timers -/

/-- The take timer's expiry at a held DISPENSE ticket (R29, R87). -/
theorem State.takeExpired_held (h : s.holdsDispense t d) (hd : d.takeDeadline = true) :
    s.takeExpired t.number =
      (s.putTicket { t with body := .dispense { d with deadline := some ⟨.take, 0⟩ } }).askClose t.lane := by
  obtain ⟨ht, hb⟩ := h
  obtain ⟨number, lane, opener, stamp, mark, body⟩ := t
  dsimp only at hb ht ⊢
  subst hb
  unfold State.takeExpired
  rw [ht]
  dsimp only
  rw [if_pos hd, State.rewrite_held (t := ⟨number, lane, opener, stamp, mark, .dispense d⟩) ht]

/-- Settles O15. -/
theorem timersOfTicketsAndApprovalsRunOut : Obligations.TimersOfTicketsAndApprovalsRunOut := by
  refine ⟨fun t d s h hd => ?_, fun t d x p s h hd hx hk hp => ?_, fun s => ⟨?_, ?_, ?_, ?_⟩⟩
  · show Host.Outcome.next _ = _
    rw [State.claim_held h (decide_eq_true hd)]
    rfl
  · have hdue : d.takeDeadline = true := by simp [Dispense.takeDeadline, hd, hx, hk]
    have hlane : (s.putTicket { t with body := .dispense { d with deadline := some ⟨.take, 0⟩ } }).presentations.get t.lane
        = some p := hp
    show Host.Outcome.next _ = _
    rw [State.takeExpired_held h hdue, State.askClose_some hlane]
    rfl
  all_goals intro x; rfl

/-! ### VOID -/

section Void
variable {u v : State}

/-- VOID of a held ticket is what its kind makes of it, or is refused. -/
theorem State.exec_void (h : s.frameBegun) (hs : s.wall.service = true) (h1 : 1 ≤ t.number) (h2 : t.number ≤ 9999)
    (ht : s.ticket t.number = some t) :
    exec (.void t.number) s =
      (s.voidTicket t).elim (s.refusedWith .badState) fun u => s.respond (.ok (u.ticketDone t.number)) := by
  refine (State.answer_respond h _).trans ((State.respond_ticketNumber hs h1 h2 ht _).trans ?_)
  rw [State.respond_named]

/-- A VOID that is taken answers with the state in which it leaves the ticket. -/
theorem State.exec_void_taken {w : Ticket} (h : s.frameBegun) (hs : s.wall.service = true) (h1 : 1 ≤ t.number)
    (h2 : t.number ≤ 9999) (ht : s.ticket t.number = some t) (hu : s.voidTicket t = some u) (hw : u.ticket t.number = some w) :
    exec (.void t.number) s = u.reform.answeredOk (beBytes 2 t.number ++ beBytes 1 w.stateCode) := by
  obtain ⟨-, hn⟩ := State.ticket_some hw
  rw [State.exec_void h hs h1 h2 ht, hu, ← hn]
  exact State.respond_ticketDone (s := s) (by rw [hn]; exact hw)

theorem State.exec_void_refused (h : s.frameBegun) (hs : s.wall.service = true) (h1 : 1 ≤ t.number) (h2 : t.number ≤ 9999)
    (ht : s.ticket t.number = some t) (hu : s.voidTicket t = none) :
    exec (.void t.number) s = s.refusedWith .badState := by
  rw [State.exec_void h hs h1 h2 ht, hu]
  rfl

/-- A DISPENSE ticket as it enters a state. -/
def Ticket.entered (t : Ticket) (d : Dispense) (st : DispenseState) : Ticket := { t with body := .dispense (d.enter st) }

theorem State.voidTicket_dispense (hb : t.body = .dispense d) : s.voidTicket t = s.voidDispense t.number t.lane d := by
  unfold State.voidTicket
  rw [hb]

/-- The ticket is found as it has entered its state, whatever else has changed. -/
theorem State.ticket_entered {n : Nat} (hn : n = t.number) (st : DispenseState)
    (hu : u.tickets = (s.ticketEnters (t.entered d st)).tickets) : u.ticket n = some (t.entered d st) := by
  subst hn
  unfold State.ticket
  rw [hu]
  exact State.ticket_ticketEnters_self (t := t.entered d st)

/-- A held ticket with no pick in flight leaves PICKING or PICK_HALTED (R26, R77). -/
theorem State.endPicked_held (ht : s.ticket t.number = some t) :
    s.endPicked t.number d =
      if 0 < d.goodPicked then
        { s.ticketEnters (t.entered d .purging) with staging := { s.staging with purge := .waiting } }
      else { s.ticketEnters (t.entered d .voided) with staging := .empty } := by
  have moved (st : DispenseState) : s.move t.number (.dispense (d.enter st)) = s.ticketEnters (t.entered d st) :=
    State.move_held ht
  unfold State.endPicked
  rw [moved, moved]

/-- VOID of a DISPENSE ticket that enters a state by it. -/
theorem State.exec_void_enters (h : s.frameBegun) (hs : s.wall.service = true) (h1 : 1 ≤ t.number) (h2 : t.number ≤ 9999)
    (hold : s.holdsDispense t d) (st : DispenseState) (hu : s.voidDispense t.number t.lane d = some u)
    (hw : u.tickets = (s.ticketEnters (t.entered d st)).tickets) :
    exec (.void t.number) s = u.reform.answeredOk (beBytes 2 t.number ++ beBytes 1 st.code) :=
  State.exec_void_taken h hs h1 h2 hold.1 ((State.voidTicket_dispense hold.2).trans hu) (State.ticket_entered rfl st hw)

/-- A PRESENTED ticket is recalled (R26, R87). -/
theorem State.voidDispense_presented (hold : s.holdsDispense t d) (hd : d.state = .presented) (hr : d.recalled = false) :
    s.voidDispense t.number t.lane d =
      some ((s.putTicket { t with body := .dispense { d with recalled := true, deadline := none } }).askClose t.lane) := by
  unfold State.voidDispense
  rw [hd]
  dsimp only
  rw [hr, State.rewrite_held hold.1]
  rfl

end Void

/-- Settles O18. -/
theorem voidByKindAndState : Obligations.VoidByKindAndState := by
  refine ⟨fun t d s h hs h1 h2 hold => ?_, fun t d s h hs h1 h2 hold hd hp => ?_,
    fun t s h hs h1 h2 => ⟨fun e hold => ?_, fun k hold => ?_⟩⟩
  · have moved (st : DispenseState) : s.move t.number (.dispense (d.enter st)) = s.ticketEnters (t.entered d st) :=
      State.move_held hold.1
    have left : (s.leaveQueue t.number).move t.number (.dispense (d.enter .voided))
        = (s.leaveQueue t.number).ticketEnters (t.entered d .voided) := State.move_held (s := s.leaveQueue t.number) hold.1
    refine ⟨fun hd => ?_, fun hd => ?_, fun hd hg => ?_, fun hd hg => ?_, fun hd => ?_, fun hd hr => ?_, fun hd hr => ?_,
      fun hd => ?_⟩
    · exact State.exec_void_enters h hs h1 h2 hold .voided (by simp only [State.voidDispense, hd, moved]; rfl) rfl
    · exact State.exec_void_enters h hs h1 h2 hold .voided (by simp only [State.voidDispense, hd, left]; rfl) rfl
    · exact State.exec_void_enters h hs h1 h2 hold .purging
        (by simp only [State.voidDispense, hd, State.endPicked_held hold.1, if_pos hg]; rfl) rfl
    · exact State.exec_void_enters h hs h1 h2 hold .voided
        (by simp only [State.voidDispense, hd, State.endPicked_held hold.1, if_neg (Nat.not_lt.2 hg.le)]; rfl) rfl
    · exact State.exec_void_enters h hs h1 h2 hold .purging (by simp only [State.voidDispense, hd, moved]; rfl) rfl
    · have hv := (State.voidTicket_dispense hold.2).trans (State.voidDispense_presented hold hd hr)
      have code : d.state.code = 0x08 := by rw [hd]; rfl
      rw [← code]
      let w : Ticket := { t with body := .dispense { d with recalled := true, deadline := none } }
      cases hp : s.presentations.get t.lane with
      | some p =>
        rw [State.askClose_some (s := s.putTicket w) hp] at hv
        exact State.exec_void_taken (w := w) h hs h1 h2 hold.1 hv (State.ticket_putTicket_self w)
      | none =>
        rw [State.askClose_none (s := s.putTicket w) hp] at hv
        exact State.exec_void_taken (w := w) h hs h1 h2 hold.1 hv (State.ticket_putTicket_self w)
    · have hv : s.voidTicket t = some s := by
        rw [State.voidTicket_dispense hold.2]; simp only [State.voidDispense, hd, hr, if_true]
      have code : t.stateCode = 0x08 := by simp only [Ticket.stateCode, hold.2, hd]; rfl
      rw [← code]
      exact State.exec_void_taken h hs h1 h2 hold.1 hv hold.1
    · refine State.exec_void_refused h hs h1 h2 hold.1 ((State.voidTicket_dispense hold.2).trans ?_)
      unfold State.voidDispense
      cases hst : d.state <;> simp [hst, DispenseState.terminal] at hd ⊢
  · intro entered
    have hgo : s.letGo t.number =
        { s with picker := s.picker.stop,
                 gate := if s.picker.state = .waitingGate then { s.gate with waitPicker := false } else s.gate } :=
      if_pos hp
    have held : (s.letGo t.number).ticket t.number = some t := by rw [hgo]; exact hold.1
    by_cases hf : s.picker.state = .feeding
    · rw [if_pos hf]
      have hfeed : s.feedingFor t.number = true := by simp [State.feedingFor, hf, hp]
      refine State.exec_void_enters h hs h1 h2 hold .purging ?_ rfl
      simp only [State.voidDispense, hd, hfeed, if_true, State.move_held hold.1]
      rfl
    · rw [if_neg hf]
      have hfeed : s.feedingFor t.number = false := by simp [State.feedingFor, hf]
      have hv : s.voidDispense t.number t.lane d = some ((s.letGo t.number).endPicked t.number d) := by
        simp only [State.voidDispense, hd, hfeed, Bool.false_eq_true, if_false]
      rw [State.endPicked_held held, hgo] at hv
      by_cases hg : 0 < d.goodPicked
      · simp only [if_pos hg] at hv ⊢
        exact State.exec_void_enters h hs h1 h2 hold .purging hv rfl
      · simp only [if_neg hg] at hv ⊢
        exact State.exec_void_enters h hs h1 h2 hold .voided hv rfl
  · split
    · rename_i he
      let w : Ticket := { t with body := .envelope { e with state := .voided } }
      refine State.exec_void_taken (w := w) h hs h1 h2 hold.1 ?_ (State.ticket_ticketEnters_self (t := w))
      simp only [State.voidTicket, hold.2, he, if_true, State.move_held hold.1]
    · rename_i he
      exact State.exec_void_refused h hs h1 h2 hold.1 (by simp only [State.voidTicket, hold.2, he, if_false])
  · split
    · rename_i hk
      let w : Ticket := { t with body := .intake { k with state := .voided } }
      refine State.exec_void_taken (w := w) h hs h1 h2 hold.1 ?_ (State.ticket_ticketEnters_self (t := w))
      simp only [State.voidTicket, hold.2, hk, if_true, State.move_held hold.1]
    · rename_i hk
      exact State.exec_void_refused h hs h1 h2 hold.1 (by simp only [State.voidTicket, hold.2, hk, if_false])

/-! ### SETTLE -/

/-- One settlement counted, stopping at 250, with PERIODIC requested when the counter reaches the periodic count (R162). -/
theorem State.countSettlement_eq :
    s.countSettlement =
      if s.countPoint.settled < 250 ∧ s.countPoint.settled + 1 = s.params.periodicCount then
        State.requestCount { s with countPoint := { s.countPoint with settled := min 250 (s.countPoint.settled + 1) } }
          .periodic .empty
      else { s with countPoint := { s.countPoint with settled := min 250 (s.countPoint.settled + 1) } } := by
  have hiff : (s.countPoint.settled < addUpTo 250 s.countPoint.settled 1
        ∧ addUpTo 250 s.countPoint.settled 1 = s.params.periodicCount)
      ↔ (s.countPoint.settled < 250 ∧ s.countPoint.settled + 1 = s.params.periodicCount) := by
    unfold addUpTo; omega
  unfold State.countSettlement
  simp only [hiff]
  rfl

theorem Ticket.terminal_dispense (hb : t.body = .dispense d) :
    t.terminal = decide (d.state = .delivered ∨ d.state = .returned ∨ d.state = .voided ∨ d.state = .expired
      ∨ d.state = .resolved) := by
  unfold Ticket.terminal
  rw [hb]
  dsimp only
  cases d.state <;> rfl

/-- Settles O19. -/
theorem settleRetiresATerminalTicket : Obligations.SettleRetiresATerminalTicket := by
  intro n s h hs h1 h2
  cases ht : s.ticket n with
  | none =>
    refine (State.answer_respond h _).trans ?_
    rw [hs, numberInRange_iff.2 (by omega), ht]
    rfl
  | some t =>
    obtain rfl := (State.ticket_some ht).2
    have hdone : ticketAnswer s t.number = beBytes 2 t.number ++ beBytes 1 t.stateCode := by
      unfold ticketAnswer; rw [ht]; rfl
    refine (State.answer_respond h _).trans ((State.respond_ticketNumber hs h1 h2 ht _).trans ?_)
    rw [State.respond_need, hdone]
    unfold State.settle
    rcases hb : t.body with d | e | k
    · simp only [Ticket.terminal_dispense hb, hb, State.countSettlement_eq, State.respond_ok, ite_not]
      rfl
    · simp only [Ticket.terminal, hb, State.respond_ok, ite_not]
      rfl
    · simp only [Ticket.terminal, hb, State.countSettlement_eq, State.respond_ok, ite_not]
      rfl

/-! ### Selection -/

/-- The ticket selected is the first of the queue whose lane takes it, while the wall takes one (R21). -/
theorem State.selected_of_first {before after : List Nat} {n : Nat} (hw : s.maySelect = true)
    (hq : s.pickQueue = before ++ n :: after) (hb : ∀ m ∈ before, s.laneTakes m = false) (hn : s.laneTakes n = true) :
    s.selected = some n := by
  unfold State.selected
  rw [if_pos hw, hq, List.find?_append, List.find?_eq_none.2 fun m hm => by simp [hb m hm]]
  simp [hn]

theorem State.selected_none (h : s.maySelect = false ∨ ∀ n ∈ s.pickQueue, s.laneTakes n = false) : s.selected = none := by
  unfold State.selected
  rcases h with h | h
  · simp [h]
  · rw [List.find?_eq_none.2 fun n hn => by simp [h n hn], ite_self]

theorem State.laneTakes_eq (n : Nat) : s.laneTakes n =
    (s.ticket n).any fun t => decide ((s.lane t.lane).link = .online) && !s.tickets.any (Ticket.holdsLane t.lane) := by
  unfold State.laneTakes
  cases s.ticket n <;> rfl

theorem State.maySelect_eq : s.maySelect =
    (decide (s.staging.owner = none) && decide (s.picker.state = .idle) && !s.alarms.hold && !s.alarms.lockdown
      && decide (s.countPoint.state = .idle)) := by
  simp [State.maySelect, State.counting]

/-- A held QUEUED ticket selected (R21, R67). -/
theorem State.select_held (hold : s.holdsDispense t d) (hd : d.state = .queued) :
    s.select t.number =
      State.takeUp
        { s.ticketEnters (t.entered d .picking) with
          pickQueue := s.pickQueue.filter (· != t.number),
          staging := { owner := some t.number, held := 0, value := 0, complete := false, purge := .idle } }
        t.number := by
  have entered : (s.leaveQueue t.number).claim t.number (· = .queued) (Dispense.enter .picking)
      = (s.leaveQueue t.number).ticketEnters (t.entered d .picking) :=
    State.claim_held (s := s.leaveQueue t.number) hold (decide_eq_true hd)
  unfold State.select
  rw [entered]
  rfl

/-- Settles O20. -/
theorem selectionTakesTheOldest : Obligations.SelectionTakesTheOldest := by
  intro s
  simp only [← State.laneTakes_eq, ← State.maySelect_eq]
  refine ⟨fun before n after t d hw hq hb hn ht hold hd => ?_, fun h => ?_⟩
  · obtain rfl := (State.ticket_some ht).2
    show execTicketSelection s = _
    unfold execTicketSelection
    rw [State.selected_of_first hw hq hb hn]
    dsimp only
    rw [State.select_held hold hd]
    rfl
  · show execTicketSelection s = _
    unfold execTicketSelection
    rw [State.selected_none h]

end Sys2Proof.Machine
end

section
/-! PROOFS. AMEND (R14 to R16). -/

namespace Sys2Proof.Machine

variable {s : State} {t : Ticket} {d : Dispense} {n teller amount : Nat} {segs : List SegmentArg} {who : Teller}
  {asks : List Ask} {what : Option Nat}

/-! ### The arguments of AMEND (R5) -/

/-- An AMEND sent in SERVICE whose arguments are all in their ranges (R5 steps 1 and 2). -/
structure State.AmendNames (s : State) (n teller amount : Nat) (segs : List SegmentArg) (who : Teller) (asks : List Ask)
    (what : Option Nat) : Prop where
  begun : s.frameBegun
  service : s.wall.service = true
  number : numberInRange n = true
  teller : Teller.ofNat? teller = some who
  amount : optionalAmount amount = some what
  segments : optionalSegments segs = some asks

theorem State.AmendNames.of (h : s.frameBegun) (hs : s.wall.service = true) (h1 : 1 ≤ n) (h2 : n ≤ 9999)
    (hw : Teller.ofNat? teller = some who) (ha : optionalAmount amount = some what) (hg : optionalSegments segs = some asks) :
    s.AmendNames n teller amount segs who asks what :=
  ⟨h, hs, numberInRange_iff.2 (by omega), hw, ha, hg⟩

theorem optionalAmount_range {m : Option Nat} (h : optionalAmount amount = some m) :
    amount ≠ 0 ∧ ¬ (999999 < amount ∧ amount ≠ 0xFFFFFF) := by
  unfold optionalAmount at h
  split at h
  · rename_i hno
    unfold Config.noAmount at hno
    omega
  · split at h
    · rename_i hin
      have := amountInRange_iff.1 hin
      omega
    · cases h

theorem optionalSegments_some (h : optionalSegments segs = some asks) :
    segs.length ≤ 4 ∧ (∀ g ∈ segs, inRange g) ∧ (segs.map SegmentArg.notes).sum ≤ 200 := by
  unfold optionalSegments at h
  split at h
  · simp
  · exact (namedSegments_some h).2

/-- Arguments that do not all name something in their ranges are refused with RANGE. -/
theorem State.exec_amend_range (h : s.frameBegun) (hs : s.wall.service = true)
    (hbad : ∀ who asks what, ¬ s.AmendNames n teller amount segs who asks what) :
    exec (.amend n teller amount segs) s = s.refusedWith .range := by
  refine (State.answer_respond h _).trans ?_
  rw [hs, need_true]
  cases hn : numberInRange n
  · rfl
  rcases hw : Teller.ofNat? teller with _ | who
  · rfl
  rcases ha : optionalAmount amount with _ | what
  · rfl
  rcases hg : optionalSegments segs with _ | asks
  · rfl
  exact absurd ⟨h, hs, hn, hw, ha, hg⟩ (hbad who asks what)

theorem State.segmentsForEnvelope_of_not (asks : List Ask) (h : s.envelope n = none) : s.segmentsForEnvelope n asks = false := by
  unfold State.segmentsForEnvelope
  rw [h]
  exact Bool.and_false _

theorem State.envelope_of_ticket_none (h : s.ticket n = none) : s.envelope n = none := by
  unfold State.envelope
  rw [h]

theorem State.envelope_of_dispense (h : s.holdsDispense t d) : s.envelope t.number = none := by
  rw [Option.eq_none_iff_forall_ne_some]
  intro e he
  obtain ⟨u, hu, hb⟩ := State.envelope_some.1 he
  rw [h.1, Option.some.injEq] at hu
  rw [← hu, h.2] at hb
  cases hb

theorem State.envelope_of_intake {k : Intake} (h : s.holdsIntake t k) : s.envelope t.number = none := by
  rw [Option.eq_none_iff_forall_ne_some]
  intro e he
  obtain ⟨u, hu, hb⟩ := State.envelope_some.1 he
  rw [h.1, Option.some.injEq] at hu
  rw [← hu, h.2] at hb
  cases hb

theorem State.exec_amend_notFound (h : s.AmendNames n teller amount segs who asks what) (ht : s.ticket n = none) :
    exec (.amend n teller amount segs) s = s.refusedWith .notFound := by
  refine (State.answer_respond h.begun _).trans ?_
  simp only [h.service, h.number, h.teller, h.amount, h.segments, need_true, named_some, ht,
    State.segmentsForEnvelope_of_not asks (State.envelope_of_ticket_none ht), Bool.not_false, named_none, State.respond_error]

/-- AMEND of a DISPENSE ticket that has not been picked. -/
theorem State.exec_amend_waiting (h : s.AmendNames t.number teller amount segs who asks what) (hold : s.holdsDispense t d)
    (hd : d.state = .awaitingSecond ∨ d.state = .queued) :
    exec (.amend t.number teller amount segs) s = s.respond (s.amendWaiting t.number d who what asks) := by
  refine (State.answer_respond h.begun _).trans ?_
  simp only [h.service, h.number, h.teller, h.amount, h.segments, need_true, named_some, hold.1, hold.2,
    State.segmentsForEnvelope_of_not asks (State.envelope_of_dispense hold), Bool.not_false]
  rcases hd with hd | hd <;> rw [hd]

/-- AMEND of a DISPENSE ticket in PICK_HALTED. -/
theorem State.exec_amend_halted (h : s.AmendNames t.number teller amount segs who asks what) (hold : s.holdsDispense t d)
    (hd : d.state = .pickHalted) :
    exec (.amend t.number teller amount segs) s = s.respond (s.amendHalted t.number d what asks) := by
  refine (State.answer_respond h.begun _).trans ?_
  simp only [h.service, h.number, h.teller, h.amount, h.segments, need_true, named_some, hold.1, hold.2,
    State.segmentsForEnvelope_of_not asks (State.envelope_of_dispense hold), Bool.not_false, hd]

/-! ### AMEND before picking (R14) -/

/-- The segments AMEND asks of a ticket that has not been picked: those named, or the ticket's own. -/
def Dispense.wanted (d : Dispense) (asks : List Ask) : List Ask :=
  if asks = [] then d.plan.map fun g => (⟨g.position, g.notes⟩ : Ask) else asks

theorem State.resultingPlan_eq : s.resultingPlan d asks = s.newSegments (d.wanted asks) := by
  unfold State.resultingPlan Dispense.wanted State.revalue State.newSegments
  cases asks with
  | nil => simp [Function.comp_def]
  | cons x xs => rfl

/-- The checks of R14 that follow when an amount or segments are named. -/
theorem State.amendWaiting_named (hsome : what ≠ none ∨ asks ≠ []) :
    s.amendWaiting n d who what asks =
      (need (s.allInService (s.newSegments (d.wanted asks))) .unavailable <|
        need (decide (planValue (s.newSegments (d.wanted asks)) = what.getD d.amount)) .valueMismatch <|
        need (s.availableFor d.plan (s.newSegments (d.wanted asks))) .short <|
        .ok ((s.applyAmend n d who (what.getD d.amount) (s.newSegments (d.wanted asks))).ticketDone n)) := by
  have hnamed : (what.isSome || !asks.isEmpty) = true := by
    rcases hsome with h | h
    · simp [Option.isSome_iff_ne_none.2 h]
    · simp [h]
  unfold State.amendWaiting
  rw [hnamed, State.resultingPlan_eq]
  rfl

/-- The record of a ticket whose plan AMEND has replaced and whose amount it has kept (R14). -/
def State.replanned (s : State) (t : Ticket) (d : Dispense) (plan : List Segment) : Ticket :=
  { t with body := .dispense { d with
      plan := plan,
      deadline := if d.state = .awaitingSecond then some ⟨.approval, s.params.approvalWindow⟩ else d.deadline } }

/-- With the amount unchanged the ticket keeps its approvals and its place in the queue (R14). -/
theorem State.applyAmend_same (ht : s.ticket t.number = some t) (plan : List Segment) :
    s.applyAmend t.number d who d.amount plan = s.putTicket (s.replanned t d plan) := by
  unfold State.applyAmend
  rw [if_pos rfl, State.rewrite_held ht]
  rfl

/-- The record of a ticket whose amount AMEND has changed (R14). -/
def State.amended (s : State) (t : Ticket) (d : Dispense) (who : Teller) (amount : Nat) (plan : List Segment) : Ticket :=
  { t with
    mark := s.markNow who t.mark,
    body := .dispense { d with
      state := if s.dualNeeded amount then .awaitingSecond else .queued, amount := amount, plan := plan,
      dualRequired := s.dualNeeded amount, first := who, second := none, halt := none,
      queueStamp := if s.dualNeeded amount then d.queueStamp else some s.nextStamp,
      deadline := if s.dualNeeded amount then some ⟨.approval, s.params.approvalWindow⟩ else none } }

/-- With the amount changed the dual-control test decides whether the ticket waits or stands at the queue's tail (R14). -/
theorem State.applyAmend_changed (ht : s.ticket t.number = some t) (hne : amount ≠ d.amount) (plan : List Segment) :
    s.applyAmend t.number d who amount plan =
      { s.ticketEnters (s.amended t d who amount plan) with
        pickQueue := s.pickQueue.filter (· != t.number) ++ (if s.dualNeeded amount then [] else [t.number]),
        nextStamp := if s.dualNeeded amount then s.nextStamp else s.nextStamp + 1 } := by
  unfold State.applyAmend State.amended
  rw [if_neg hne]
  cases s.dualNeeded amount
  · exact State.markTicket_move_joinQueue (s := s.leaveQueue t.number) ht who _
  · refine (State.markTicket_move (s := s.leaveQueue t.number) ht who _).trans ?_
    simp only [if_true, List.append_nil]
    rfl

theorem State.stateCode_amended (plan : List Segment) :
    (s.amended t d who amount plan).stateCode = if s.dualNeeded amount then 0x01 else 0x02 := by
  unfold State.amended Ticket.stateCode
  cases s.dualNeeded amount <;> rfl

/-- Settles O16. -/
theorem amendBeforePicking : Obligations.AmendBeforePicking := by
  refine ⟨?_, fun n teller amount segs s h => ⟨fun hs => ?_, fun hs hbad => ?_, ?_⟩, ?_⟩
  · intro t d teller amount segs who asks what s h hs h1 h2 hw ha hg hold hd hsome result wanted plan dual hin hv hp
    have names := State.AmendNames.of h hs h1 h2 hw ha hg
    have hin : ∀ x ∈ d.wanted asks, (s.slot x.position).state = .inService := hin
    have havail : s.availableFor d.plan (s.newSegments (d.wanted asks)) = true :=
      (State.availableFor_newSegments d.plan hin).2 fun x _ => hp x.position
    have taken : exec (.amend t.number teller amount segs) s
        = s.respond (.ok ((s.applyAmend t.number d who result plan).ticketDone t.number)) := by
      rw [State.exec_amend_waiting names hold hd, State.amendWaiting_named hsome,
        State.allInService_newSegments.2 hin, havail, decide_eq_true (show planValue (s.newSegments (d.wanted asks)) = _ from hv)]
      rfl
    rw [taken]
    by_cases hr : result = d.amount
    · rw [hr, State.applyAmend_same hold.1]
      exact ⟨_, State.respond_ticketDone (t := s.replanned t d plan) (State.ticket_putTicket_self _), rfl, fun _ => rfl,
        fun hne => absurd rfl hne⟩
    · rw [State.applyAmend_changed hold.1 hr]
      refine ⟨_, State.respond_ticketDone (t := s.amended t d who result plan) State.ticket_ticketEnters_self, rfl,
        fun he => absurd he hr, fun _ => ?_⟩
      rw [State.stateCode_amended]
      unfold State.amended
      rw [State.dualNeeded_eq]
      rfl
  · refine (State.answer_respond h _).trans ?_
    rw [hs]
    rfl
  · refine State.exec_amend_range h hs fun who asks what names => ?_
    have := numberInRange_iff.1 names.number
    have := Teller.ofNat?_range names.teller
    have := optionalAmount_range names.amount
    obtain ⟨h4, hin, hsum⟩ := optionalSegments_some names.segments
    have hseg : ¬ ∃ g ∈ segs, g.position = 0 ∨ 4 < g.position ∨ g.notes = 0 ∨ 200 < g.notes := by
      rintro ⟨g, hg, hout⟩
      obtain ⟨a, b, c, d⟩ := hin g hg
      omega
    simp only [hseg, false_or] at hbad
    omega
  · intro who asks what hs h1 h2 hw ha hg ht
    exact State.exec_amend_notFound (.of h hs h1 h2 hw ha hg) ht
  · intro t d teller amount segs who asks what s h hs h1 h2 hw ha hg hold hd wanted value refused
    have names := State.AmendNames.of h hs h1 h2 hw ha hg
    have responds : exec (.amend t.number teller amount segs) s = s.respond (s.amendWaiting t.number d who what asks) :=
      State.exec_amend_waiting names hold hd
    have hvalue : planValue (s.newSegments (d.wanted asks)) = value := planValue_newSegments _
    refine ⟨fun hno hnil => ?_, fun hsome => ?_⟩
    · subst hno hnil
      exact responds
    · rw [State.amendWaiting_named hsome, hvalue] at responds
      refine ⟨fun hout => ?_, fun hin => ⟨fun hv => ?_, fun hv hshort => ?_⟩⟩
      · have : s.allInService (s.newSegments (d.wanted asks)) = false := by
          obtain ⟨x, hx, hne⟩ := hout
          rw [← Bool.not_eq_true, State.allInService_newSegments]
          exact fun hall => hne (hall x hx)
        exact responds.trans (by rw [this]; rfl)
      all_goals have hin' : s.allInService (s.newSegments (d.wanted asks)) = true := State.allInService_newSegments.2 hin
      · exact responds.trans (by rw [hin', decide_eq_false hv]; rfl)
      · have : s.availableFor d.plan (s.newSegments (d.wanted asks)) = false := by
          rw [← Bool.not_eq_true, State.availableFor_newSegments (asks := d.wanted asks) d.plan hin]
          obtain ⟨x, hx, hlt⟩ := hshort
          exact fun hall => absurd (hall x hx) (Nat.not_le.2 hlt)
        exact responds.trans (by rw [hin', decide_eq_true hv, this]; rfl)

/-! ### AMEND in the other states and kinds (R15, R16) -/

/-- The notes of new segments at a position are all unpicked. -/
theorem unpickedAt_newSegments (p : Pos) (asks : List Ask) : unpickedAt p (s.newSegments asks) = wantedAt p asks := by
  unfold unpickedAt State.newSegments
  rw [List.map_map]
  rfl

theorem planNotes_newSegments (asks : List Ask) : planNotes (s.newSegments asks) = askedNotes asks := by
  unfold planNotes State.newSegments
  rw [List.map_map]
  rfl

/-- A request refused by a check, with the check as a rule states it. -/
theorem State.respond_need_of {c : Bool} {p : Prop} [Decidable p] {e : Status} (h : c = true ↔ ¬ p)
    (k : Except Status (State × List Byte)) : s.respond (need c e k) = if p then s.refusedWith e else s.respond k := by
  rw [State.respond_need]
  by_cases hp : p
  · rw [if_pos hp, if_neg fun hc => h.1 hc hp]
  · rw [if_neg hp, if_pos (h.2 hp)]

/-- Two checks with one status in a row. -/
theorem State.respond_need_either {a b : Bool} {p q : Prop} [Decidable p] [Decidable q] {e : Status} (ha : a = true ↔ ¬ p)
    (hb : b = true ↔ ¬ q) (k : Except Status (State × List Byte)) :
    s.respond (need a e (need b e k)) = if p ∨ q then s.refusedWith e else s.respond k := by
  rw [State.respond_need_of ha, State.respond_need_of hb]
  by_cases hp : p <;> simp [hp]

/-- The record of a halted ticket whose plan AMEND has rebuilt (R15). -/
def State.rebuilt (s : State) (t : Ticket) (d : Dispense) (asks : List Ask) : Ticket :=
  { t with body := .dispense { d with state := .picking, halt := none, plan := keptSegments d.plan ++ s.newSegments asks } }

/-- What R15 does when it is taken: the ticket is again in PICKING, handed to the picker. -/
theorem State.move_rebuilt (hold : s.holdsDispense t d) :
    s.move t.number (.dispense { d.enter .picking with plan := keptSegments d.plan ++ s.newSegments asks })
      = s.ticketEnters (s.rebuilt t d asks) :=
  State.move_held hold.1

theorem all_iff_not_any {α : Type} {xs : List α} {p q : α → Bool} (h : ∀ x ∈ xs, p x = !q x) :
    xs.all p = true ↔ ¬ xs.any q = true := by
  simp only [List.all_eq_true, List.any_eq_true, not_exists, not_and]
  exact forall₂_congr fun x hx => by rw [h x hx]; simp

/-- AMEND of a ticket in PICK_HALTED by the checks of R15. -/
theorem State.respond_amendHalted (hold : s.holdsDispense t d) :
    s.respond (s.amendHalted t.number d what asks) =
      if ¬ (what = none ∨ what = some d.amount) then s.refusedWith .badState
      else if asks = [] then s.refusedWith .range
      else if 6 < (keptSegments d.plan).length + (s.newSegments asks).length
          ∨ 200 < d.goodPicked + planNotes (s.newSegments asks) then s.refusedWith .range
      else if (s.newSegments asks).any (fun g => decide ((s.slot g.position).state ≠ .inService)) then
        s.refusedWith .unavailable
      else if planValue (s.newSegments asks) + pickedValue d.plan ≠ d.amount then s.refusedWith .valueMismatch
      else if (s.newSegments asks).any (fun g => decide ((s.slot g.position).count
          - ((s.slot g.position).committed - unpickedAt g.position d.plan) < unpickedAt g.position (s.newSegments asks))) then
        s.refusedWith .short
      else
        let u := (s.ticketEnters (s.rebuilt t d asks)).takeUp t.number
        u.reform.answeredOk (ticketAnswer u.reform t.number) := by
  have hamount : decide (what.getD d.amount = d.amount) = true ↔ ¬ ¬ (what = none ∨ what = some d.amount) := by
    cases what <;> simp
  have hasks : (!asks.isEmpty) = true ↔ ¬ asks = [] := by simp
  have hin : s.allInService (s.newSegments asks) = true
      ↔ ¬ (s.newSegments asks).any (fun g => decide ((s.slot g.position).state ≠ .inService)) = true :=
    all_iff_not_any fun g _ => by simp
  have hvalue : decide (planValue (s.newSegments asks) + pickedValue d.plan = d.amount) = true
      ↔ ¬ planValue (s.newSegments asks) + pickedValue d.plan ≠ d.amount := by simp
  have havail (hall : s.allInService (s.newSegments asks) = true) : s.availableFor d.plan (s.newSegments asks) = true
      ↔ ¬ (s.newSegments asks).any (fun g => decide ((s.slot g.position).count
          - ((s.slot g.position).committed - unpickedAt g.position d.plan)
            < unpickedAt g.position (s.newSegments asks))) = true :=
    all_iff_not_any fun g hg => by
      have hg' : (s.slot g.position).state = .inService := by simpa using List.all_eq_true.1 hall g hg
      rw [unpickedAt_newSegments, asksAt_newSegments, Slot.available, if_pos hg', ← decide_not]
      exact decide_eq_decide.2 Nat.not_lt.symm
  have hsegs : decide ((keptSegments d.plan).length + asks.length ≤ Config.maxSegments) = true
      ↔ ¬ 6 < (keptSegments d.plan).length + asks.length := decide_eq_true_iff.trans Nat.not_lt.symm
  have hnotes : decide (d.goodPicked + askedNotes asks ≤ Config.maxNotes) = true
      ↔ ¬ 200 < d.goodPicked + askedNotes asks := decide_eq_true_iff.trans Nat.not_lt.symm
  rw [show (s.newSegments asks).length = asks.length from List.length_map _, planNotes_newSegments]
  unfold State.amendHalted
  rw [State.respond_need_of hamount, State.respond_need_of hasks]
  dsimp only
  rw [State.respond_need_either hsegs hnotes, State.respond_need_of hin]
  refine if_congr Iff.rfl rfl (if_congr Iff.rfl rfl (if_congr Iff.rfl rfl ?_))
  split
  · rfl
  · rename_i hall
    rw [State.respond_need_of hvalue, State.respond_need_of (havail (hin.2 hall)), State.move_rebuilt hold]
    rfl

theorem State.envelope_of_holds {e : Envelope} (h : s.holdsEnvelope t e) : s.envelope t.number = some e :=
  State.envelope_some.2 ⟨t, h⟩

/-- AMEND of an ENVELOPE ticket (R16). -/
theorem State.exec_amend_envelope {e : Envelope} (h : s.AmendNames t.number teller amount segs who asks what)
    (hold : s.holdsEnvelope t e) :
    exec (.amend t.number teller amount segs) s =
      if asks ≠ [] then s.refusedWith .range else s.respond (s.amendEnvelope t.number e what) := by
  have hseg : (!s.segmentsForEnvelope t.number asks) = true ↔ ¬ asks ≠ [] := by
    simp [State.segmentsForEnvelope, State.envelope_of_holds hold]
  refine (State.answer_respond h.begun _).trans ?_
  simp only [h.service, h.number, h.teller, h.amount, h.segments, need_true, named_some, hold.1, hold.2]
  exact State.respond_need_of hseg _

theorem State.respond_amendEnvelope {e : Envelope} (hold : s.holdsEnvelope t e) :
    s.respond (s.amendEnvelope t.number e what) =
      if e.state = .voided then s.refusedWith .badState
      else what.elim (s.refusedWith .range) fun a =>
        State.answeredOk (s.putTicket { t with body := .envelope { e with amount := some a } }).reform
          (beBytes 2 t.number ++ beBytes 1 e.state.code) := by
  unfold State.amendEnvelope
  rw [State.respond_need_of (p := e.state = .voided) (decide_eq_true_iff), State.respond_named]
  refine if_congr Iff.rfl rfl ?_
  cases what with
  | none => rfl
  | some a =>
    dsimp only [Option.elim]
    rw [State.rewrite_held hold.1]
    exact State.respond_ticketDone (t := { t with body := .envelope { e with amount := some a } }) (State.ticket_putTicket_self _)

/-- AMEND of a DISPENSE ticket in any other state is refused (R16). -/
theorem State.exec_amend_badState (h : s.AmendNames t.number teller amount segs who asks what) (hold : s.holdsDispense t d)
    (h1 : d.state ≠ .awaitingSecond) (h2 : d.state ≠ .queued) (h3 : d.state ≠ .pickHalted) :
    exec (.amend t.number teller amount segs) s = s.refusedWith .badState := by
  refine (State.answer_respond h.begun _).trans ?_
  simp only [h.service, h.number, h.teller, h.amount, h.segments, need_true, named_some, hold.1, hold.2,
    State.segmentsForEnvelope_of_not asks (State.envelope_of_dispense hold), Bool.not_false]
  cases hst : d.state
  case awaitingSecond => exact absurd hst h1
  case queued => exact absurd hst h2
  case pickHalted => exact absurd hst h3
  all_goals rfl

/-- AMEND of an INTAKE ticket is refused (R16). -/
theorem State.exec_amend_intake {k : Intake} (h : s.AmendNames t.number teller amount segs who asks what)
    (hold : s.holdsIntake t k) : exec (.amend t.number teller amount segs) s = s.refusedWith .badState := by
  refine (State.answer_respond h.begun _).trans ?_
  simp only [h.service, h.number, h.teller, h.amount, h.segments, need_true, named_some, hold.1, hold.2,
    State.segmentsForEnvelope_of_not asks (State.envelope_of_intake hold), Bool.not_false, State.respond_error]

/-- Settles O17. -/
theorem amendInOtherStatesAndKinds : Obligations.AmendInOtherStatesAndKinds := by
  refine ⟨?_, ?_, ?_⟩
  · intro t d teller amount segs who asks what s h hs h1 h2 hw ha hg hold hd
    exact (State.exec_amend_halted (.of h hs h1 h2 hw ha hg) hold hd).trans (State.respond_amendHalted hold)
  · intro t e teller amount segs who asks what s h hs h1 h2 hw ha hg hold
    rw [State.exec_amend_envelope (.of h hs h1 h2 hw ha hg) hold, State.respond_amendEnvelope hold]
    cases what <;> rfl
  · intro t teller amount segs who asks what s h hs h1 h2 hw ha hg hkind
    have names := State.AmendNames.of h hs h1 h2 hw ha hg
    rcases hkind with ⟨k, hold⟩ | ⟨d, hold, hd⟩
    · exact State.exec_amend_intake names hold
    · exact State.exec_amend_badState names hold hd.1 hd.2.1 hd.2.2

end Sys2Proof.Machine
end

section
/-! PROOFS. Envelopes and intake runs: the events of a lane's slot (R10, R100 to R105, R130), CLEAR JAM (R106), INTAKE BEGIN and INTAKE
FINISH (R110, R117). -/

namespace Sys2Proof.Machine

variable {s : State} {t : Ticket} {e : Envelope} {k : Intake} {l : Lane}

/-! ### Claims on held tickets of the two kinds (R23, R24) -/

/-- A ticket put back twice as it enters a state is the second alone. -/
theorem State.ticketEnters_ticketEnters {u : Ticket} (h : t.number = u.number) :
    (s.ticketEnters t).ticketEnters u = s.ticketEnters u := by
  have hset (n : Nat) (xs : List Nat) : addNumber n (addNumber n xs) = addNumber n xs := putByKey_putByKey rfl xs
  unfold State.ticketEnters
  simp only [putByKey_putByKey h, h, hset]
  rfl

theorem State.intake_of_holds (h : s.holdsIntake t k) : s.intake t.number = some k := State.intake_some.2 ⟨t, h⟩

theorem State.envelopeClaim_held {takenIn : EnvelopeState} {f : Envelope → Envelope} (h : s.holdsEnvelope t e)
    (he : e.state = takenIn) :
    s.envelopeClaim t.number takenIn f = s.ticketEnters { t with body := .envelope (f e) } := by
  unfold State.envelopeClaim
  rw [State.envelope_of_holds h]
  dsimp only
  rw [if_pos he, State.move_held h.1]

theorem State.intakeClaim_held {takenIn next : IntakeState} (h : s.holdsIntake t k) (hk : k.state = takenIn) :
    s.intakeClaim t.number takenIn next = s.ticketEnters { t with body := .intake { k with state := next } } := by
  unfold State.intakeClaim
  rw [State.intake_of_holds h]
  dsimp only
  rw [if_pos hk, State.move_held h.1]

theorem State.intakeCount_held {f : Intake → Intake} (h : s.holdsIntake t k) (hk : k.state = .collecting) :
    s.intakeCount t.number f = s.putTicket { t with body := .intake (f k) } := by
  unfold State.intakeCount
  rw [State.intake_of_holds h]
  dsimp only
  rw [if_pos hk, State.rewrite_held h.1]

/-! ### The events of a slot (R100 to R105) -/

/-- An insertion is taken in IDLE alone (R101). -/
theorem State.insertEvent_of_not_idle (h : (s.handlings.get l).state ≠ .idle) : s.insertEvent l = s := by
  unfold State.insertEvent
  cases hst : (s.handlings.get l).state
  case idle => exact absurd hst h
  all_goals rfl

/-- No ticket waits when none of the lane's is in AWAITING_ENVELOPE. -/
theorem State.oldestWaiting_none (h : s.tickets.any (Ticket.awaitsEnvelope l) = false) : s.oldestWaiting l = none := by
  have : s.tickets.filter (Ticket.awaitsEnvelope l) = [] := List.filter_eq_nil_iff.2 fun t ht => by
    simpa using List.any_eq_false.1 h t ht
  unfold State.oldestWaiting
  rw [this]
  rfl

/-- A lane-opened ticket is made and captured for when no ticket waits (R10, R100). -/
theorem State.insertEvent_opens (hi : (s.handlings.get l).state = .idle) (hs : s.wall.service = true)
    (hl : s.alarms.lockdown = false) (hv : (s.lane l).binVerified = true) (hb : (s.lane l).binCount < 120)
    (hw : s.tickets.any (Ticket.awaitsEnvelope l) = false) (ha : s.params.autoEnvelope = true) (hf : s.tickets.length < 32) :
    s.insertEvent l = (s.openTicket l none ⟨false, false⟩ (.envelope newEnvelope)).beginCapture l s.issueNumber := by
  have hbin : ¬ Config.binSize ≤ (s.lane l).binCount := Nat.not_le.2 hb
  have hwait : s.awaitsEnvelope l = false := hw
  have taken : s.refusesInsert l = none := by
    simp [State.refusesInsert, hs, hl, hv, hbin, hwait, ha, State.hasFreeEntry_iff.2 hf]
  unfold State.insertEvent
  rw [hi, taken]
  dsimp only
  unfold State.acceptInsert
  rw [State.oldestWaiting_none hw]

/-- The lane-opened ticket and its capture together. -/
theorem State.beginCapture_opened :
    (s.openTicket l none ⟨false, false⟩ (.envelope newEnvelope)).beginCapture l s.issueNumber =
      { s.ticketEnters
          { number := s.issueNumber, lane := l, opener := none, openStamp := s.nextStamp, mark := ⟨false, false⟩,
            body := .envelope { state := .capturing, amount := none, sequence := none } } with
        nextNumber := if s.issueNumber < 9999 then s.issueNumber + 1 else 1, nextStamp := s.nextStamp + 1,
        handlings := s.handlings.set l
          { s.handlings.get l with state := .capturing, ticket := some s.issueNumber, jam := none } } := by
  let t : Ticket :=
    { number := s.issueNumber, lane := l, opener := none, openStamp := s.nextStamp, mark := ⟨false, false⟩,
      body := .envelope newEnvelope }
  let u : Ticket := { t with body := .envelope { newEnvelope with state := .capturing } }
  have held : (s.openTicket l none ⟨false, false⟩ (.envelope newEnvelope)).holdsEnvelope t newEnvelope :=
    ⟨State.ticket_ticketEnters_self (t := t), rfl⟩
  have enters : (s.openTicket l none ⟨false, false⟩ (.envelope newEnvelope)).ticketEnters u =
      { (s.ticketEnters t).ticketEnters u with
        nextNumber := if s.issueNumber < 9999 then s.issueNumber + 1 else 1, nextStamp := s.nextStamp + 1 } := rfl
  have claimed : (s.openTicket l none ⟨false, false⟩ (.envelope newEnvelope)).envelopeClaim s.issueNumber .awaitingEnvelope
      (fun e => { e with state := .capturing }) = _ := State.envelopeClaim_held held rfl
  unfold State.beginCapture
  rw [claimed, enters, State.ticketEnters_ticketEnters (show t.number = u.number from rfl)]
  rfl

/-- One more envelope in a lane's bin, with LANE placed at 120 (R107). -/
theorem State.raiseBin_eq :
    s.raiseBin l =
      { s with lanes := s.lanes.set l { s.lane l with binCount := (s.lane l).binCount + 1 },
               reasons := if (s.lane l).binCount + 1 = 120 then s.reasons.add .lane else s.reasons } := by
  unfold State.raiseBin State.placeIf
  simp only [decide_eq_true_eq]
  show (if (s.lane l).binCount + 1 = 120 then _ else _) = _
  split <;> rfl

theorem State.raiseBin_lane : (s.raiseBin l).lane l = { s.lane l with binCount := (s.lane l).binCount + 1 } := by
  rw [State.raiseBin_eq]
  exact PerLane_get_set_self _ _ _

/-- A claim on an envelope made with one more envelope in the bin. -/
theorem State.envelopeClaim_raiseBin {takenIn : EnvelopeState} {f : Envelope → Envelope} (h : s.holdsEnvelope t e)
    (he : e.state = takenIn) :
    (s.raiseBin l).envelopeClaim t.number takenIn f =
      { s.ticketEnters { t with body := .envelope (f e) } with
        lanes := s.lanes.set l { s.lane l with binCount := (s.lane l).binCount + 1 },
        reasons := if (s.lane l).binCount + 1 = 120 then (s.reasons.add .tickets).add .lane else s.reasons.add .tickets } := by
  have held : (s.raiseBin l).holdsEnvelope t e := by rw [State.raiseBin_eq]; exact h
  rw [State.envelopeClaim_held held he, State.raiseBin_eq]
  unfold State.ticketEnters
  dsimp only
  split <;> rfl

theorem State.captureDone_held (hc : (s.handlings.get l).state = .capturing) (hn : (s.handlings.get l).ticket = some t.number)
    (h : s.holdsEnvelope t e) (he : e.state = .capturing) :
    s.captureDone l =
      { s.ticketEnters { t with body := .envelope { e with state := .envelopeHeld,
                                                           sequence := some ((s.lane l).binCount + 1) } } with
        lanes := s.lanes.set l { s.lane l with binCount := (s.lane l).binCount + 1 },
        handlings := s.handlings.set l { s.handlings.get l with state := .idle, ticket := none, jam := none },
        reasons := if (s.lane l).binCount + 1 = 120 then (s.reasons.add .tickets).add .lane
          else s.reasons.add .tickets } := by
  unfold State.captureDone
  dsimp only
  rw [hc, hn]
  dsimp only
  rw [State.raiseBin_lane, State.envelopeClaim_raiseBin h he]
  rfl

theorem State.jam_held (hc : (s.handlings.get l).state = .capturing) (hn : (s.handlings.get l).ticket = some t.number)
    (h : s.holdsEnvelope t e) (he : e.state = .capturing) (why : JamCause) :
    s.jam l why =
      { s.ticketEnters { t with body := .envelope { e with state := .jammed } } with
        handlings := s.handlings.set l { s.handlings.get l with state := .jammed, jam := some why } } := by
  unfold State.jam
  dsimp only
  rw [hc, hn]
  dsimp only
  rw [State.envelopeClaim_held h he]
  rfl

theorem State.captureDone_of_not_capturing (h : (s.handlings.get l).state ≠ .capturing) : s.captureDone l = s := by
  unfold State.captureDone
  dsimp only
  split
  · rename_i hc _; exact absurd hc h
  · rfl

theorem State.jam_of_not_capturing (h : (s.handlings.get l).state ≠ .capturing) (why : JamCause) : s.jam l why = s := by
  unfold State.jam
  dsimp only
  split
  · rename_i hc _; exact absurd hc h
  · rfl

theorem State.returnDone_capturing (h : (s.handlings.get l).state = .capturing) : s.returnDone l = s.jam l .returned := by
  unfold State.returnDone; rw [h]

theorem State.returnDone_returning (h : (s.handlings.get l).state = .returning) : s.returnDone l = s.handlingIdle l := by
  unfold State.returnDone; rw [h]

/-- Settles O38. -/
theorem slotEventsAreTaken : Obligations.SlotEventsAreTaken := by
  refine ⟨fun l s => ⟨rfl, State.insertEvent_of_not_idle, fun hi hs hl hv hb hw ha hf => ?_⟩,
    fun l s => ⟨State.captureDone_of_not_capturing, fun t e hc hn h he => State.captureDone_held hc hn h he⟩,
    fun l s => ⟨fun h => State.jam_of_not_capturing h _, fun h => ?_, State.returnDone_returning, fun t e hc hn h he => ⟨?_, ?_⟩⟩,
    fun l x s => ⟨fun h => ?_, fun h hx => ?_, fun t e hc hx hn h he => ?_⟩⟩
  · rw [State.insertEvent_opens hi hs hl hv hb hw ha hf, State.beginCapture_opened]
  · show s.returnDone l = s
    unfold State.returnDone
    rcases h with h | h <;> rw [h]
  · exact State.jam_held hc hn h he _
  · exact (State.returnDone_capturing hc).trans (State.jam_held hc hn h he _)
  · unfold State.decideHandling
    rcases h with h | h | ⟨h, rfl⟩ | ⟨h, rfl⟩ <;> rw [h] <;> rfl
  · unfold State.decideHandling
    rw [h]
    exact if_neg hx
  · have := State.jam_held hc hn h he .resultLost
    unfold State.decideHandling
    rw [hc]
    exact (if_neg hx).trans this

/-! ### CLEAR JAM (R106) -/

section ClearJam
variable {n outcome : Nat}

theorem jamOutcome_none (h1 : outcome ≠ 1) (h2 : outcome ≠ 2) : jamOutcome outcome = none := by
  unfold jamOutcome
  split
  · exact absurd rfl h1
  · exact absurd rfl h2
  · rfl

theorem jamOutcome_some (h : outcome = 1 ∨ outcome = 2) : ∃ captured, jamOutcome outcome = some captured := by
  rcases h with rfl | rfl
  · exact ⟨true, rfl⟩
  · exact ⟨false, rfl⟩

/-- The checks of CLEAR JAM after those of the wall and of the number. -/
theorem State.exec_clearJam (h : s.frameBegun) (hs : s.wall.service = true) (h1 : 1 ≤ n) (h2 : n ≤ 9999) :
    exec (.clearJam n outcome) s =
      s.respond
        (named (s.ticket n) .notFound fun k =>
          named (jamOutcome outcome) .range fun captured =>
          named (s.envelope n) .badState fun e =>
          need (decide (e.state = .jammed)) .badState <|
          .ok ((s.clearedJam n k.lane captured).ticketDone n)) := by
  refine (State.answer_respond h _).trans ?_
  rw [hs, numberInRange_iff.2 (by omega)]
  rfl

/-- CLEAR JAM of a JAMMED ticket with an outcome. -/
theorem State.exec_clearJam_taken (h : s.frameBegun) (hs : s.wall.service = true) (h1 : 1 ≤ t.number) (h2 : t.number ≤ 9999)
    (hold : s.holdsEnvelope t e) (he : e.state = .jammed) {captured : Bool} (ho : jamOutcome outcome = some captured) :
    exec (.clearJam t.number outcome) s =
      s.respond (.ok ((s.clearedJam t.number t.lane captured).ticketDone t.number)) := by
  rw [State.exec_clearJam h hs h1 h2, hold.1, ho, State.envelope_of_holds hold]
  simp only [named_some, decide_eq_true he, need_true]

/-- The jam of a captured envelope cleared: it is held under the bin's new count. -/
theorem State.clearedJam_captured (hold : s.holdsEnvelope t e) (he : e.state = .jammed) :
    s.clearedJam t.number l true =
      { s.ticketEnters { t with body := .envelope { e with state := .envelopeHeld,
                                                           sequence := some ((s.lane l).binCount + 1) } } with
        lanes := s.lanes.set l { s.lane l with binCount := (s.lane l).binCount + 1 },
        handlings := s.handlings.set l { s.handlings.get l with state := .idle, ticket := none, jam := none },
        reasons := if (s.lane l).binCount + 1 = 120 then (s.reasons.add .tickets).add .lane
          else s.reasons.add .tickets } := by
  unfold State.clearedJam
  dsimp only
  rw [if_pos rfl, State.raiseBin_lane, State.envelopeClaim_raiseBin hold he]
  rfl

/-- The jam of an envelope that was not captured cleared: its ticket is VOIDED. -/
theorem State.clearedJam_notCaptured (hold : s.holdsEnvelope t e) (he : e.state = .jammed) :
    s.clearedJam t.number l false =
      { s.ticketEnters { t with body := .envelope { e with state := .voided } } with
        handlings := s.handlings.set l { s.handlings.get l with state := .idle, ticket := none, jam := none } } := by
  unfold State.clearedJam
  rw [if_neg Bool.false_ne_true, State.envelopeClaim_held hold he]
  rfl

end ClearJam

theorem State.reform_binCount : (s.reform.lane l).binCount = (s.lane l).binCount := by
  unfold State.lane
  rw [State.reform_lanes, PerLane_get_mapWith]
  rfl

/-- Settles O36. -/
theorem clearJamEndsTheJam : Obligations.ClearJamEndsTheJam := by
  intro n outcome s h
  refine ⟨fun hs => ?_, fun hs hn => ?_, fun hs h1 h2 => ⟨fun ht => ?_, fun t ht ho1 ho2 => ?_, fun t ht ho hj => ?_,
    fun t e ht hb he => ?_⟩⟩
  · refine (State.answer_respond h _).trans ?_
    rw [hs]
    rfl
  · refine (State.answer_respond h _).trans ?_
    rw [hs, need_true, State.respond_numberInRange, if_pos hn]
  · rw [State.exec_clearJam h hs h1 h2, ht]
    rfl
  · rw [State.exec_clearJam h hs h1 h2, ht, jamOutcome_none ho1 ho2]
    rfl
  · obtain ⟨captured, ho⟩ := jamOutcome_some ho
    rw [State.exec_clearJam h hs h1 h2, ht, ho]
    rcases hen : s.envelope n with _ | e
    · rfl
    · obtain ⟨u, hu, hb⟩ := State.envelope_some.1 hen
      rw [ht, Option.some.injEq] at hu
      subst hu
      simp only [named_some, decide_eq_false (hj e hb), need_false, State.respond_error]
  · obtain rfl := (State.ticket_some ht).2
    have hold : s.holdsEnvelope t e := ⟨ht, hb⟩
    refine ⟨fun ho => ?_, fun ho => ?_⟩ <;> subst ho
    · let e' : Envelope := { e with state := .envelopeHeld, sequence := some ((s.lane t.lane).binCount + 1) }
      let w : Ticket := { t with body := .envelope e' }
      rw [State.exec_clearJam_taken (captured := true) h hs h1 h2 hold he rfl, State.clearedJam_captured hold he]
      have held : (s.ticketEnters w).ticket w.number = some w := State.ticket_ticketEnters_self
      have env : (s.ticketEnters w).envelope w.number = some e' := State.envelope_some.2 ⟨w, held, rfl⟩
      refine ⟨_, State.respond_ticketDone (t := w) held, rfl, ?_, env, ?_⟩
      · refine State.reform_binCount.trans ?_
        simp [State.lane]
      · simp
    · let e' : Envelope := { e with state := .voided }
      let w : Ticket := { t with body := .envelope e' }
      rw [State.exec_clearJam_taken (captured := false) h hs h1 h2 hold he rfl, State.clearedJam_notCaptured hold he]
      have held : (s.ticketEnters w).ticket w.number = some w := State.ticket_ticketEnters_self
      have env : (s.ticketEnters w).envelope w.number = some e' := State.envelope_some.2 ⟨w, held, rfl⟩
      refine ⟨_, State.respond_ticketDone (t := w) held, rfl, State.reform_binCount, env, ?_⟩
      simp

/-! ### INTAKE BEGIN and INTAKE FINISH (R110, R117) -/

/-- What a request responds that leaves the ticket table as it was. -/
theorem State.respond_ticketDone_of_tickets {u : State} (hu : u.tickets = s.tickets) (ht : s.ticket t.number = some t) :
    s.respond (.ok (u.ticketDone t.number)) = u.reform.answeredOk (beBytes 2 t.number ++ beBytes 1 t.stateCode) :=
  State.respond_ticketDone (by unfold State.ticket; rw [hu]; exact ht)

/-- INTAKE BEGIN of a held INTAKE ticket, by the checks of R110. -/
theorem State.beginIntake_held (hold : s.holdsIntake t k) (hk : k.state = .readyIntake) :
    s.beginIntake t.number =
      { s.ticketEnters { t with body := .intake { k with state := .collecting } } with
        intakeRec := { s.intakeRec with state := .ready, owner := some t.number, finishHeld := false },
        headSent := if s.intakeRec.stray then s.headSent else s.headSent ++ [.acceptOn] } := by
  have claimed : s.intakeClaim t.number .readyIntake .collecting = _ := State.intakeClaim_held hold hk
  unfold State.beginIntake
  rw [claimed]
  dsimp only
  show (if s.intakeRec.stray = true then _ else _) = _
  split <;> rfl

/-- The end of a run of a held INTAKE ticket (R117). -/
theorem State.endRun_held (hold : s.holdsIntake t k) (hk : k.state = .collecting) :
    s.endRun t.number =
      { s.ticketEnters { t with body := .intake { k with state := .counted } } with
        intakeRec := { s.intakeRec with state := .idle, owner := none, escrow := none, destination := none,
                                        finishHeld := false } } := by
  have claimed : s.intakeClaim t.number .collecting .counted = _ := State.intakeClaim_held hold hk
  unfold State.endRun
  rw [claimed]
  rfl

/-- INTAKE FINISH of a held INTAKE ticket that collects. -/
theorem State.exec_intakeFinish (h : s.frameBegun) (hs : s.wall.service = true) (h1 : 1 ≤ t.number) (h2 : t.number ≤ 9999)
    (hold : s.holdsIntake t k) (hk : k.state = .collecting) :
    exec (.intakeFinish t.number) s = s.respond (.ok ((s.finishIntake t.number).ticketDone t.number)) := by
  refine (State.answer_respond h _).trans ((State.respond_ticketNumber hs h1 h2 hold.1 _).trans ?_)
  rw [State.intake_of_holds hold]
  simp only [named_some, decide_eq_true hk, need_true]

/-- Settles O39. -/
theorem intakeRunBeginsAndFinishes : Obligations.IntakeRunBeginsAndFinishes := by
  refine ⟨fun t k s h hs h1 h2 hold => ?_, fun t k s h hs h1 h2 hold => ⟨fun hk => ?_, fun hk hf hr => ?_, fun hk hf hr => ?_,
    fun hk hf => ?_⟩⟩
  · refine (State.answer_respond h _).trans ((State.respond_ticketNumber hs h1 h2 hold.1 _).trans ?_)
    rw [State.intake_of_holds hold, named_some, State.respond_need_of (p := k.state ≠ .readyIntake) (by simp),
      State.respond_need_of (p := s.alarms.lockdown = true) (by simp),
      State.respond_need_of (p := s.tickets.any Ticket.collecting = true) (by simp [State.anyCollecting])]
    split
    · rfl
    · rename_i hk
      rw [State.beginIntake_held hold (not_not.1 hk)]
      refine if_congr Iff.rfl rfl (if_congr Iff.rfl rfl ?_)
      exact State.respond_ticketDone (t := { t with body := .intake { k with state := .collecting } })
        State.ticket_ticketEnters_self
  · refine (State.answer_respond h _).trans ((State.respond_ticketNumber hs h1 h2 hold.1 _).trans ?_)
    rw [State.intake_of_holds hold]
    simp only [named_some, decide_eq_false hk, need_false, State.respond_error]
  · have finished : s.finishIntake t.number = (s.tellHead .acceptOff).endRun t.number := by
      unfold State.finishIntake
      rw [hf, if_neg Bool.false_ne_true]
      dsimp only [State.tellHead_intakeRec]
      rw [hr]
    rw [State.exec_intakeFinish h hs h1 h2 hold hk, finished, State.endRun_held (s := s.tellHead .acceptOff) hold hk]
    exact State.respond_ticketDone (t := { t with body := .intake { k with state := .counted } })
      State.ticket_ticketEnters_self
  · have finished : s.finishIntake t.number =
        { s.tellHead .acceptOff with intakeRec := { s.intakeRec with finishHeld := true } } := by
      unfold State.finishIntake
      rw [hf, if_neg Bool.false_ne_true]
      dsimp only [State.tellHead_intakeRec]
      rcases hr with hr | hr <;> rw [hr]
    have code : t.stateCode = 0x19 := by simp only [Ticket.stateCode, hold.2, hk]; rfl
    rw [State.exec_intakeFinish h hs h1 h2 hold hk, finished]
    refine (State.respond_ticketDone_of_tickets (by rfl) hold.1).trans ?_
    rw [code]
    rfl
  · have finished : s.finishIntake t.number = s := by
      unfold State.finishIntake
      exact if_pos hf
    have code : t.stateCode = 0x19 := by simp only [Ticket.stateCode, hold.2, hk]; rfl
    rw [State.exec_intakeFinish h hs h1 h2 hold hk, finished]
    refine (State.respond_ticketDone_of_tickets (by rfl) hold.1).trans ?_
    rw [code]
    rfl

end Sys2Proof.Machine
end

section
/-! PROOFS. The rows by which the formed values stand (R17, R22, R86, R97, R98, R124). -/

namespace Sys2Proof.Machine

variable {s : State} {l : Lane}

/-! ### The tickets of a lane that the rows speak of -/

theorem State.awaitsEnvelope_iff : s.awaitsEnvelope l = true ↔
    ∃ t ∈ s.tickets, t.lane = l ∧ ∃ e, t.body = .envelope e ∧ e.state = .awaitingEnvelope := by
  have one (t : Ticket) : Ticket.awaitsEnvelope l t = true
      ↔ t.lane = l ∧ ∃ e, t.body = .envelope e ∧ e.state = .awaitingEnvelope := by
    unfold Ticket.awaitsEnvelope
    cases t.body <;> simp
  simp only [State.awaitsEnvelope, List.any_eq_true, one]

theorem State.collectsAt_iff : s.tickets.any (Ticket.collectsAt l) = true ↔
    ∃ t ∈ s.tickets, t.lane = l ∧ ∃ k, t.body = .intake k ∧ k.state = .collecting := by
  have one (t : Ticket) : Ticket.collectsAt l t = true ↔ t.lane = l ∧ ∃ k, t.body = .intake k ∧ k.state = .collecting := by
    unfold Ticket.collectsAt
    cases t.body <;> simp
  simp only [List.any_eq_true, one]

theorem State.laneLost_eq_false {n : Nat} : s.laneLost n = false ↔ ∀ d, s.dispense n = some d → d.laneLost = false := by
  unfold State.laneLost
  cases s.dispense n <;> simp

/-! ### The drawer (R86) -/

theorem State.formDrawer_closing : s.formDrawer l = .closing ↔
    ∃ p, s.presentations.get l = some p ∧ p.closeAsked = true ∧ (s.lane l).handedDrawer ≠ some .locked := by
  unfold State.formDrawer
  cases s.presentations.get l with
  | none => simp
  | some p =>
    simp only [Option.some.injEq, exists_eq_left']
    by_cases hc : p.closeAsked = true ∧ (s.lane l).handedDrawer ≠ some .locked
    · rw [if_pos hc]
      exact iff_of_true rfl hc
    · rw [if_neg hc]
      exact iff_of_false (by split <;> decide) hc

theorem State.formDrawer_unlocked : s.formDrawer l = .unlocked ↔
    ∃ p, s.presentations.get l = some p ∧ p.decided = false ∧ p.closeAsked = false ∧ (s.lane l).link = .online
      ∧ (∀ d, s.dispense p.ticket = some d → d.laneLost = false) ∧ s.alarms.lockdown = false := by
  unfold State.formDrawer
  cases s.presentations.get l with
  | none => simp
  | some p =>
    simp only [← State.laneLost_eq_false, Option.some.injEq, exists_eq_left', Bool.not_eq_true]
    by_cases hc : p.closeAsked = true ∧ (s.lane l).handedDrawer ≠ some .locked
    · rw [if_pos hc]
      exact iff_of_false nofun fun h => by simp [hc.1] at h
    · rw [if_neg hc]
      split
      · rename_i hrow
        exact iff_of_true rfl hrow
      · rename_i hrow
        exact iff_of_false nofun hrow

/-! ### The slot (R97) -/

theorem State.slotMayOpen_iff : s.slotMayOpen l = true ↔
    s.wall.service = true ∧ (s.awaitsEnvelope l = true ∨ s.params.autoEnvelope = true ∧ s.tickets.length < 32)
      ∧ (s.lane l).binVerified = true ∧ (s.lane l).binCount < 120 ∧ s.alarms.lockdown = false ∧ (s.lane l).link ≠ .faulted
      ∧ (s.lane l).unheard = false := by
  have bin : decide ((s.lane l).binCount < Config.binSize) = true ↔ (s.lane l).binCount < 120 := decide_eq_true_iff
  simp only [State.slotMayOpen, Bool.and_eq_true, Bool.or_eq_true, State.hasFreeEntry_iff, bin, Bool.not_eq_true',
    decide_eq_true_eq, and_assoc]

theorem State.formSlot_rows :
    (s.formSlot l = .capture ↔ (s.handlings.get l).state = .capturing)
      ∧ (s.formSlot l = .giveBack ↔ (s.handlings.get l).state = .returning)
      ∧ (s.formSlot l = .opened ↔ (s.handlings.get l).state = .idle ∧ s.slotMayOpen l = true) := by
  unfold State.formSlot
  cases (s.handlings.get l).state <;> cases s.slotMayOpen l <;> simp

/-! ### The lamp (R22, R98) -/

theorem State.formLamp_rows :
    let shut := s.wall.service = false ∨ s.alarms.lockdown = true
    (s.formLamp l = .laneClosed ↔ shut)
      ∧ (s.formLamp l = .take ↔ ¬ shut ∧ s.formDrawer l = .unlocked)
      ∧ (s.formLamp l = .deposit ↔ ¬ shut ∧ s.formDrawer l ≠ .unlocked ∧ s.claimsDeposit l = true)
      ∧ (s.formLamp l = .wait ↔ ¬ shut ∧ s.formDrawer l ≠ .unlocked ∧ ¬ s.claimsDeposit l = true
          ∧ (s.lane l).link = .online ∧ s.params.busyLevel ≤ s.pickQueue.length) := by
  intro shut
  have hshut : (¬ s.wall.service = true ∨ s.alarms.lockdown = true) ↔ shut := by simp [shut]
  unfold State.formLamp
  simp only [hshut]
  by_cases h1 : shut
  · simp [h1]
  by_cases h2 : s.formDrawer l = .unlocked
  · simp [h1, h2]
  by_cases h3 : s.claimsDeposit l = true
  · simp [h1, h2, h3]
  by_cases h4 : (s.lane l).link = .online ∧ s.params.busyLevel ≤ s.pickQueue.length
  · simp [h1, h2, h3, h4]
  · rw [if_neg h1, if_neg h2, if_neg h3, if_neg h4]
    simp [h1, h2, h3, h4]

theorem State.claimsDeposit_iff : s.claimsDeposit l = true ↔
    s.awaitsEnvelope l = true ∧ s.formSlot l = .opened ∨ (s.handlings.get l).state = .capturing
      ∨ s.tickets.any (Ticket.collectsAt l) = true := by
  simp [State.claimsDeposit, or_assoc]

/-! ### The committed notes (R17) -/

theorem unpickedAt_filter (p : Pos) (plan : List Segment) :
    unpickedAt p plan = ((plan.filter fun g => decide (g.position = p)).map fun g => g.notes - g.picked).sum := by
  unfold unpickedAt
  induction plan with
  | nil => rfl
  | cons g gs ih => by_cases h : g.position = p <;> simp [h, ih]

theorem DispenseState.reserving_iff {x : DispenseState} :
    x.reserving = true ↔ x = .awaitingSecond ∨ x = .queued ∨ x = .picking ∨ x = .pickHalted := by
  cases x <;> decide

theorem Ticket.committedAt_eq (p : Pos) (t : Ticket) :
    t.committedAt p =
      match t.body with
      | .dispense d =>
        if d.state = .awaitingSecond ∨ d.state = .queued ∨ d.state = .picking ∨ d.state = .pickHalted then
          ((d.plan.filter fun g => decide (g.position = p)).map fun g => g.notes - g.picked).sum
        else 0
      | .envelope _ => 0
      | .intake _ => 0 := by
  unfold Ticket.committedAt
  rcases t.body with d | e | k
  · simp only [DispenseState.reserving_iff, unpickedAt_filter]
  · rfl
  · rfl

/-- Settles O14. -/
theorem formedValuesFollowTheirRows : Obligations.FormedValuesFollowTheirRows := by
  intro s hf
  obtain ⟨lanes, slots⟩ := State.formed_iff.1 hf
  refine ⟨fun l => ?_, fun p => ?_⟩
  · have values := State.formLane_eq_iff.1 (lanes l)
    simp only [LaneRec.values, Prod.mk.injEq] at values
    obtain ⟨drawer, slot, lamp, effDrawer, effSlot⟩ := values
    obtain ⟨capture, giveBack, opened⟩ := State.formSlot_rows (s := s) (l := l)
    obtain ⟨closed, take, deposit, wait⟩ := State.formLamp_rows (s := s) (l := l)
    simp only [State.claimsDeposit_iff, State.awaitsEnvelope_iff, State.collectsAt_iff] at deposit wait
    simp only [State.slotMayOpen_iff, State.awaitsEnvelope_iff] at opened
    simp only [drawer, slot, lamp, effDrawer, effSlot]
    exact ⟨State.formDrawer_closing, State.formDrawer_unlocked, capture, giveBack, opened, closed, take, deposit, wait, rfl, rfl⟩
  · rw [slots p]
    unfold State.committedAt
    congr 1
    exact List.map_congr_left fun t _ => Ticket.committedAt_eq p t

end Sys2Proof.Machine
end

section
/-! PROOFS. What a change of an alarm source leaves in the other blocks (R143 to R156): the marks of tickets aside, it changes the
alarms and the reasons; the entry of LOCKDOWN also asks the presentations to close and withdraws the waiting claims (R68, R87, R115). -/

namespace Sys2Proof.Machine

variable {s t u : State}

/-! ### Marks -/

/-- The same tickets, their marks aside. -/
def State.MarksOnly (s t : State) : Prop :=
  ∃ f : Ticket → Ticket, (∀ x, (f x).number = x.number ∧ (f x).lane = x.lane ∧ (f x).body = x.body) ∧ t.tickets = s.tickets.map f

namespace State.MarksOnly

theorem of_eq (h : t.tickets = s.tickets) : s.MarksOnly t := ⟨id, fun _ => ⟨rfl, rfl, rfl⟩, by rw [h, List.map_id]⟩

theorem trans (h : s.MarksOnly t) (k : t.MarksOnly u) : s.MarksOnly u := by
  obtain ⟨f, hf, ht⟩ := h
  obtain ⟨g, hg, hu⟩ := k
  refine ⟨g ∘ f, fun x => ?_, by rw [hu, ht, List.map_map]⟩
  obtain ⟨h1, h2, h3⟩ := hf x
  obtain ⟨k1, k2, k3⟩ := hg (f x)
  exact ⟨k1.trans h1, k2.trans h2, k3.trans h3⟩

theorem ticket (h : s.MarksOnly t) (n : Nat) :
    ∃ f : Ticket → Ticket, (∀ x, (f x).number = x.number ∧ (f x).lane = x.lane ∧ (f x).body = x.body)
      ∧ t.ticket n = (s.ticket n).map f := by
  obtain ⟨f, hf, ht⟩ := h
  refine ⟨f, hf, ?_⟩
  unfold State.ticket
  rw [ht, findByKey_map fun x => (hf x).1]

/-- The body of every ticket is as it was. -/
theorem body (h : s.MarksOnly t) (n : Nat) : (t.ticket n).map Ticket.body = (s.ticket n).map Ticket.body := by
  obtain ⟨f, hf, ht⟩ := h.ticket n
  rw [ht, Option.map_map]
  exact congrArg (fun g => Option.map g (s.ticket n)) (funext fun x => (hf x).2.2)

theorem dispense (h : s.MarksOnly t) (n : Nat) : t.dispense n = s.dispense n := by
  have of_body (v : State) : v.dispense n = ((v.ticket n).map Ticket.body).bind fun b =>
      match b with
      | .dispense d => some d
      | .envelope _ => none
      | .intake _ => none := by
    unfold State.dispense
    rcases v.ticket n with _ | ⟨_, _, _, _, _, body⟩
    · rfl
    · cases body <;> rfl
  rw [of_body, of_body, h.body]

theorem intake (h : s.MarksOnly t) (n : Nat) : t.intake n = s.intake n := by
  have of_body (v : State) : v.intake n = ((v.ticket n).map Ticket.body).bind fun b =>
      match b with
      | .dispense _ => none
      | .envelope _ => none
      | .intake k => some k := by
    unfold State.intake
    rcases v.ticket n with _ | ⟨_, _, _, _, _, body⟩
    · rfl
    · cases body <;> rfl
  rw [of_body, of_body, h.body]

end State.MarksOnly

theorem State.marksOnly_markTickets (s : State) (p : Teller) : s.MarksOnly (s.markTickets p) :=
  ⟨_, fun x => by split <;> exact ⟨rfl, rfl, rfl⟩, rfl⟩

theorem State.marksOnly_markTicketsOf (s : State) (c : Teller → Bool) : s.MarksOnly (s.markTicketsOf c) := by
  unfold State.markTicketsOf
  have first : s.MarksOnly (if c .a then s.markTickets .a else s) := by
    split
    · exact s.marksOnly_markTickets _
    · exact .of_eq rfl
  dsimp only
  split
  · exact first.trans (State.marksOnly_markTickets _ _)
  · exact first

theorem State.markTicketsOf_frame (s : State) (c : Teller → Bool) :
    s.markTicketsOf c = { s with tickets := (s.markTicketsOf c).tickets } := by
  unfold State.markTicketsOf State.markTickets
  dsimp only
  split <;> split <;> rfl

/-! ### A source handed -/

/-- What a change of an alarm source, with all that follows from it, spares in the other blocks. -/
structure State.Spares (s t : State) : Prop where
  same : t = { s with tickets := t.tickets, alarms := t.alarms, reasons := t.reasons, presentations := t.presentations,
                      picker := t.picker, gate := t.gate, intakeRec := t.intakeRec, headSent := t.headSent }
  marks : s.MarksOnly t
  granted : t.gate.granted = s.gate.granted
  picker : s.picker.state ≠ .waitingGate → t.picker = s.picker ∧ t.gate.waitPicker = s.gate.waitPicker
  note : s.intakeRec.state ≠ .waitingGate →
    t.intakeRec = s.intakeRec ∧ t.headSent = s.headSent ∧ t.gate.waitDeposit = s.gate.waitDeposit
  lockdown : s.alarms.lockdown = true → t.alarms.lockdown = true

namespace State.Spares

/-- A change of the tickets' marks, of the alarms, of the reasons and of the presentations alone. -/
theorem of_calm (h : t = { s with tickets := t.tickets, alarms := t.alarms, reasons := t.reasons, presentations := t.presentations })
    (hm : s.MarksOnly t) (hl : s.alarms.lockdown = true → t.alarms.lockdown = true) : s.Spares t := by
  refine ⟨?_, hm, ?_, ?_, ?_, hl⟩ <;> rw [h]
  · intro _; exact ⟨rfl, rfl⟩
  · intro _; exact ⟨rfl, rfl, rfl⟩

theorem refl : s.Spares s := .of_calm rfl (.of_eq rfl) id

theorem trans (h : s.Spares t) (k : t.Spares u) : s.Spares u where
  same := by
    rw [k.same, h.same]
  marks := h.marks.trans k.marks
  granted := k.granted.trans h.granted
  picker hs := by
    obtain ⟨h1, h2⟩ := h.picker hs
    obtain ⟨k1, k2⟩ := k.picker (by rw [h1]; exact hs)
    exact ⟨k1.trans h1, k2.trans h2⟩
  note hs := by
    obtain ⟨h1, h2, h3⟩ := h.note hs
    obtain ⟨k1, k2, k3⟩ := k.note (by rw [h1]; exact hs)
    exact ⟨k1.trans h1, k2.trans h2, k3.trans h3⟩
  lockdown hs := k.lockdown (h.lockdown hs)

end State.Spares

/-- A change of an alarm source: without the entry of LOCKDOWN it changes marks, alarms and reasons alone. -/
structure State.Handed (s t : State) : Prop where
  spares : s.Spares t
  calm : t.alarms.lockdown = s.alarms.lockdown →
    t = { s with tickets := t.tickets, alarms := t.alarms, reasons := t.reasons }

namespace State.Handed

theorem of_calm (h : t = { s with tickets := t.tickets, alarms := t.alarms, reasons := t.reasons }) (hm : s.MarksOnly t)
    (hl : s.alarms.lockdown = true → t.alarms.lockdown = true) : s.Handed t :=
  ⟨.of_calm (by rw [h]) hm hl, fun _ => h⟩

theorem refl : s.Handed s := .of_calm rfl (.of_eq rfl) id

theorem trans (h : s.Handed t) (k : t.Handed u) : s.Handed u where
  spares := h.spares.trans k.spares
  calm hu := by
    have ht : t.alarms.lockdown = s.alarms.lockdown := by
      cases hs : s.alarms.lockdown
      · cases ht : t.alarms.lockdown
        · rfl
        · rw [k.spares.lockdown ht, hs] at hu; cases hu
      · exact h.spares.lockdown hs
    rw [k.calm (hu.trans ht.symm), h.calm ht]

end State.Handed

/-! ### The entry of LOCKDOWN -/

theorem State.askCloseAll_frame (ls : List Lane) (s : State) :
    ls.foldl State.askClose s = { s with presentations := (ls.foldl State.askClose s).presentations } := by
  induction ls generalizing s with
  | nil => rfl
  | cons l ls ih =>
    have one : s.askClose l = { s with presentations := (s.askClose l).presentations } := by
      rcases State.askClose_cases (s := s) l with ⟨p, -, h⟩ | ⟨-, h⟩ <;> rw [h]
      rfl
    rw [List.foldl_cons, ih, one]

theorem State.spares_pauseWaitingPick (s : State) : s.Spares s.pauseWaitingPick := by
  unfold State.pauseWaitingPick
  split
  · rename_i hw
    exact ⟨rfl, .of_eq rfl, rfl, fun h => absurd hw h, fun _ => ⟨rfl, rfl, rfl⟩, id⟩
  · exact .refl

/-- A note that waits for the gate while the wall pauses is sent to the tray, and its claim is withdrawn (R115). -/
theorem State.spares_recallWaitingNote (h : s.pausing = true) : s.Spares s.recallWaitingNote := by
  unfold State.recallWaitingNote
  split
  · rename_i hw
    split
    · rename_i e _
      rw [State.decideNote_of_pausing (s := { s with gate := { s.gate with waitDeposit := false } }) h e]
      exact ⟨rfl, .of_eq rfl, rfl, fun _ => ⟨rfl, rfl⟩, fun h => absurd hw h, id⟩
    · exact .refl
  · exact .refl

/-- What the entry of LOCKDOWN does in the other blocks (R68, R87, R115). -/
theorem State.spares_onLockdown (h : s.alarms.lockdown = true) : s.Spares s.onLockdown := by
  have closed : s.Spares (Lane.all.foldl State.askClose s) := by
    rw [State.askCloseAll_frame]
    exact .of_calm rfl (.of_eq rfl) id
  have paused := closed.trans (State.spares_pauseWaitingPick _)
  refine paused.trans (State.spares_recallWaitingNote ?_)
  unfold State.pausing
  rw [paused.lockdown h]
  rfl

/-- The alarms and the reasons changed, and marks claimed under a condition. -/
theorem State.handed_marked (hu : u = { s with alarms := u.alarms, reasons := u.reasons }) (claims : Prop) [Decidable claims]
    (c : Teller → Bool) (hl : s.alarms.lockdown = true → u.alarms.lockdown = true) :
    s.Handed (if claims then u.markTicketsOf c else u) := by
  have hm : s.MarksOnly u := .of_eq (by rw [hu])
  split
  · refine .of_calm ?_ (hm.trans (State.marksOnly_markTicketsOf u c)) ?_
    · rw [State.markTicketsOf_frame, hu]
    · rw [State.markTicketsOf_frame]
      exact hl
  · exact .of_calm (by rw [hu]) hm hl

theorem State.alarms_marked (claims : Prop) [Decidable claims] (c : Teller → Bool) :
    (if claims then u.markTicketsOf c else u).alarms = u.alarms := by
  split
  · rw [State.markTicketsOf_frame]
  · rfl

theorem State.handed_enter (h : s.Handed t) (hs : s.alarms.lockdown = false) (ht : t.alarms.lockdown = true) :
    s.Handed t.onLockdown := by
  have entered := State.spares_onLockdown ht
  refine ⟨h.spares.trans entered, fun he => ?_⟩
  rw [entered.lockdown ht, hs] at he
  cases he

theorem State.handed_setRecords (s : State) (records : List AlarmRecord) (takes : Bool) :
    s.Handed (s.setRecords records takes) := by
  have placed (a : Alarms) (c : Bool) :
      State.placeIf { s with alarms := a } c .alarm
          = { s with alarms := a, reasons := (State.placeIf { s with alarms := a } c .alarm).reasons } := by
    unfold State.placeIf
    split <;> rfl
  have alarms (a : Alarms) (c : Bool) : (State.placeIf { s with alarms := a } c .alarm).alarms = a := by rw [placed]
  unfold State.setRecords
  dsimp only
  split
  · rename_i h
    refine State.handed_enter (State.handed_marked ?_ _ _ ?_) (by simpa using h.2) ?_
    · rw [alarms]; exact placed _ _
    · rw [alarms]; exact fun _ => h.1
    · rw [State.alarms_marked, alarms]; exact h.1
  · refine State.handed_marked ?_ _ _ ?_
    · rw [alarms]; exact placed _ _
    · rw [alarms]; exact fun h => Bool.or_eq_true_iff.2 (.inl h)

theorem State.handed_sourceUp (s : State) (src : AlarmSource) (current : AlarmClass) (pattern : Option Nat) :
    s.Handed (s.sourceUp src current pattern) := by
  unfold State.sourceUp
  split
  · exact .refl
  · exact s.handed_setRecords _ _

theorem State.handed_sourceDown (s : State) (src : AlarmSource) : s.Handed (s.sourceDown src) := by
  unfold State.sourceDown
  split
  · exact .refl
  · split
    · exact s.handed_setRecords _ _
    · exact s.handed_setRecords _ _
    · exact .refl

theorem State.handed_hand (s : State) (o : Owned) (active : Bool) : s.Handed (s.hand o active) := by
  have sources (a : Alarms) (ha : a.lockdown = s.alarms.lockdown) : s.Handed { s with alarms := a } :=
    .of_calm rfl (.of_eq rfl) fun h => ha.trans h
  unfold State.hand
  split
  · exact .refl
  · dsimp only
    split
    · refine (sources _ ?_).trans (State.handed_sourceUp _ _ _ _)
      rfl
    · refine (sources _ ?_).trans (State.handed_sourceDown _ _)
      rfl

theorem State.handed_handVaults (s : State) : s.Handed s.handVaults := by
  have first := s.handed_hand .rejectFull s.rejectVault.full
  unfold State.handVaults
  exact first.trans (State.handed_hand _ _ _)

end Sys2Proof.Machine
end

section
/-! PROOFS. A pick result at its ticket (R3, R11, R26, R59, R68 to R77): what the counting of the result leaves of the pick, the gate
as the grant ends, and the picker's next step. -/

namespace Sys2Proof.Machine

variable {s t u k : State} {n : Nat}

/-! ### What the counting of a result leaves of the pick -/

/-- The records of a pick, and of the claims on the gate, that a change in another block leaves as they are. -/
structure State.SparesPick (s t : State) : Prop where
  dispense : ∀ n, t.dispense n = s.dispense n
  picker : t.picker = s.picker
  staging : t.staging = s.staging
  granted : t.gate.granted = s.gate.granted
  waitPicker : t.gate.waitPicker = s.gate.waitPicker
  params : t.params = s.params
  clock : t.clock = s.clock
  lockdown : s.alarms.lockdown = true → t.alarms.lockdown = true
  waitDeposit : t.alarms.lockdown = false → t.gate.waitDeposit = s.gate.waitDeposit

namespace State.SparesPick

/-- A change of none of these records. -/
theorem of_same (ht : t.tickets = s.tickets) (hp : t.picker = s.picker) (hs : t.staging = s.staging) (hg : t.gate = s.gate)
    (hq : t.params = s.params) (hc : t.clock = s.clock) (ha : t.alarms = s.alarms) : s.SparesPick t := by
  refine ⟨fun n => ?_, hp, hs, ?_, ?_, hq, hc, ?_, fun _ => ?_⟩
  · simp only [State.dispense, State.ticket, ht]
  · rw [hg]
  · rw [hg]
  · rw [ha]; exact id
  · rw [hg]

theorem trans (h : s.SparesPick t) (k : t.SparesPick u) : s.SparesPick u where
  dispense n := (k.dispense n).trans (h.dispense n)
  picker := k.picker.trans h.picker
  staging := k.staging.trans h.staging
  granted := k.granted.trans h.granted
  waitPicker := k.waitPicker.trans h.waitPicker
  params := k.params.trans h.params
  clock := k.clock.trans h.clock
  lockdown hs := k.lockdown (h.lockdown hs)
  waitDeposit hu := by
    have ht : t.alarms.lockdown = false := by
      rw [← Bool.not_eq_true] at hu ⊢
      exact fun ht => hu (k.lockdown ht)
    exact (k.waitDeposit hu).trans (h.waitDeposit ht)

end State.SparesPick

theorem State.Handed.pick (h : s.Handed t) (hw : s.picker.state ≠ .waitingGate) : s.SparesPick t := by
  obtain ⟨hp, hg⟩ := h.spares.picker hw
  refine ⟨h.spares.marks.dispense, hp, by rw [h.spares.same], h.spares.granted, hg, by rw [h.spares.same],
    by rw [h.spares.same], h.spares.lockdown, fun ht => ?_⟩
  have hs : s.alarms.lockdown = false := by
    rw [← Bool.not_eq_true] at ht ⊢
    exact fun hs => ht (h.spares.lockdown hs)
  rw [h.calm (ht.trans hs.symm)]

theorem State.pumpTags_frame (s : State) : s.pumpTags = { s with tagLink := s.pumpTags.tagLink } := by
  unfold State.pumpTags
  split <;> rfl

theorem State.askTag_frame (s : State) (kind : TransferKind) (p : Pos) :
    s.askTag kind p = { s with tagLink := (s.askTag kind p).tagLink } := by
  unfold State.askTag
  dsimp only
  split
  · rfl
  · rw [State.pumpTags_frame]

/-- The in-service slot of a position with a pick result, or the place where its cassette now stands (R44, R48, R170). -/
def State.countSlot (s : State) (p : Pos) (r : GaugeResult) : State :=
  match s.picker.fedFrom with
  | .slot =>
    let x := (s.slot p).takeResult s.params.suspendThreshold (s.params.lowLevels.get p) r
    if x.markOwed then (s.putSlot p { x with markOwed := false }).askTag .markWrite p else s.putSlot p x
  | .copy => s.changeCopy p (Slot.removeNotes r.removed)
  | .gone =>
    { s with countPoint := { s.countPoint with writtenOff := s.countPoint.writtenOff.raise Config.max16 r.removed } }

/-- The reject vault with the notes of a pick result (R55). -/
def State.countRejects (s : State) (r : GaugeResult) : State :=
  if 0 < r.rejected then s.changeRejectVault fun v => v.addPicks r.rejected else s

theorem State.countPick_eq (p : Pos) (r : GaugeResult) :
    s.countPick p r = ((s.countSlot p r).countRejects r).recheckGate := rfl

theorem State.countSlot_frame (p : Pos) (r : GaugeResult) :
    s.countSlot p r = { s with slots := (s.countSlot p r).slots, tagLink := (s.countSlot p r).tagLink,
                               retiring := (s.countSlot p r).retiring, countPoint := (s.countSlot p r).countPoint,
                               reasons := (s.countSlot p r).reasons } := by
  unfold State.countSlot
  split
  · dsimp only
    split
    · rw [State.askTag_frame]; rfl
    · rfl
  · rfl
  · rfl

theorem State.sparesPick_countRejects (r : GaugeResult) (hw : s.picker.state ≠ .waitingGate) : s.SparesPick (s.countRejects r) := by
  unfold State.countRejects
  split
  · have filled : s.SparesPick { s with rejectVault := s.rejectVault.addPicks r.rejected } := .of_same rfl rfl rfl rfl rfl rfl rfl
    exact filled.trans ((State.handed_handVaults _).pick hw)
  · exact .of_same rfl rfl rfl rfl rfl rfl rfl

/-- The note in escrow decided again touches the intake record and the head alone. -/
theorem State.redecide_frame (s : State) :
    s.redecide = { s with intakeRec := s.redecide.intakeRec, headSent := s.redecide.headSent } := by
  unfold State.redecide
  split <;> rfl

/-- With no pick claim waiting, a store claim that waits is answered "not fit" when D takes no store (R60). -/
theorem State.recheckGate_noPick (h : s.gate.waitPicker = false) :
    s.recheckGate =
      if s.gate.waitDeposit ∧ ¬ s.storeFit then { s with gate := { s.gate with waitDeposit := false } }.redecide else s := by
  unfold State.recheckGate
  rw [h]
  rfl

/-- Position D takes a store by its slot and the recycling flag alone. -/
theorem State.storeFit_congr (hs : t.slots = s.slots) (hp : t.params = s.params) : t.storeFit = s.storeFit := by
  unfold State.storeFit State.slot
  rw [hs, hp]

/-- The check of the waiting claims leaves the pick's records, and a store claim waits on only while D takes stores (R60). -/
theorem State.recheckGate_spares (h : s.gate.waitPicker = false) :
    s.recheckGate.dispense n = s.dispense n ∧ s.recheckGate = { s with
      gate := { s.gate with waitDeposit := s.gate.waitDeposit && s.storeFit },
      intakeRec := s.recheckGate.intakeRec, headSent := s.recheckGate.headSent } := by
  rw [State.recheckGate_noPick h]
  split
  · rename_i hw
    rw [State.redecide_frame]
    refine ⟨rfl, ?_⟩
    simp [hw.1, hw.2]
  · rename_i hw
    refine ⟨rfl, ?_⟩
    have : (s.gate.waitDeposit && s.storeFit) = s.gate.waitDeposit := by
      cases hd : s.gate.waitDeposit
      · rfl
      · simpa [hd] using hw
    rw [this]

/-- The counting of a pick result leaves the pick's records, and of a store claim that waits what D makes of it. -/
theorem State.countPick_spares (p : Pos) (r : GaugeResult) (hf : s.picker.state ≠ .waitingGate) (hw : s.gate.waitPicker = false) :
    let c := s.countPick p r
    (∀ n, c.dispense n = s.dispense n) ∧ c.picker = s.picker ∧ c.staging = s.staging ∧ c.params = s.params ∧ c.clock = s.clock
      ∧ c.gate.granted = s.gate.granted ∧ c.gate.waitPicker = false
      ∧ (c.alarms.lockdown = false → c.gate.waitDeposit = (s.gate.waitDeposit && c.storeFit)) := by
  have counted : s.SparesPick (s.countSlot p r) := by
    rw [State.countSlot_frame]
    exact .of_same rfl rfl rfl rfl rfl rfl rfl
  have rejected := counted.trans (State.sparesPick_countRejects r (by rw [counted.picker]; exact hf))
  have hv := rejected.waitPicker.trans hw
  intro c
  have checked (m : Nat) := State.recheckGate_spares (n := m) hv
  have frame : c = _ := (checked 0).2
  have fit : c.storeFit = ((s.countSlot p r).countRejects r).storeFit :=
    State.storeFit_congr (by rw [frame]) (by rw [frame])
  refine ⟨fun m => (checked m).1.trans (rejected.dispense m), ?_⟩
  rw [fit, frame]
  exact ⟨rejected.picker, rejected.staging, rejected.params, rejected.clock, rejected.granted, hv,
    fun hl => by rw [← rejected.waitDeposit hl]⟩

/-! ### The gate as a grant ends with no pick claim waiting (R59, R60) -/

/-- A store claim decided: the gate is granted when D takes stores, and else the note is decided again. -/
theorem State.decideStore_eq (s : State) :
    s.decideStore = { s with
      gate := if s.storeFit then { s.gate with granted := some .deposit, last := some .deposit, waitDeposit := false }
        else { s.gate with waitDeposit := false },
      intakeRec := s.decideStore.intakeRec, headSent := s.decideStore.headSent } := by
  have fit : State.storeFit { s with gate := { s.gate with waitDeposit := false } } = s.storeFit := State.storeFit_congr rfl rfl
  unfold State.decideStore
  dsimp only
  rw [fit]
  split
  · rfl
  · rw [State.redecide_frame]

theorem State.serveGatePicker_noPick (h : s.gate.waitPicker = false) : s.serveGatePicker = s := by
  unfold State.serveGatePicker
  rw [if_neg]
  rw [h]
  exact fun hw => Bool.false_ne_true hw.1

theorem State.serveGateDeposit_eq (h : s.gate.granted = none) :
    s.serveGateDeposit = if s.gate.waitDeposit then s.decideStore else s := by
  unfold State.serveGateDeposit
  simp only [h, and_true]

/-- The end of a grant with no pick claim waiting: a store claim that waits is granted where D takes stores. -/
theorem State.freeGate_noPick (h : s.gate.waitPicker = false) :
    s.freeGate = { s with gate := s.freeGate.gate, intakeRec := s.freeGate.intakeRec, headSent := s.freeGate.headSent }
      ∧ s.freeGate.gate.waitPicker = false
      ∧ s.freeGate.gate.granted = if s.gate.waitDeposit && s.storeFit then some .deposit else none := by
  have served : s.freeGate = State.serveGateDeposit { s with gate := { s.gate with granted := none } } := by
    have hserved : (State.serveGateDeposit { s with gate := { s.gate with granted := none } }).gate.waitPicker = false := by
      rw [State.serveGateDeposit_eq rfl]
      split
      · rw [State.decideStore_eq]; dsimp only; split <;> exact h
      · exact h
    unfold State.freeGate
    dsimp only
    rw [State.serveGatePicker_noPick hserved,
      State.serveGatePicker_noPick (s := { s with gate := { s.gate with granted := none } }) h, ite_self]
  have fit : State.storeFit { s with gate := { s.gate with granted := none } } = s.storeFit := State.storeFit_congr rfl rfl
  rw [served, State.serveGateDeposit_eq rfl]
  cases hd : s.gate.waitDeposit
  · exact ⟨rfl, h, rfl⟩
  · simp only [if_true, Bool.true_and]
    rw [State.decideStore_eq, fit]
    refine ⟨rfl, ?_, ?_⟩
    · split <;> exact h
    · split <;> rfl

/-! ### The records as a result leaves them -/

theorem State.dispense_adjust {d : Dispense} {f : Dispense → Dispense} (h : s.dispense n = some d) :
    (s.adjust n f).dispense n = some (f d) := by
  obtain ⟨t, ht, hb⟩ := State.dispense_some.1 h
  obtain rfl := (State.ticket_some ht).2
  rw [State.adjust_held ⟨ht, hb⟩]
  exact State.dispense_some.2 ⟨_, State.ticket_putTicket_self { t with body := .dispense (f d) }, rfl⟩

theorem State.dispense_claim {d : Dispense} {f : Dispense → Dispense} {takenIn : DispenseState → Bool}
    (h : s.dispense n = some d) (hd : takenIn d.state = true) : (s.claim n takenIn f).dispense n = some (f d) := by
  obtain ⟨t, ht, hb⟩ := State.dispense_some.1 h
  obtain rfl := (State.ticket_some ht).2
  rw [State.claim_held ⟨ht, hb⟩ hd]
  exact State.dispense_some.2 ⟨_, State.ticket_ticketEnters_self (t := { t with body := .dispense (f d) }), rfl⟩

/-- The records as a pick result leaves them, before the picker's next step (R59, R72, R73). -/
def State.picked (s : State) (n : Nat) (p : Pos) (r : GaugeResult) : State :=
  let t := s.countPick p r
  let t := t.adjust n (Dispense.takeResult r)
  let t := { t with staging := t.staging.takeResult r t.picker.refs.value, sgate := t.sgate.turn r }
  let t := if p = .d then t.freeGate else t
  { t with picker := t.picker.stop }

theorem State.pickResult_eq (p : Pos) (r : GaugeResult) : s.pickResult n p r = (s.picked n p r).nextStep n r := rfl

/-- What a pick result leaves: its counts at the ticket and in staging, the picker stopped, and the gate. -/
theorem State.picked_spares {d : Dispense} (p : Pos) (r : GaugeResult) (hd : s.dispense n = some d)
    (hf : s.picker.state ≠ .waitingGate) (hw : s.gate.waitPicker = false) :
    let k := s.picked n p r
    k.dispense n = some (d.takeResult r) ∧ k.picker = s.picker.stop
      ∧ k.staging = s.staging.takeResult r s.picker.refs.value ∧ k.params = s.params ∧ k.clock = s.clock
      ∧ k.gate.waitPicker = false
      ∧ (k.alarms.lockdown = false → k.gate.granted =
          if p = .d then (if s.gate.waitDeposit && k.storeFit then some .deposit else none) else s.gate.granted) := by
  obtain ⟨dispense, picker, staging, params, clock, granted, waitPicker, waitDeposit⟩ := State.countPick_spares p r hf hw
  have found : ((s.countPick p r).adjust n (Dispense.takeResult r)).dispense n = some (d.takeResult r) :=
    State.dispense_adjust ((dispense n).trans hd)
  have frame := State.adjust_frame (s := s.countPick p r) n (Dispense.takeResult r)
  let a := (s.countPick p r).adjust n (Dispense.takeResult r)
  let b : State := { a with staging := a.staging.takeResult r a.picker.refs.value, sgate := a.sgate.turn r }
  have hb : b.picker = s.picker ∧ b.staging = s.staging.takeResult r s.picker.refs.value ∧ b.params = s.params
      ∧ b.clock = s.clock ∧ b.gate = (s.countPick p r).gate ∧ b.alarms = (s.countPick p r).alarms
      ∧ b.storeFit = (s.countPick p r).storeFit := by
    refine ⟨?_, ?_, ?_, ?_, ?_, ?_, State.storeFit_congr ?_ ?_⟩ <;> simp only [b, a] <;> rw [frame]
    · exact picker
    · rw [← staging, ← picker]
    · exact params
    · exact clock
  obtain ⟨hpicker, hstaging, hparams, hclock, hgate, halarms, hfit⟩ := hb
  have hwait : b.gate.waitPicker = false := by rw [hgate]; exact waitPicker
  by_cases hp : p = .d
  · obtain ⟨freed, hw', hg'⟩ := State.freeGate_noPick hwait
    have hk : s.picked n p r = { b.freeGate with picker := b.freeGate.picker.stop } := by
      unfold State.picked
      simp only [if_pos hp]
      rfl
    have hd' : b.freeGate.dispense n = some (d.takeResult r) := by
      rw [freed]; exact found
    have fit' : (s.picked n p r).storeFit = b.storeFit := State.storeFit_congr (by rw [hk, freed]) (by rw [hk, freed])
    refine ⟨by rw [hk]; exact hd', by rw [hk, freed]; exact congrArg Picker.stop hpicker, by rw [hk, freed]; exact hstaging,
      by rw [hk, freed]; exact hparams, by rw [hk, freed]; exact hclock, by rw [hk]; exact hw', fun hl => ?_⟩
    have hl' : (s.countPick p r).alarms.lockdown = false := by
      rw [hk, freed] at hl
      rw [← halarms]; exact hl
    rw [if_pos hp, fit', hfit, hk]
    refine hg'.trans ?_
    rw [hgate, hfit, waitDeposit hl', Bool.and_assoc, Bool.and_self]
  · have hk : s.picked n p r = { b with picker := b.picker.stop } := by
      unfold State.picked
      simp only [if_neg hp]
      rfl
    refine ⟨by rw [hk]; exact found, by rw [hk]; exact congrArg Picker.stop hpicker, by rw [hk]; exact hstaging,
      by rw [hk]; exact hparams, by rw [hk]; exact hclock, by rw [hk]; exact hwait, fun _ => ?_⟩
    rw [if_neg hp, hk]
    exact (congrArg Gate.granted hgate).trans granted

/-! ### The picker's next step (R68 to R71) -/

/-- The segment check as R69 lists it. -/
theorem State.segmentCheck_rows (g : Segment) :
    s.segmentCheck g =
      if s.rejectVault.full then some .rejectFull
      else
        match (s.slot g.position).state with
        | .absent => some .removed
        | .suspended => some .suspended
        | .identifying | .refused | .releasePending | .unlocked => some .notReady
        | .inService =>
          if (s.slot g.position).identity.map Identity.noteValue ≠ some g.value then some .notReady
          else if (s.slot g.position).depleted ≠ .clear then some .depleted
          else none := by
  unfold State.segmentCheck Slot.pickUnfit
  dsimp only
  split
  · rfl
  · cases (s.slot g.position).state
    case inService =>
      simp only [true_and]
      split
      · rfl
      · exact (ite_not _ _ _).symm
    all_goals rfl

/-- With the check passed, D is fit and the reject vault is not full. -/
theorem State.fit_of_segmentCheck {g : Segment} (h : s.segmentCheck g = none) :
    s.rejectVault.full = false ∧ (s.slot g.position).pickUnfit = none := by
  unfold State.segmentCheck at h
  dsimp only at h
  split at h
  · cases h
  · rename_i hv
    split at h
    · cases h
    · exact ⟨by simpa using hv, h⟩

theorem State.takeUp_frame (s : State) (n : Nat) :
    s.takeUp n = { s with tickets := (s.takeUp n).tickets, changeSet := (s.takeUp n).changeSet,
                          reasons := (s.takeUp n).reasons, picker := (s.takeUp n).picker, gate := (s.takeUp n).gate } := by
  have halt (v : State) (why : HaltReason) : v.haltPick n why =
      { v with tickets := (v.haltPick n why).tickets, changeSet := (v.haltPick n why).changeSet,
               reasons := (v.haltPick n why).reasons, picker := (v.haltPick n why).picker } := by
    unfold State.haltPick
    rw [State.claim_frame]
  unfold State.takeUp State.workPick
  split
  · rfl
  · split
    · rfl
    · split
      · rfl
      · split
        · rw [halt]
        · unfold State.startPick
          split
          · split
            · unfold State.decidePick
              dsimp only
              split
              · rw [halt]
              · split
                · rw [halt]
                · rfl
            · rfl
          · rfl

theorem State.dispense_haltPick {e : Dispense} (h : s.dispense n = some e) (he : e.state = .picking) (why : HaltReason) :
    (s.haltPick n why).dispense n = some { e.enter .pickHalted with halt := some why } :=
  State.dispense_claim (f := fun d => { d.enter .pickHalted with halt := some why }) h (decide_eq_true he)

/-- The picker that feeds a ticket's note from the cassette in service, with its gauge references (R71). -/
def State.fedFrom (s : State) (n : Nat) (p : Pos) (i : Identity) : Picker :=
  { state := .feeding, ticket := some n, position := some p, refs := ⟨i.thickness, i.length, i.noteValue⟩,
    feedStarted := some s.clock, fedFrom := .slot }

theorem State.feed_picker {p : Pos} {i : Identity} (h : (s.slot p).identity = some i) :
    (s.feed n p).picker = s.fedFrom n p i := by
  unfold State.feed
  rw [h]
  rfl

/-- What the picker's next step can be for a ticket in PICKING: a pause, a halt, or a pick that starts (R68 to R71). -/
structure State.Steps (k v : State) (n : Nat) (e e' : Dispense) : Prop where
  dispense : v.dispense n = some e'
  counts : e'.goodPicked = e.goodPicked ∧ e'.plan = e.plan ∧ e'.rejectPicks = e.rejectPicks
  state : e'.state = .picking ∨ e'.state = .pickHalted ∧ e'.halt.isSome = true
  paused : k.pausing = true →
    e'.state = .picking ∧ v.picker.state = .paused ∧ v.picker.ticket = some n ∧ v.picker.position = none
  halted : ∀ g c, k.pausing = false → currentSegment e.plan = some g → k.segmentCheck g = some c →
    e'.state = .pickHalted ∧ e'.halt = some c ∧ v.picker.state = .idle ∧ v.picker.ticket = none
  picks : ∀ g, k.pausing = false → currentSegment e.plan = some g → k.segmentCheck g = none →
    e'.state = .picking
      ∧ (g.position ≠ .d → ∀ i, (k.slot g.position).identity = some i → v.picker = k.fedFrom n g.position i)
      ∧ (g.position = .d → k.gate.granted = none → v.gate.granted = some .picker ∧ v.gate.waitPicker = false
          ∧ ∀ i, (k.slot g.position).identity = some i → v.picker = k.fedFrom n g.position i)
      ∧ (g.position = .d → k.gate.granted ≠ none → v.picker.state = .waitingGate ∧ v.picker.ticket = some n
          ∧ v.gate.waitPicker = true ∧ v.gate.granted = k.gate.granted)

/-- The pick claim decided at the free gate (R56, R60, R71). -/
theorem State.decidePick_granted (hv : s.rejectVault.full = false) (hd : (s.slot .d).pickUnfit = none) :
    s.decidePick n =
      State.feed { s with gate := { s.gate with granted := some .picker, last := some .picker, waitPicker := false } } n .d := by
  have hd' : (State.slot { s with gate := { s.gate with waitPicker := false } } .d).pickUnfit = none := hd
  unfold State.decidePick
  dsimp only
  rw [hv, if_neg Bool.false_ne_true, hd']

theorem State.decidePick_unfit {why : HaltReason} (hv : s.rejectVault.full = false) (hd : (s.slot .d).pickUnfit = some why) :
    s.decidePick n = State.haltPick { s with gate := { s.gate with waitPicker := false } } n why := by
  have hd' : (State.slot { s with gate := { s.gate with waitPicker := false } } .d).pickUnfit = some why := hd
  unfold State.decidePick
  dsimp only
  rw [hv, if_neg Bool.false_ne_true, hd']

theorem State.decidePick_full (hv : s.rejectVault.full = true) :
    s.decidePick n = State.haltPick { s with gate := { s.gate with waitPicker := false } } n .rejectFull := if_pos hv

/-- A pick that starts (R71): at A to C, at D with the gate free, and at D with the gate granted. -/
theorem State.startPick_rows {g : Segment} (hc : s.segmentCheck g = none) :
    (g.position ≠ .d → s.startPick n g.position = s.feed n g.position)
      ∧ (g.position = .d → s.gate.granted = none → s.startPick n g.position =
          State.feed { s with gate := { s.gate with granted := some .picker, last := some .picker, waitPicker := false } } n .d)
      ∧ (g.position = .d → s.gate.granted ≠ none → s.startPick n g.position =
          { s with gate := { s.gate with waitPicker := true },
                   picker := { s.picker with state := .waitingGate, ticket := some n, position := some .d,
                                             feedStarted := none } }) := by
  obtain ⟨hv, hfit⟩ := State.fit_of_segmentCheck hc
  refine ⟨fun hp => ?_, fun hp hg => ?_, fun hp hg => ?_⟩ <;> unfold State.startPick
  · rw [if_neg hp]
  · rw [if_pos hp, if_pos hg]
    exact State.decidePick_granted hv (hp ▸ hfit)
  · rw [if_pos hp, if_neg hg]

/-- The next step for a ticket in PICKING. -/
theorem State.steps_workPick {e : Dispense} (hd : k.dispense n = some e) (he : e.state = .picking) :
    ∃ e', k.Steps (k.workPick n) n e e' := by
  cases hp : k.pausing with
  | true =>
    have hk : k.workPick n = { k with picker := { k.picker.pause with ticket := some n } } := if_pos hp
    rw [hk]
    exact ⟨e, hd, ⟨rfl, rfl, rfl⟩, .inl he, fun _ => ⟨he, rfl, rfl, rfl⟩, fun _ _ h => by simp [hp] at h,
      fun _ h => by simp [hp] at h⟩
  | false =>
    cases hg : currentSegment e.plan with
    | none =>
      have hk : k.workPick n = k := by
        unfold State.workPick
        rw [hp, if_neg Bool.false_ne_true, hd]
        dsimp only
        rw [hg]
      rw [hk]
      exact ⟨e, hd, ⟨rfl, rfl, rfl⟩, .inl he, fun h => by simp [hp] at h, fun _ _ _ h => by simp [hg] at h,
        fun _ _ h => by simp [hg] at h⟩
    | some g =>
      cases hc : k.segmentCheck g with
      | some c =>
        have hk : k.workPick n = k.haltPick n c := by
          unfold State.workPick
          rw [hp, if_neg Bool.false_ne_true, hd]
          dsimp only
          rw [hg]
          dsimp only
          rw [hc]
        rw [hk]
        refine ⟨_, State.dispense_haltPick hd he c, ⟨rfl, rfl, rfl⟩, .inr ⟨rfl, rfl⟩, fun h => by simp [hp] at h,
          fun g' c' _ hg' hc' => ?_, fun g' _ hg' hc' => ?_⟩ <;> cases hg.symm.trans hg'
        · cases hc.symm.trans hc'
          exact ⟨rfl, rfl, rfl, rfl⟩
        · cases hc.symm.trans hc'
      | none =>
        have hk : k.workPick n = k.startPick n g.position := by
          unfold State.workPick
          rw [hp, if_neg Bool.false_ne_true, hd]
          dsimp only
          rw [hg]
          dsimp only
          rw [hc]
        obtain ⟨hfeed, hgrant, hwait⟩ := State.startPick_rows (n := n) hc
        have found : (k.workPick n).dispense n = some e := by
          rw [hk]
          by_cases hpos : g.position = .d
          · by_cases hfree : k.gate.granted = none
            · rw [hgrant hpos hfree]; exact hd
            · rw [hwait hpos hfree]; exact hd
          · rw [hfeed hpos]; exact hd
        refine ⟨e, found, ⟨rfl, rfl, rfl⟩, .inl he, fun h => by simp [hp] at h, fun g' c' _ hg' hc' => ?_, fun g' _ hg' _ => ?_⟩ <;>
          cases hg.symm.trans hg'
        · cases hc.symm.trans hc'
        · rw [hk]
          refine ⟨he, fun hpos i hi => ?_, fun hpos hfree => ?_, fun hpos hheld => ?_⟩
          · rw [hfeed hpos]; exact State.feed_picker hi
          · rw [hgrant hpos hfree]
            exact ⟨rfl, rfl, fun i hi => by rw [hpos] at hi ⊢; exact State.feed_picker hi⟩
          · rw [hwait hpos hheld]
            exact ⟨rfl, rfl, rfl, rfl⟩

/-- A ticket in PICKING taken up by the picker. -/
theorem State.steps_takeUp {e : Dispense} (hd : k.dispense n = some e) (he : e.state = .picking) :
    ∃ e', k.Steps (k.takeUp n) n e e' := by
  obtain ⟨e', h⟩ := State.steps_workPick (k := { k with picker := { k.picker with ticket := some n } }) hd he
  exact ⟨e', h.dispense, h.counts, h.state, h.paused, h.halted, h.picks⟩

/-! ### The result at the ticket -/

theorem Dispense.takeResult_counts {d : Dispense} (r : GaugeResult) (hd : d.state = .picking ∨ d.state = .purging) :
    (d.takeResult r) = { d with
      goodPicked := if r = .single then d.goodPicked + 1 else d.goodPicked,
      plan := if r = .single then pickOne d.plan else d.plan,
      rejectPicks := if r.rejected = 0 then d.rejectPicks else min 999 (d.rejectPicks + r.rejected) } := by
  unfold Dispense.takeResult
  rw [if_pos hd]
  cases r <;> rfl

theorem Staging.takeResult_counts (r : GaugeResult) (value : Nat) (x : Staging) :
    x.takeResult r value = { x with
      held := if r = .single then x.held + 1 else x.held, value := if r = .single then x.value + value else x.value } := by
  cases r <;> rfl

/-- A result is taken by the two commands that bring one, while a pick is in flight. -/
theorem State.exec_result {i : Instr} {r : GaugeResult} {p : Pos}
    (hi : i = .pickMissTimeout ∧ r = .miss
      ∨ ∃ thickness length, i = .gaugeResult thickness length ∧ r = judgeNote s.picker.refs thickness length)
    (hf : s.picker.state = .feeding) (ht : s.picker.ticket = some n) (hp : s.picker.position = some p) :
    exec i s = .next ((s.picked n p r).nextStep n r).reform := by
  have taken (r : GaugeResult) : s.takeGauge r = ((s.picked n p r).nextStep n r).reform := by
    unfold State.takeGauge
    rw [hf, ht, hp]
    rfl
  rcases hi with ⟨rfl, rfl⟩ | ⟨thickness, length, rfl, rfl⟩
  · exact congrArg Host.Outcome.next (taken _)
  · exact congrArg Host.Outcome.next (taken _)

theorem State.reform_slot (p : Pos) : s.reform.slot p = { s.slot p with committed := s.committedAt p } := by
  unfold State.slot
  rw [State.reform_slots, PerPos_get_mapWith]

theorem State.reform_storeFit : s.reform.storeFit = s.storeFit := by
  unfold State.storeFit
  rw [State.reform_slot]
  rfl

/-- The next step of a ticket in PICKING after a result (R73, R75, R76). -/
theorem State.nextStep_picking {e : Dispense} (r : GaugeResult) (hd : k.dispense n = some e) (he : e.state = .picking) :
    k.nextStep n r =
      if e.goodPicked = planNotes e.plan then k.completeBundle n
      else if 0 < r.rejected ∧ k.params.maxRejects < e.rejectPicks then k.haltPick n .rejects
      else k.takeUp n := by
  unfold State.nextStep
  rw [hd]
  dsimp only
  rw [he]

theorem State.pausing_iff : s.pausing = true ↔ s.alarms.lockdown = true ∨ s.countPoint.state ≠ .idle := by
  simp [State.pausing, State.counting]

/-! ### The records after the next step -/

theorem State.segmentCheck_takeUp (g : Segment) : (k.takeUp n).reform.segmentCheck g = k.segmentCheck g := by
  have frame := k.takeUp_frame n
  have hslots : (k.takeUp n).slots = k.slots := by rw [frame]
  have hvault : (k.takeUp n).rejectVault = k.rejectVault := by rw [frame]
  have hslot : (k.takeUp n).reform.slot g.position
      = { k.slot g.position with committed := (k.takeUp n).committedAt g.position } := by
    rw [State.reform_slot]
    unfold State.slot
    rw [hslots]
  rw [State.segmentCheck_rows, State.segmentCheck_rows, State.reform_rejectVault, hvault, hslot]

/-- A complete bundle (R76). -/
theorem State.completeBundle_spares {e : Dispense} (hd : k.dispense n = some e) (he : e.state = .picking) :
    (k.completeBundle n).dispense n = some (e.enter .staged) ∧ (k.completeBundle n).picker = k.picker
      ∧ (k.completeBundle n).staging = { k.staging with complete := true } := by
  have found := State.dispense_claim (takenIn := (· = .picking)) (f := Dispense.enter .staged) hd (decide_eq_true he)
  refine ⟨found, ?_, ?_⟩ <;> unfold State.completeBundle <;> rw [State.claim_frame]

/-- A ticket voided while its pick was in flight (R77): a purge is asked, or nothing is left in staging. -/
theorem State.finishVoid_rows {e : Dispense} (hd : k.dispense n = some e) (he : e.state = .purging) :
    (k.finishVoid n).picker = k.picker
      ∧ (0 < k.staging.held → (k.finishVoid n).dispense n = some e
          ∧ (k.finishVoid n).staging = { k.staging with purge := .waiting })
      ∧ (k.staging.held = 0 → (k.finishVoid n).dispense n = some (e.enter .voided) ∧ (k.finishVoid n).staging = Staging.empty) := by
  unfold State.finishVoid
  by_cases hpos : 0 < k.staging.held
  · rw [if_pos hpos]
    exact ⟨rfl, fun _ => ⟨hd, rfl⟩, fun h => absurd h hpos.ne'⟩
  · rw [if_neg hpos]
    refine ⟨?_, fun h => absurd h hpos, fun _ => ⟨?_, rfl⟩⟩
    · rw [State.claim_frame]
    · exact State.dispense_claim (takenIn := (· = .purging)) (f := Dispense.enter .voided) hd (decide_eq_true he)

/-- Settles O28. -/
theorem pickResultAtTheTicket : Obligations.PickResultAtTheTicket := by
  constructor
  · intro i r t d p s hi hf ht hp hw hold hd rejects
    have hne : s.picker.state ≠ .waitingGate := by rw [hf]; decide
    obtain ⟨dispense, picker, staging, params, clock, waitPicker, granted⟩ :=
      State.picked_spares p r (State.dispense_of_holds hold) hne hw
    obtain ⟨good, plan, rejected, he⟩ : (d.takeResult r).goodPicked = (if r = .single then d.goodPicked + 1 else d.goodPicked)
        ∧ (d.takeResult r).plan = (if r = .single then pickOne d.plan else d.plan)
        ∧ (d.takeResult r).rejectPicks = (if r.rejected = 0 then d.rejectPicks else rejects)
        ∧ (d.takeResult r).state = .picking := by
      rw [Dispense.takeResult_counts r (.inl hd)]
      exact ⟨rfl, rfl, rfl, hd⟩
    have hstep := State.nextStep_picking r dispense he
    have hidle : (s.picked t.number p r).picker.state = .idle := congrArg Picker.state picker
    have hgone : (s.picked t.number p r).picker.ticket = none := congrArg Picker.ticket picker
    rw [State.exec_result hi hf ht hp, ← good, ← plan, ← rejected]
    rw [Staging.takeResult_counts] at staging
    obtain ⟨howner, hheld, hvalue⟩ : (s.picked t.number p r).staging.owner = s.staging.owner
        ∧ (s.picked t.number p r).staging.held = (if r = .single then s.staging.held + 1 else s.staging.held)
        ∧ (s.picked t.number p r).staging.value
          = (if r = .single then s.staging.value + s.picker.refs.value else s.staging.value) := by
      rw [staging]; exact ⟨rfl, rfl, rfl⟩
    generalize s.picked t.number p r = k at *
    generalize d.takeResult r = e at *
    by_cases hfull : e.goodPicked = planNotes e.plan
    · rw [hstep, if_pos hfull]
      obtain ⟨found, hpicker, hstaging⟩ := State.completeBundle_spares dispense he
      refine ⟨_, _, rfl, found, rfl, rfl, rfl, ?_, ?_, ?_, fun _ => ⟨rfl, ?_, ?_, ?_⟩, fun h => absurd hfull h,
        fun h => absurd hfull h⟩
      · exact (congrArg Staging.owner hstaging).trans howner
      · exact (congrArg Staging.held hstaging).trans hheld
      · exact (congrArg Staging.value hstaging).trans hvalue
      · exact congrArg Staging.complete hstaging
      · exact (congrArg Picker.state hpicker).trans hidle
      · exact (congrArg Picker.ticket hpicker).trans hgone
    · rw [if_neg hfull] at hstep
      by_cases hmany : 0 < r.rejected ∧ k.params.maxRejects < e.rejectPicks
      · rw [hstep, if_pos hmany]
        have hstaging : (k.haltPick t.number .rejects).staging = k.staging := by
          unfold State.haltPick; rw [State.claim_frame]
        have hpass : e.rejectPicks = rejects := rejected.trans (if_neg hmany.1.ne')
        refine ⟨_, _, rfl, State.dispense_haltPick dispense he .rejects, rfl, rfl, rfl, ?_, ?_, ?_, fun h => absurd h hfull,
          fun _ _ _ => ⟨rfl, rfl, rfl, rfl⟩, fun _ h => absurd ⟨hmany.1, ?_⟩ h⟩
        · exact (congrArg Staging.owner hstaging).trans howner
        · exact (congrArg Staging.held hstaging).trans hheld
        · exact (congrArg Staging.value hstaging).trans hvalue
        · rw [← params, ← hpass]; exact hmany.2
      · rw [hstep, if_neg hmany]
        obtain ⟨e', steps⟩ := State.steps_takeUp dispense he
        have frame := State.takeUp_frame k t.number
        have hstaging : (k.takeUp t.number).staging = k.staging := by rw [frame]
        have halarms : (k.takeUp t.number).alarms = k.alarms := by rw [frame]
        have hpoint : (k.takeUp t.number).countPoint = k.countPoint := by rw [frame]
        have hslots : (k.takeUp t.number).slots = k.slots := by rw [frame]
        obtain ⟨hgood, hplan, hrejects⟩ := steps.counts
        refine ⟨_, e', rfl, steps.dispense, hgood, hplan, hrejects, ?_, ?_, ?_, fun h => ?_, fun _ h0 hm => ?_, fun _ _ =>
          ⟨steps.state, fun hpause => steps.paused ?_, fun g hl hc hg => ?_⟩⟩
        · exact (congrArg Staging.owner hstaging).trans howner
        · exact (congrArg Staging.held hstaging).trans hheld
        · exact (congrArg Staging.value hstaging).trans hvalue
        · exact absurd (by rw [← hgood, ← hplan]; exact h) hfull
        · exact absurd ⟨h0, by rw [params, rejected, if_neg h0.ne']; exact hm⟩ hmany
        · exact State.pausing_iff.2 (by rw [← halarms, ← hpoint]; exact hpause)
        · have hrun : k.pausing = false := by
            rw [← Bool.not_eq_true, State.pausing_iff, ← halarms, ← hpoint]
            exact fun hpause => hpause.elim (fun hlock => Bool.false_ne_true (hl.symm.trans hlock)) (absurd hc)
          have hseg : currentSegment e.plan = some g := by rw [← hplan]; exact hg
          intro x why fed held
          have hx : x = { k.slot g.position with committed := (k.takeUp t.number).committedAt g.position } := by
            simp only [x]
            rw [State.reform_slot]
            unfold State.slot
            rw [hslots]
          have hwhy : why = k.segmentCheck g :=
            (State.segmentCheck_rows (s := (k.takeUp t.number).reform) g).symm.trans (State.segmentCheck_takeUp g)
          have hfed (i : Identity) : k.fedFrom t.number g.position i = fed i := by
            simp only [fed, State.fedFrom, clock]
          have hgranted := granted (by rw [← halarms]; exact hl)
          have hfit : (k.takeUp t.number).reform.storeFit = k.storeFit :=
            State.reform_storeFit.trans (State.storeFit_congr hslots (by rw [frame]))
          have hheld : held ↔ k.gate.granted ≠ none := by
            simp only [held, hgranted, hfit]
            by_cases hpos : p = .d
            · rw [if_pos hpos, if_pos hpos, ← Bool.and_eq_true]
              cases s.gate.waitDeposit && k.storeFit <;> simp
            · rw [if_neg hpos, if_neg hpos]
          have hid : x.identity = (k.slot g.position).identity := by rw [hx]
          rw [hwhy, hheld, hid]
          refine ⟨fun c hcheck => steps.halted g c hrun hseg hcheck, fun hcheck => ?_⟩
          obtain ⟨hstate, hfeeds, hgrants, hwaits⟩ := steps.picks g hrun hseg hcheck
          simp only [hfed] at hfeeds hgrants
          refine ⟨hstate, hfeeds, fun hpos hfree => hgrants hpos (not_not.1 hfree), fun hpos hh => ?_⟩
          obtain ⟨hpick, hticket, hwaiting, hkept⟩ := hwaits hpos hh
          refine ⟨hpick, hticket, hwaiting, hkept.trans ?_⟩
          rw [hgranted] at hh ⊢
          by_cases hp' : p = .d
          · rw [if_pos hp'] at hh ⊢
            rw [if_pos hp']
            split at hh
            · rename_i hd'; rw [if_pos hd']
            · exact absurd rfl hh
          · rw [if_neg hp', if_neg hp']
  · intro i r t d p s hi hf ht hp hw hold hd
    have hne : s.picker.state ≠ .waitingGate := by rw [hf]; decide
    obtain ⟨dispense, picker, staging, params, clock, waitPicker, granted⟩ :=
      State.picked_spares p r (State.dispense_of_holds hold) hne hw
    rw [Dispense.takeResult_counts r (.inr hd)] at dispense
    rw [Staging.takeResult_counts] at staging
    have hnext : (s.picked t.number p r).nextStep t.number r = (s.picked t.number p r).finishVoid t.number := by
      unfold State.nextStep
      rw [dispense]
      dsimp only
      rw [hd]
    intro held counted
    refine ⟨_, State.exec_result hi hf ht hp, ?_⟩
    rw [hnext]
    obtain ⟨hpicker, purges, voids⟩ := State.finishVoid_rows dispense hd
    have hidle := hpicker.trans picker
    have hheld : (s.picked t.number p r).staging.held = held := by rw [staging]
    have howner : (s.picked t.number p r).staging.owner = s.staging.owner := by rw [staging]
    rw [hheld] at purges voids
    refine ⟨congrArg Picker.state hidle, congrArg Picker.ticket hidle, fun h => ?_, voids⟩
    obtain ⟨found, hpurge⟩ := purges h
    exact ⟨found, congrArg Staging.purge hpurge, (congrArg Staging.held hpurge).trans hheld,
      (congrArg Staging.owner hpurge).trans howner⟩

end Sys2Proof.Machine
end

section
/-! PROOFS. A placed note counted by its takers (R24, R45, R57, R110, R111, R116, R117), and the D gate that it frees (R59, R60). -/

namespace Sys2Proof.Machine

variable {s t u v b : State} {n : Nat} {k : Intake}

/-! ### Claims on intake records (R24) -/

theorem mem_addNumber_self (n : Nat) (xs : List Nat) : n ∈ addNumber n xs :=
  (findByKey_some (findByKey_putByKey_self (key := id) (x := n) xs)).1

/-- An INTAKE ticket put back as one leaves every DISPENSE record. -/
theorem State.dispense_of_intake {t : Ticket} {m : Intake} (ht : s.ticket t.number = some t) (hb : t.body = .intake k)
    (hv : ∀ i, v.ticket i = if i = t.number then some { t with body := .intake m } else s.ticket i) (i : Nat) :
    v.dispense i = s.dispense i := by
  unfold State.dispense
  rw [hv]
  split_ifs with hi
  · rw [hi, ht]
    obtain ⟨_, _, _, _, _, _⟩ := t
    cases hb
    rfl
  · rfl

/-- A count at a collecting ticket leaves the DISPENSE records and all but the tickets. -/
theorem State.intakeCount_spares {f : Intake → Intake} (h : s.intake n = some k) (hk : k.state = .collecting) :
    (s.intakeCount n f).intake n = some (f k) ∧ (∀ i, (s.intakeCount n f).dispense i = s.dispense i)
      ∧ s.intakeCount n f = { s with tickets := (s.intakeCount n f).tickets } := by
  obtain ⟨t, ht, hb⟩ := State.intake_some.1 h
  obtain rfl := (State.ticket_some ht).2
  rw [State.intakeCount_held ⟨ht, hb⟩ hk]
  exact ⟨State.intake_some.2 ⟨_, State.ticket_putTicket_self { t with body := .intake (f k) }, rfl⟩,
    State.dispense_of_intake ht hb (State.ticket_putTicket { t with body := .intake (f k) }), rfl⟩

/-- The end of a run at a collecting ticket (R117). -/
theorem State.endRun_spares (h : s.intake n = some k) (hk : k.state = .collecting) :
    (s.endRun n).intake n = some { k with state := .counted } ∧ (∀ i, (s.endRun n).dispense i = s.dispense i)
      ∧ n ∈ (s.endRun n).changeSet
      ∧ s.endRun n = { s with tickets := (s.endRun n).tickets, changeSet := (s.endRun n).changeSet,
                              reasons := (s.endRun n).reasons,
                              intakeRec := { s.intakeRec with state := .idle, owner := none, escrow := none,
                                                              destination := none, finishHeld := false } } := by
  obtain ⟨t, ht, hb⟩ := State.intake_some.1 h
  obtain rfl := (State.ticket_some ht).2
  rw [State.endRun_held ⟨ht, hb⟩ hk]
  let u : Ticket := { t with body := .intake { k with state := .counted } }
  exact ⟨State.intake_some.2 ⟨_, State.ticket_ticketEnters_self (t := u), rfl⟩,
    State.dispense_of_intake ht hb (State.ticket_ticketEnters u), mem_addNumber_self _ _, rfl⟩

/-! ### The picker's claim as the D gate frees (R59, R60) -/

/-- What the decision of a pick claim spares: it changes the claiming DISPENSE ticket, the picker and the gate alone. -/
structure State.PicksOnly (s t : State) : Prop where
  same : t = { s with tickets := t.tickets, changeSet := t.changeSet, reasons := t.reasons, picker := t.picker, gate := t.gate }
  waitDeposit : t.gate.waitDeposit = s.gate.waitDeposit
  intake : ∀ i, t.intake i = s.intake i

namespace State.PicksOnly

theorem refl : s.PicksOnly s := ⟨rfl, rfl, fun _ => rfl⟩

theorem trans (h : s.PicksOnly t) (k : t.PicksOnly u) : s.PicksOnly u :=
  ⟨by rw [k.same, h.same], k.waitDeposit.trans h.waitDeposit, fun i => (k.intake i).trans (h.intake i)⟩

end State.PicksOnly

/-- A claim on a DISPENSE ticket leaves every INTAKE record. -/
theorem State.intake_claim (takenIn : DispenseState → Bool) (f : Dispense → Dispense) (i : Nat) :
    (s.claim n takenIn f).intake i = s.intake i := by
  rcases State.claim_cases (s := s) n takenIn f with ⟨d, hd, -, h⟩ | h <;> rw [h]
  obtain ⟨t, ht, hb⟩ := State.dispense_some.1 hd
  obtain rfl := (State.ticket_some ht).2
  rw [State.move_held ht]
  unfold State.intake
  rw [State.ticket_ticketEnters]
  split_ifs with hi
  · rw [hi, ht]
    obtain ⟨_, _, _, _, _, _⟩ := t
    cases hb
    rfl
  · rfl

theorem State.picksOnly_haltPick (n : Nat) (why : HaltReason) : s.PicksOnly (s.haltPick n why) := by
  refine ⟨?_, ?_, fun i => State.intake_claim _ _ i⟩ <;> unfold State.haltPick <;> rw [State.claim_frame]

theorem State.picksOnly_decidePick (n : Nat) : s.PicksOnly (s.decidePick n) := by
  have freed : s.PicksOnly { s with gate := { s.gate with waitPicker := false } } := ⟨rfl, rfl, fun _ => rfl⟩
  unfold State.decidePick
  dsimp only
  split
  · exact freed.trans (State.picksOnly_haltPick _ _)
  · split
    · exact freed.trans (State.picksOnly_haltPick _ _)
    · exact ⟨rfl, rfl, fun _ => rfl⟩

theorem State.picksOnly_serveGatePicker : s.PicksOnly s.serveGatePicker := by
  unfold State.serveGatePicker
  split
  · split
    · exact State.picksOnly_decidePick _
    · exact .refl
  · exact .refl

theorem State.serveGateDeposit_noStore (h : s.gate.waitDeposit = false) : s.serveGateDeposit = s := by
  unfold State.serveGateDeposit
  rw [h, if_neg]
  exact fun hw => Bool.false_ne_true hw.1

/-- With no store claim waiting, the end of a grant decides the pick claim alone. -/
theorem State.freeGate_noStore (h : s.gate.waitDeposit = false) :
    s.freeGate = State.serveGatePicker { s with gate := { s.gate with granted := none } } := by
  have before : ({ s with gate := { s.gate with granted := none } } : State).serveGateDeposit = _ :=
    State.serveGateDeposit_noStore h
  have after := State.serveGateDeposit_noStore
    ((State.picksOnly_serveGatePicker (s := { s with gate := { s.gate with granted := none } })).waitDeposit.trans h)
  unfold State.freeGate
  dsimp only
  rw [before, after, ite_self]

/-- The pick claim's part of the check of the waiting claims (R60). -/
def State.recheckPick (s : State) : State :=
  if s.gate.waitPicker then
    match (s.slot .d).pickUnfit, s.picker.ticket with
    | some why, some n => { s with gate := { s.gate with waitPicker := false } }.haltPick n why
    | _, _ => s
  else s

theorem State.recheckPick_unfit {why : HaltReason} (hw : s.gate.waitPicker = true) (hu : (s.slot .d).pickUnfit = some why)
    (hn : s.picker.ticket = some n) :
    s.recheckPick = State.haltPick { s with gate := { s.gate with waitPicker := false } } n why := by
  unfold State.recheckPick
  rw [if_pos hw, hu, hn]

theorem State.recheckPick_noPick (hw : s.gate.waitPicker = false) : s.recheckPick = s :=
  if_neg (by rw [hw]; exact Bool.false_ne_true)

theorem State.recheckPick_fit (hu : (s.slot .d).pickUnfit = none) : s.recheckPick = s := by
  unfold State.recheckPick
  rw [hu]
  exact ite_self _

theorem State.picksOnly_recheckPick : s.PicksOnly s.recheckPick := by
  have freed : s.PicksOnly { s with gate := { s.gate with waitPicker := false } } := ⟨rfl, rfl, fun _ => rfl⟩
  unfold State.recheckPick
  split
  · split
    · exact freed.trans (State.picksOnly_haltPick _ _)
    · exact .refl
  · exact .refl

/-- With no store claim waiting, the check of the waiting claims is the pick claim's. -/
theorem State.recheckGate_noStore (h : s.gate.waitDeposit = false) : s.recheckGate = s.recheckPick := by
  refine if_neg fun hw => Bool.false_ne_true ?_
  rw [← h, ← hw.1]
  exact State.picksOnly_recheckPick.waitDeposit.symm

/-- The gate freed after the check of the waiting claims, with no store claim waiting. -/
theorem State.picksOnly_freed (h : s.gate.waitDeposit = false) : s.PicksOnly s.recheckGate.freeGate := by
  have checked : s.PicksOnly s.recheckPick := State.picksOnly_recheckPick
  have freed : s.recheckPick.PicksOnly { s.recheckPick with gate := { s.recheckPick.gate with granted := none } } :=
    ⟨rfl, rfl, fun _ => rfl⟩
  rw [State.recheckGate_noStore h, State.freeGate_noStore (checked.waitDeposit.trans h)]
  exact (checked.trans freed).trans State.picksOnly_serveGatePicker

/-- What D, and after it the reject vault, gives as the reason of a pick claim's halt (R56, R60; log entry 9). -/
theorem Slot.pickUnfit_rows (x : Slot) (full : Bool) :
    (match x.state with
      | .absent => some HaltReason.removed
      | .suspended => some .suspended
      | .identifying | .refused | .releasePending | .unlocked => some .notReady
      | .inService => if x.depleted ≠ .clear then some .depleted else if full then some .rejectFull else none)
      = x.pickUnfit.or (if full then some .rejectFull else none) := by
  unfold Slot.pickUnfit
  cases x.state
  case inService =>
    simp only [ite_not]
    split <;> rfl
  all_goals rfl

/-- A halt leaves the gate, and the picker stops (R70). -/
theorem State.haltPick_gate (why : HaltReason) : (s.haltPick n why).gate = s.gate ∧ (s.haltPick n why).picker = s.picker.stop := by
  unfold State.haltPick
  rw [State.claim_frame]
  exact ⟨rfl, rfl⟩

/-- The waiting pick claim as the gate frees, from the state with D as the store leaves it. -/
theorem State.servesPick_freed (h : s.gate.waitDeposit = false) : s.servesPick s.recheckGate.freeGate := by
  have hslot : s.recheckGate.freeGate.slot .d = s.slot .d := by
    unfold State.slot
    rw [(State.picksOnly_freed h).same]
  let freed : State := { s with gate := { s.gate with granted := none } }
  refine ⟨fun hw => ?_, fun t d hw hn hold hd => ?_⟩
  · have hfree : s.recheckGate.freeGate = freed := by
      rw [State.recheckGate_noStore h, State.recheckPick_noPick hw, State.freeGate_noStore h]
      exact State.serveGatePicker_noPick hw
    rw [hfree]
    exact ⟨rfl, rfl⟩
  · intro x why
    have hx : x = s.slot .d := hslot
    have hwhy : why = (s.slot .d).pickUnfit.or (if s.rejectVault.full then some .rejectFull else none) := by
      simp only [why, hx]
      exact Slot.pickUnfit_rows _ _
    rw [hwhy, hx]
    have hdis := State.dispense_of_holds hold
    cases hu : (s.slot .d).pickUnfit with
    | some c =>
      let v : State := State.haltPick { s with gate := { s.gate with waitPicker := false } } t.number c
      obtain ⟨hgate, hpicker⟩ : v.gate = { s.gate with waitPicker := false } ∧ v.picker = s.picker.stop := State.haltPick_gate c
      have hfree : s.recheckGate.freeGate = { v with gate := { v.gate with granted := none } } := by
        rw [State.recheckGate_noStore h, State.recheckPick_unfit hw hu hn, State.freeGate_noStore (by rw [hgate]; exact h)]
        exact State.serveGatePicker_noPick (by rw [hgate])
      rw [hfree]
      refine ⟨fun r hr => ?_, fun hr => by cases hr⟩
      cases hr
      refine ⟨by rw [hgate], congrArg Picker.state hpicker, congrArg Picker.ticket hpicker, ?_⟩
      exact State.dispense_haltPick (s := { s with gate := { s.gate with waitPicker := false } }) hdis hd c
    | none =>
      have hserve : s.recheckGate.freeGate = freed.decidePick t.number := by
        rw [State.recheckGate_noStore h, State.recheckPick_fit hu, State.freeGate_noStore h]
        unfold State.serveGatePicker
        rw [if_pos ⟨hw, rfl⟩, hn]
      rw [hserve]
      cases hv : s.rejectVault.full with
      | true =>
        obtain ⟨hgate, hpicker⟩ := State.haltPick_gate (s := { freed with gate := { freed.gate with waitPicker := false } })
          (n := t.number) .rejectFull
        rw [State.decidePick_full (s := freed) hv]
        refine ⟨fun r hr => ?_, fun hr => by cases hr⟩
        cases hr
        exact ⟨hgate, congrArg Picker.state hpicker, congrArg Picker.ticket hpicker,
          State.dispense_haltPick (s := { freed with gate := { freed.gate with waitPicker := false } }) hdis hd .rejectFull⟩
      | false =>
        rw [State.decidePick_granted (s := freed) hv hu]
        refine ⟨fun r hr => (by cases hr), fun _ i hi => ⟨rfl, ?_, hdis⟩⟩
        exact State.feed_picker (s := { s with gate := _ }) hi

/-- The answer to the pick claim is about the gate, the picker and position D alone. -/
theorem State.servesPick_congr {c : Nat} (h : v.servesPick t) (hg : v.gate = s.gate) (hp : v.picker = s.picker)
    (ht : v.tickets = s.tickets) (hv : v.rejectVault = s.rejectVault) (hc : v.clock = s.clock) (hug : u.gate = t.gate)
    (hup : u.picker = t.picker) (hud : ∀ i, u.dispense i = t.dispense i) (hus : u.slot .d = { t.slot .d with committed := c }) :
    s.servesPick u := by
  unfold State.servesPick at h ⊢
  rw [hg, hp, hv, hc] at h
  rw [hug, hup, hus]
  refine ⟨h.1, fun m d hw hn hold hd => ?_⟩
  have hold' : v.holdsDispense m d := ⟨by unfold State.ticket; rw [ht]; exact hold.1, hold.2⟩
  rw [hud]
  exact h.2 m d hw hn hold' hd

/-! ### The takers of a placed note (R24, R45, R57, R116) -/

/-- A note placed in D, in the slot, in the retiring copy or behind the balance (R45, R170). -/
def State.storedNote (s : State) : State :=
  match s.intakeRec.storedTo with
  | .slot => s.putSlot .d ((s.slot .d).takeStore (s.params.lowLevels.get .d))
  | .copy => s.changeCopy .d Slot.addNote
  | .gone =>
    { s with countPoint := { s.countPoint with storedAfter := s.countPoint.storedAfter.raise Config.max16 1 } }

theorem State.countStore_eq : s.countStore = s.storedNote.recheckGate := rfl

theorem State.storedNote_frame : s.storedNote =
    { s with slots := s.storedNote.slots, retiring := s.storedNote.retiring, countPoint := s.storedNote.countPoint,
             reasons := s.storedNote.reasons } := by
  unfold State.storedNote
  split <;> rfl

/-- A note stored in the cassette in service (R45), with no figure at its end. -/
theorem Slot.takeStore_eq {x : Slot} (level : Nat) (h : x.storedIn + 1 ≤ 65535) :
    x.takeStore level = { x with
      count := x.count + 1, storedIn := x.storedIn + 1, totalStoredIn := min 65535 (x.totalStoredIn + 1),
      depleted := if x.depleted = .zero then .clear else x.depleted,
      low := x.state.live && decide (x.count + 1 ≤ level) } := by
  have kept : x.relieve (x.storedIn + 1) = x := if_neg (Nat.not_lt.2 h)
  unfold Slot.takeStore Slot.addNote
  rw [kept]
  rfl

/-- The bank's part of a placed note leaves the intake records, and its gate serves the pick claim where D took the note. -/
theorem State.bankNote_spares {x : Destination} (e : Escrow) (hp : s.intakeRec.state = .placing)
    (hw : x = .cassetteD → s.gate.waitDeposit = false) :
    (∀ i, (s.bankNote x e).intake i = s.intake i) ∧ (s.bankNote x e).intakeRec = s.intakeRec
      ∧ (s.bankNote x e).headSent = s.headSent ∧ (x ≠ .cassetteD → (s.bankNote x e).gate.granted = s.gate.granted)
      ∧ (x = .cassetteD → s.servesPick (s.bankNote x e)) := by
  obtain ⟨code, value⟩ := e
  cases x with
  | tray => exact ⟨fun _ => rfl, rfl, rfl, fun _ => rfl, fun h => by cases h⟩
  | vault =>
    cases code with
    | none => exact ⟨fun _ => rfl, rfl, rfl, fun _ => rfl, fun h => by cases h⟩
    | some c =>
      have handed := (State.handed_handVaults { s with intakeVault := s.intakeVault.addNote c }).spares
      obtain ⟨hrec, hsent, -⟩ := handed.note (by rw [hp]; decide)
      exact ⟨handed.marks.intake, hrec, hsent, fun _ => handed.granted, fun h => by cases h⟩
  | cassetteD =>
    have frame := s.storedNote_frame
    have hstore : s.storedNote.gate.waitDeposit = false := by rw [frame]; exact hw rfl
    have freed := State.picksOnly_freed hstore
    have hbank : s.bankNote .cassetteD ⟨code, value⟩ = s.storedNote.recheckGate.freeGate := rfl
    rw [hbank]
    refine ⟨fun i => (freed.intake i).trans (by rw [frame]; rfl), ?_, ?_, fun h => absurd rfl h, fun _ => ?_⟩
    · rw [freed.same, frame]
    · rw [freed.same, frame]
    · refine State.servesPick_congr (State.servesPick_freed hstore) ?_ ?_ ?_ ?_ ?_ rfl rfl (fun _ => rfl) rfl <;> rw [frame]

/-- The records after a placed note is counted by the bank and at its ticket. -/
theorem State.counted_spares {x : Destination} (e : Escrow) (h : s.intake n = some k) (hk : k.state = .collecting)
    (hp : s.intakeRec.state = .placing) (hw : x = .cassetteD → s.gate.waitDeposit = false) :
    let v := (s.bankNote x e).intakeCount n (Intake.placed x e)
    v.intake n = some (Intake.placed x e k) ∧ v.intakeRec = s.intakeRec ∧ v.headSent = s.headSent
      ∧ (x ≠ .cassetteD → v.gate.granted = s.gate.granted) ∧ (x = .cassetteD → s.servesPick v)
      ∧ v = { s.bankNote x e with tickets := v.tickets } := by
  obtain ⟨hintake, hrec, hsent, hgate, hserves⟩ := State.bankNote_spares e hp hw
  obtain ⟨found, dispense, frame⟩ := State.intakeCount_spares (f := Intake.placed x e) ((hintake n).trans h) hk
  refine ⟨found, ?_, ?_, fun hx => ?_, fun hx => ?_, frame⟩
  · rw [frame]; exact hrec
  · rw [frame]; exact hsent
  · rw [frame]; exact hgate hx
  · refine State.servesPick_congr (c := ((s.bankNote x e).slot .d).committed) (hserves hx) rfl rfl rfl rfl rfl ?_ ?_
      dispense ?_ <;> rw [frame]
    rfl

theorem State.exec_notePlaced {x : Destination} {e : Escrow} (ho : s.intakeRec.owner = some n) (hp : s.intakeRec.state = .placing)
    (hx : s.intakeRec.destination = some x) (he : s.intakeRec.escrow = some e) :
    exec .notePlaced s = .next (s.notePlaced n x e).reform := by
  show execNotePlaced s = _
  unfold execNotePlaced
  rw [hp, ho, hx, he]

/-- With no finish held the record is OPEN again (R116). -/
theorem State.leavePlacing_open (h : s.intakeRec.finishHeld = false) :
    s.leavePlacing n = { s with intakeRec := { s.intakeRec with state := .ready, escrow := none, destination := none } } :=
  if_neg (by rw [h]; exact Bool.false_ne_true)

/-- With a finish held the run ends (R116, R117). -/
theorem State.leavePlacing_ends (h : s.intakeRec.finishHeld = true) : s.leavePlacing n = s.endRun n := if_pos h

theorem Intake.placed_state (x : Destination) (e : Escrow) (k : Intake) : (k.placed x e).state = k.state := by
  unfold Intake.placed Intake.accept
  split <;> rfl

/-- The answer to the pick claim stands as the formed values are formed again. -/
theorem State.servesPick_reform (h : s.servesPick v) (hg : u.gate = v.gate) (hp : u.picker = v.picker)
    (hd : ∀ i, u.dispense i = v.dispense i) (hs : u.slots = v.slots) : s.servesPick u.reform := by
  refine State.servesPick_congr (c := u.committedAt .d) h rfl rfl rfl rfl rfl hg hp hd ?_
  rw [State.reform_slot]
  unfold State.slot
  rw [hs]

/-- Settles O41. -/
theorem notePlacedIsCounted : Obligations.NotePlacedIsCounted := by
  refine ⟨fun t k c v s hold hk ho hf => ⟨fun hp hx he => ?_, fun e hp hx he => ?_, fun hr hs => ?_⟩, fun s hi hs => ?_,
    fun t k c v s hold hk ho hp hx he hto hf hw hmax => ?_, fun t k x e s hold hk ho hp hx he hf hw => ?_⟩
  · refine ⟨_, State.exec_notePlaced ho hp hx he, ?_⟩
    obtain ⟨found, hrec, -, -, -, frame⟩ :=
      State.counted_spares (x := .vault) ⟨some c, some v⟩ (State.intake_of_holds hold) hk hp nofun
    have handed := (State.handed_handVaults { s with intakeVault := s.intakeVault.addNote c }).spares.same
    have hbank : s.bankNote .vault ⟨some c, some v⟩ = State.handVaults { s with intakeVault := s.intakeVault.addNote c } := rfl
    unfold State.notePlaced
    generalize (s.bankNote .vault ⟨some c, some v⟩).intakeCount t.number (Intake.placed .vault ⟨some c, some v⟩) = w at *
    rw [State.leavePlacing_open (by rw [hrec]; exact hf)]
    have hvault : w.intakeVault = s.intakeVault.addNote c := by rw [frame, hbank, handed]
    have hchange : w.changeSet = s.changeSet := by rw [frame, hbank, handed]
    refine ⟨found, congrArg IntakeVault.entries hvault, ?_, rfl, rfl, hchange⟩
    have hsince : (s.intakeVault.addNote c).since.get c = (s.intakeVault.since.get c).raise 65535 1 := PerCode_get_set_self _ _ _
    show (w.intakeVault.since.get c).total = _
    rw [hvault, hsince]
    rfl
  · rw [State.exec_notePlaced ho hp hx he]
    unfold State.notePlaced State.bankNote
    dsimp only
    rw [State.intakeCount_held hold hk, State.leavePlacing_open (s := s.putTicket _) hf]
    rfl
  · show execNotePlaced s = _
    unfold execNotePlaced State.strayPlaced
    rw [hr, hs]
    rfl
  · show execNotePlaced s = _
    unfold execNotePlaced State.strayPlaced
    rw [hi, hs]
    rfl
  · intro x
    refine ⟨_, State.exec_notePlaced ho hp hx he, ?_⟩
    obtain ⟨found, hrec, -, -, hserves, frame⟩ :=
      State.counted_spares (x := .cassetteD) ⟨some c, some v⟩ (State.intake_of_holds hold) hk hp fun _ => hw
    have hbank : s.bankNote .cassetteD ⟨some c, some v⟩ = s.storedNote.recheckGate.freeGate := rfl
    have hwait : s.storedNote.gate.waitDeposit = false := by rw [State.storedNote_frame]; exact hw
    have hstored : s.storedNote = s.putSlot .d ((s.slot .d).takeStore (s.params.lowLevels.get .d)) := by
      unfold State.storedNote; rw [hto]
    unfold State.notePlaced
    generalize (s.bankNote .cassetteD ⟨some c, some v⟩).intakeCount t.number (Intake.placed .cassetteD ⟨some c, some v⟩) = w at *
    rw [State.leavePlacing_open (by rw [hrec]; exact hf)]
    refine ⟨?_, found, rfl, State.servesPick_reform (hserves rfl) rfl rfl (fun _ => rfl) rfl⟩
    have hslots : w.slots = s.slots.set .d ((s.slot .d).takeStore (s.params.lowLevels.get .d)) := by
      have hfreed : s.storedNote.recheckGate.freeGate.slots = s.storedNote.slots := by rw [(State.picksOnly_freed hwait).same]
      rw [frame, hbank, hfreed, hstored]
      rfl
    have hslot : w.slot .d = (s.slot .d).takeStore (s.params.lowLevels.get .d) := by
      unfold State.slot
      rw [hslots]
      exact PerPos_get_set_self _ _ _
    rw [State.reform_slot]
    refine (congrArg (fun y : Slot => { y with committed := w.committedAt .d }) hslot).trans ?_
    rw [Slot.takeStore_eq _ hmax]
    rfl
  · refine ⟨_, State.exec_notePlaced ho hp hx he, ?_⟩
    obtain ⟨found, hrec, hsent, hgate, hserves, -⟩ :=
      State.counted_spares (x := x) e (State.intake_of_holds hold) hk hp fun _ => hw
    unfold State.notePlaced
    generalize (s.bankNote x e).intakeCount t.number (Intake.placed x e) = w at *
    obtain ⟨counted, dispense, changed, frame⟩ := State.endRun_spares found ((Intake.placed_state x e k).trans hk)
    rw [State.leavePlacing_ends (by rw [hrec]; exact hf)]
    generalize w.endRun t.number = z at *
    have hidle : z.intakeRec.state = .idle ∧ z.intakeRec.owner = none ∧ z.intakeRec.escrow = none
        ∧ z.intakeRec.destination = none ∧ z.intakeRec.finishHeld = false := by
      rw [frame]; exact ⟨rfl, rfl, rfl, rfl, rfl⟩
    obtain ⟨h1, h2, h3, h4, h5⟩ := hidle
    have hzgate : z.gate = w.gate := by rw [frame]
    have hzpicker : z.picker = w.picker := by rw [frame]
    have hzslots : z.slots = w.slots := by rw [frame]
    have hzsent : z.headSent = w.headSent := by rw [frame]
    refine ⟨changed, h1, h2, h3, h4, h5, hzsent.trans hsent,
      fun hx => State.servesPick_reform (hserves hx) hzgate hzpicker dispense hzslots,
      fun hx => (congrArg Gate.granted hzgate).trans (hgate hx), fun hx => ?_, fun c v he => ⟨fun hx => ?_, fun hx => ?_⟩⟩
    · subst hx; exact counted
    · subst hx he; exact counted
    · subst hx he; exact counted

end Sys2Proof.Machine
end

section
/-! PROOFS. The drawer reports of a presentation (R29, R88, R134, R193) and the join decision of a drawer (R92). -/

namespace Sys2Proof.Machine

variable {s : State} {t : Ticket} {d : Dispense} {p : Presentation} {l : Lane} {x : DrawerReport} {notes fault : Bool}

theorem PerLane_set_set {α : Type} (m : PerLane α) (l : Lane) (x y : α) : (m.set l x).set l y = m.set l y := by cases l <;> rfl

/-! ### Retracts asked (R83) -/

theorem State.askRetract_free {e : Retract} (h : s.retracting e.lane = false) :
    s.askRetract e = { s with retracts := s.retracts ++ [e] } := if_neg (by rw [h]; exact Bool.false_ne_true)

theorem State.askRetract_under {e : Retract} (h : s.retracting e.lane = true) : s.askRetract e = s := if_pos h

/-- The entry of a retract asked for a ticket with a DISPENSE record (R65). -/
theorem State.ticketRetract_of_dispense {n : Nat} (h : s.dispense n = some d) (kind : RetractKind) :
    s.ticketRetract l n kind =
      { lane := l, holder := .ticket n, kind := kind, expected := d.presented, stage := .owed } := by
  unfold State.ticketRetract
  rw [h]
  rfl

/-- A retract is under way when it stands in the list or runs (R83). -/
theorem State.retracting_iff : s.retracting l = true ↔
    (∃ e ∈ s.retracts, e.lane = l) ∨ ∃ h k e, s.route = .retracting l h k e := by
  unfold State.retracting State.retractingFrom
  rw [Bool.or_eq_true, List.any_eq_true]
  refine or_congr (by simp) ?_
  cases s.route with
  | retracting m h k e => simp
  | free => simp
  | delivering m n a b => simp
  | sweeping => simp

theorem State.deliveringTo_iff : s.deliveringTo l = true ↔ ∃ n notes value, s.route = .delivering l n notes value := by
  unfold State.deliveringTo
  cases s.route with
  | delivering m n a b => simp
  | free => simp
  | retracting m h k e => simp
  | sweeping => simp

/-! ### Whom a report goes to (R130) -/

theorem State.drawerReport_present (hp : s.presentations.get l = some p) (hn : p.ticket = t.number)
    (hold : s.holdsDispense t d) (hl : d.laneLost = false) :
    s.drawerReport l x notes fault = s.presentReport l p x notes fault := by
  unfold State.drawerReport
  rw [hp]
  dsimp only
  rw [hn, State.dispense_of_holds hold]
  dsimp only
  rw [hl, if_pos Bool.false_ne_true]

theorem State.drawerReport_lost (hp : s.presentations.get l = some p) (hn : p.ticket = t.number)
    (hold : s.holdsDispense t d) (hl : d.laneLost = true) (hd : d.state = .presented) (ho : (s.lane l).lost ≠ .idle) :
    s.drawerReport l x notes fault = s.lostReport l p x notes fault := by
  unfold State.drawerReport
  rw [hp]
  dsimp only
  rw [hn, State.dispense_of_holds hold]
  dsimp only
  rw [hl, if_neg (not_not.2 rfl), if_pos ⟨ho, hd⟩]

/-! ### A shut drawer decided (R88) -/

/-- The take timer stopped and the presentation decided NOTES (R29, R88). -/
def State.decidedNotes (s : State) (t : Ticket) (d : Dispense) (l : Lane) (p : Presentation) : State :=
  { s.putTicket { t with body := .dispense { d with deadline := none } } with
    presentations := s.presentations.set l (some { p with decided := true }) }

/-- The retract of kind TICKET asked then (R83). -/
theorem State.askRetract_decidedNotes (hn : p.ticket = t.number) (hr : s.retracting l = false) :
    (s.decidedNotes t d l p).askRetract ((s.decidedNotes t d l p).ticketRetract l p.ticket .ticket) =
      { s.decidedNotes t d l p with retracts := s.retracts ++
          [{ lane := l, holder := .ticket t.number, kind := .ticket, expected := d.presented, stage := .owed }] } := by
  have found : (s.decidedNotes t d l p).dispense t.number = some { d with deadline := none } :=
    State.dispense_some.2 ⟨_, State.ticket_putTicket_self { t with body := .dispense { d with deadline := none } }, rfl⟩
  rw [hn, State.ticketRetract_of_dispense found]
  exact State.askRetract_free (s := s.decidedNotes t d l p) hr

theorem State.decideClose_empty (hn : p.ticket = t.number) (hold : s.holdsDispense t d) (hd : d.state = .presented) :
    s.decideClose l p false =
      { s.ticketEnters { t with body := .dispense { d with
          state := .delivered, halt := none, deadline := none, delivered := d.presented } } with
        lanes := s.lanes.set l { s.lane l with holder := none }, presentations := s.presentations.set l none } := by
  have claimed : s.claim t.number (· = .presented) (fun d => { d.enter .delivered with delivered := d.presented }) = _ :=
    State.claim_held hold (decide_eq_true hd)
  unfold State.decideClose
  rw [hn, claimed]
  rfl

theorem State.decideClose_notes (hn : p.ticket = t.number) (hold : s.holdsDispense t d) (hr : s.retracting l = false) :
    s.decideClose l p true =
      { s.putTicket { t with body := .dispense { d with deadline := none } } with
        presentations := s.presentations.set l (some { p with decided := true }),
        retracts := s.retracts ++
          [{ lane := l, holder := .ticket t.number, kind := .ticket, expected := d.presented, stage := .owed }] } := by
  have adjusted : s.adjust p.ticket (fun d => { d with deadline := none }) = _ :=
    (congrArg (s.adjust · _) hn).trans (State.adjust_held hold)
  unfold State.decideClose
  rw [adjusted]
  exact State.askRetract_decidedNotes hn hr

/-! ### The lost decision (R134) -/

theorem State.lostReport_notes (hn : p.ticket = t.number) (hold : s.holdsDispense t d) (hx : x ≠ .opened)
    (hr : s.retracting l = false) :
    s.lostReport l p x true false =
      { s.putTicket { t with body := .dispense { d with deadline := none } } with
        presentations := s.presentations.set l (some { p with decided := true }),
        lanes := s.lanes.set l { s.lane l with lost := .idle, lostTimer := none },
        retracts := s.retracts ++
          [{ lane := l, holder := .ticket t.number, kind := .ticket, expected := d.presented, stage := .owed }] } := by
  have adjusted : s.adjust p.ticket (fun d => { d with deadline := none }) = _ :=
    (congrArg (s.adjust · _) hn).trans (State.adjust_held hold)
  have asked := State.askRetract_decidedNotes (s := s.putLane l { s.lane l with lost := .idle, lostTimer := none }) (l := l) (d := d) hn hr
  unfold State.lostReport
  rw [if_neg Bool.false_ne_true, if_neg hx, if_pos rfl, adjusted]
  exact asked

/-- A PRESENTED ticket disputed (R135). -/
theorem State.dispute_held (hold : s.holdsDispense t d) (hd : d.state = .presented) :
    s.dispute t.number l =
      { s.ticketEnters { t with body := .dispense { d with
          state := .disputed, halt := none, deadline := none, unresolved := d.presented } } with
        disputes := putByKey Dispute.key ⟨t.number, l, none⟩ s.disputes,
        lanes := s.lanes.set l { s.lane l with lost := .idle, lostTimer := none },
        presentations := s.presentations.set l none } := by
  unfold State.dispute
  rw [State.dispense_of_holds hold]
  dsimp only
  rw [if_pos hd, State.move_held hold.1]
  rfl

theorem State.lostReport_empty (hn : p.ticket = t.number) (hold : s.holdsDispense t d) (hd : d.state = .presented)
    (hx : x ≠ .opened) :
    s.lostReport l p x false false =
      { s.ticketEnters { t with body := .dispense { d with
          state := .disputed, halt := none, deadline := none, unresolved := d.presented } } with
        disputes := putByKey Dispute.key ⟨t.number, l, none⟩ s.disputes,
        lanes := s.lanes.set l { s.lane l with lost := .idle, lostTimer := none, holder := none },
        presentations := s.presentations.set l none } := by
  have lane : (s.lanes.set l { s.lane l with lost := .idle, lostTimer := none }).get l
      = { s.lane l with lost := .idle, lostTimer := none } := PerLane_get_set_self _ _ _
  unfold State.lostReport
  rw [if_neg Bool.false_ne_true, if_neg hx, if_neg Bool.false_ne_true, hn, State.dispute_held hold hd]
  unfold State.putLane State.lane
  dsimp only
  rw [PerLane_set_set]
  exact congrArg (fun r : LaneRec => { s.ticketEnters _ with
    disputes := putByKey Dispute.key ⟨t.number, l, none⟩ s.disputes,
    lanes := s.lanes.set l { r with holder := none }, presentations := s.presentations.set l none }) lane

/-! ### The reports that decide nothing (R29, R193) -/

theorem State.startTake_held (hold : s.holdsDispense t d) (hd : d.state = .presented) (hn : d.deadline = none) :
    s.startTake t.number = s.putTicket { t with body := .dispense { d with deadline := some ⟨.take, s.params.takeTimeout⟩ } } := by
  have adjusted : s.startTake t.number = _ := State.adjust_held hold
  rw [adjusted, if_pos ⟨hd, hn⟩]

/-- The reports of a presentation whose lane is not lost: open, taken for nothing, or the first unlocked one. -/
theorem State.presentReport_rows :
    (x = .opened → s.presentReport l p x notes fault = s.putPresentation l (some { p with openedSeen := true }))
      ∧ (x ≠ .opened → fault = true ∨ p.decided = true → s.presentReport l p x notes fault = s)
      ∧ (x ≠ .opened → fault = false → p.decided = false → p.openedSeen = true ∨ p.closeAsked = true →
          s.presentReport l p x notes fault = s.decideClose l p notes)
      ∧ (x = .locked → p.openedSeen = false → p.closeAsked = false → s.presentReport l p x notes fault = s)
      ∧ (x = .unlocked → fault = false → p.decided = false → p.openedSeen = false → p.closeAsked = false →
          s.presentReport l p x notes fault = s.startTake p.ticket) := by
  unfold State.presentReport
  refine ⟨fun hx => if_pos hx, fun hx hf => ?_, fun hx hf hd ho => ?_, fun hx ho hc => ?_, fun hx hf hd ho hc => ?_⟩
  · rw [if_neg hx, if_pos hf]
  · rw [if_neg hx, if_neg (by simp [hf, hd]), if_pos ho]
  · subst hx
    simp [ho, hc]
  · subst hx
    simp [hf, hd, ho, hc]

/-! ### The join decision (R92) -/

theorem State.decideDrawer_none (h : (s.lane l).holder = none) :
    s.decideDrawer l =
      if (s.lane l).repNotes = some true ∧ ¬ s.deliveringTo l then
        (s.putLane l { s.lane l with holder := some .sweep }).askRetract
          { lane := l, holder := .sweep, kind := .sweep, expected := 200, stage := .owed }
      else s := by
  unfold State.decideDrawer
  dsimp only
  rw [h]
  rfl

theorem State.decideDrawer_ticket {n : Nat} (h : (s.lane l).holder = some (.ticket n)) (hd : s.dispense n = some d) :
    s.decideDrawer l =
      if d.state = .disputed then
        if (s.lane l).repNotes = some true then s.askRetract (s.ticketRetract l n .disputed)
        else if s.retracting l then s
        else s.putLane l { s.lane l with holder := none }
      else s := by
  unfold State.decideDrawer
  dsimp only
  rw [h]
  dsimp only
  rw [hd]

end Sys2Proof.Machine
end

section
/-! PROOFS. The frame end in a frame in which one lane alone has a reply (R128 to R131, R134), the sources of the Alarm Unit being
handed without a look at the lane records. -/

namespace Sys2Proof.Machine

variable {s u : State} {l : Lane} {w : Uplink} {r v : LaneRec}

/-! ### The lane records aside -/

/-- The lane records replaced. -/
def State.withLanes (s : State) (L : PerLane LaneRec) : State := { s with lanes := L }

section Aside
variable (L : PerLane LaneRec)

theorem State.withLanes_ite (c : Prop) [Decidable c] (a b : State) :
    (if c then a.withLanes L else b.withLanes L) = (if c then a else b).withLanes L :=
  (apply_ite (State.withLanes · L) c a b).symm

theorem State.askClose_withLanes (m : Lane) : (s.withLanes L).askClose m = (s.askClose m).withLanes L := by
  unfold State.askClose
  have same : (s.withLanes L).presentations.get m = s.presentations.get m := rfl
  rw [same]
  cases s.presentations.get m <;> rfl

theorem State.redecide_withLanes : (s.withLanes L).redecide = s.redecide.withLanes L := by
  unfold State.redecide
  have same : (s.withLanes L).intakeRec.escrow = s.intakeRec.escrow := rfl
  rw [same]
  cases s.intakeRec.escrow <;> rfl

theorem State.decideStore_withLanes : (s.withLanes L).decideStore = s.decideStore.withLanes L := by
  let t : State := { s with gate := { s.gate with waitDeposit := false } }
  have same : (t.withLanes L).storeFit = t.storeFit := rfl
  show (if (t.withLanes L).storeFit then _ else (t.withLanes L).redecide) = State.withLanes (if t.storeFit then _ else t.redecide) L
  rw [same, State.redecide_withLanes]
  cases t.storeFit <;> rfl

/-- The intake record with a note in escrow. -/
def State.escrowed (s : State) (e : Escrow) : State := { s with intakeRec := { s.intakeRec with escrow := some e } }

/-- The note's store claim placed (R112 row 4, R114). -/
def State.claimsStore (s : State) : State :=
  { s with intakeRec := { s.intakeRec with state := .waitingGate, destination := none },
           gate := { s.gate with waitDeposit := true } }

theorem State.decideNote_eq (e : Escrow) :
    s.decideNote e = if (s.escrowed e).destination true e = .cassetteD then
        if s.gate.granted = none then (s.escrowed e).claimsStore.decideStore else (s.escrowed e).claimsStore
      else (s.escrowed e).placeNote ((s.escrowed e).destination true e) := by
  have cases (x : Destination) (a b : State) : (match x with
      | .cassetteD => a
      | y => b.placeNote y) = if x = .cassetteD then a else b.placeNote x := by
    cases x <;> rfl
  exact cases _ _ _

theorem State.decideNote_withLanes (e : Escrow) : (s.withLanes L).decideNote e = (s.decideNote e).withLanes L := by
  have same : ((s.withLanes L).escrowed e).destination true e = (s.escrowed e).destination true e := rfl
  have stored := State.decideStore_withLanes (s := (s.escrowed e).claimsStore) L
  rw [State.decideNote_eq, State.decideNote_eq, same, ← State.withLanes_ite, ← State.withLanes_ite, ← stored]
  rfl

theorem State.onLockdown_withLanes : (s.withLanes L).onLockdown = s.onLockdown.withLanes L := by
  have closed (ls : List Lane) (a : State) : ls.foldl State.askClose (a.withLanes L) = (ls.foldl State.askClose a).withLanes L := by
    induction ls generalizing a with
    | nil => rfl
    | cons m ls ih => rw [List.foldl_cons, State.askClose_withLanes, ih]; rfl
  have paused (a : State) : (a.withLanes L).pauseWaitingPick = a.pauseWaitingPick.withLanes L :=
    State.withLanes_ite L _ { a with gate := { a.gate with waitPicker := false }, picker := a.picker.pause } a
  have recalled (a : State) : (a.withLanes L).recallWaitingNote = a.recallWaitingNote.withLanes L := by
    have note : (a.withLanes L).intakeRec = a.intakeRec := rfl
    unfold State.recallWaitingNote
    rw [note]
    cases a.intakeRec.escrow with
    | none => exact State.withLanes_ite L _ a a
    | some e =>
      have decided := State.decideNote_withLanes (s := { a with gate := { a.gate with waitDeposit := false } }) L e
      exact (ite_congr rfl (fun _ => decided) fun _ => rfl).trans (State.withLanes_ite L _ _ _)
  unfold State.onLockdown
  rw [closed, paused, recalled]

theorem State.markTicketsOf_withLanes (c : Teller → Bool) : (s.withLanes L).markTicketsOf c = (s.markTicketsOf c).withLanes L := by
  unfold State.markTicketsOf
  cases c .a <;> cases c .b <;> rfl

/-- What follows a change of the alarm table (R151, R153, R156). -/
def State.alarmed (a : State) (changed : Bool) (claims enters : Prop) [Decidable claims] [Decidable enters] : State :=
  let t := a.placeIf changed .alarm
  let t := if claims then t.markTicketsOf (duressInput t.alarms.pattern) else t
  if enters then t.onLockdown else t

theorem State.alarmed_withLanes (changed : Bool) (claims enters : Prop) [Decidable claims] [Decidable enters] :
    (s.withLanes L).alarmed changed claims enters = (s.alarmed changed claims enters).withLanes L := by
  have placed : (s.withLanes L).placeIf changed .alarm = (s.placeIf changed .alarm).withLanes L := by
    cases changed <;> rfl
  have pattern (a : State) : (a.withLanes L).alarms.pattern = a.alarms.pattern := rfl
  unfold State.alarmed
  dsimp only
  rw [placed, pattern, State.markTicketsOf_withLanes, State.withLanes_ite, State.onLockdown_withLanes, State.withLanes_ite]

theorem State.setRecords_withLanes (records : List AlarmRecord) (takes : Bool) :
    (s.withLanes L).setRecords records takes = (s.setRecords records takes).withLanes L := by
  let alarms : Alarms := { s.alarms with
    records := records, hold := records.any fun r => r.classes.hold, duress := records.any fun r => r.classes.duress,
    lockdown := s.alarms.lockdown || takes }
  exact State.alarmed_withLanes (s := { s with alarms := alarms }) L _ _ _

theorem State.sourceUp_withLanes (src : AlarmSource) (current : AlarmClass) (pattern : Option Nat) :
    (s.withLanes L).sourceUp src current pattern = (s.sourceUp src current pattern).withLanes L := by
  unfold State.sourceUp
  rw [State.setRecords_withLanes]
  exact State.withLanes_ite L _ s _

theorem State.sourceDown_withLanes (src : AlarmSource) : (s.withLanes L).sourceDown src = (s.sourceDown src).withLanes L := by
  unfold State.sourceDown
  have same : (s.withLanes L).alarmRecord src.number = s.alarmRecord src.number := rfl
  rw [same]
  cases s.alarmRecord src.number with
  | none => rfl
  | some r =>
    dsimp only
    cases r.state
    · exact State.setRecords_withLanes L _ _
    · exact State.setRecords_withLanes L _ _
    · rfl

/-- A source is handed without a look at the lane records. -/
theorem State.hand_withLanes (o : Owned) (active : Bool) : (s.withLanes L).hand o active = (s.hand o active).withLanes L := by
  let source : SourceState := ⟨active, if active then s.params.sourceClasses.get o else .none⟩
  let t : State := { s with alarms := { s.alarms with sources := s.alarms.sources.set o source } }
  have up := State.sourceUp_withLanes (s := t) L (.owned o) (if active then s.params.sourceClasses.get o else .none) none
  have down := State.sourceDown_withLanes (s := t) L (.owned o)
  by_cases h : (s.alarms.sources.get o).active = active
  · rw [State.hand_same h]
    exact State.hand_same h
  · have handed : s.hand o active = _ := if_neg h
    refine (if_neg h : (s.withLanes L).hand o active = _).trans (Eq.trans ?_ (congrArg (State.withLanes · L) handed).symm)
    cases active
    · exact down
    · exact up

end Aside

/-! ### The sweep's mark in the reports handed on -/

theorem State.envelopeClaim_sweepDone (n : Nat) (takenIn : EnvelopeState) (f : Envelope → Envelope) :
    (s.envelopeClaim n takenIn f).sweepDone = s.sweepDone := by
  unfold State.envelopeClaim
  split
  · split
    · rw [State.move_frame]
    · rfl
  · rfl

theorem State.decideHandling_sweepDone (x : SlotValue) : (s.decideHandling l x).sweepDone = s.sweepDone := by
  have jammed : (s.jam l .resultLost).sweepDone = s.sweepDone := by
    unfold State.jam
    dsimp only
    split
    · exact State.envelopeClaim_sweepDone _ _ _
    · rfl
  unfold State.decideHandling
  split
  · split
    · rfl
    · exact jammed
  · split <;> rfl
  · rfl
  · rfl

theorem State.askRetract_sweepDone (e : Retract) : (s.askRetract e).sweepDone = s.sweepDone := by
  rcases State.askRetract_cases (s := s) e with ⟨-, h⟩ | ⟨-, h⟩ <;> rw [h]

theorem State.adjust_sweepDone (n : Nat) (f : Dispense → Dispense) : (s.adjust n f).sweepDone = s.sweepDone := by
  rw [State.adjust_frame]

theorem State.dispute_sweepDone (n : Nat) : (s.dispute n l).sweepDone = s.sweepDone := by
  unfold State.dispute
  split
  · split
    · dsimp only
      rw [State.putPresentation_sweepDone, State.putLane_sweepDone, State.move_frame]
    · rfl
  · rfl

theorem State.drawerReport_sweepDone (x : DrawerReport) (notes fault : Bool) :
    (s.drawerReport l x notes fault).sweepDone = s.sweepDone := by
  have closed (p : Presentation) : (s.decideClose l p notes).sweepDone = s.sweepDone := by
    unfold State.decideClose
    split
    · exact (State.askRetract_sweepDone _).trans (State.adjust_sweepDone _ _)
    · show State.sweepDone (s.claim _ _ _) = _
      rw [State.claim_frame]
  have present (p : Presentation) : (s.presentReport l p x notes fault).sweepDone = s.sweepDone := by
    unfold State.presentReport
    split
    · rfl
    · split
      · rfl
      · split
        · exact closed p
        · split
          · exact State.adjust_sweepDone _ _
          · rfl
  have lost (p : Presentation) : (s.lostReport l p x notes fault).sweepDone = s.sweepDone := by
    unfold State.lostReport
    split
    · rfl
    · split
      · rcases State.askClose_cases (s := s) l with ⟨q, -, h⟩ | ⟨-, h⟩ <;> rw [h]
        rfl
      · split
        · exact (State.askRetract_sweepDone _).trans (State.adjust_sweepDone _ _)
        · exact State.dispute_sweepDone _
  unfold State.drawerReport
  split
  · split
    · split
      · exact present _
      · split
        · exact lost _
        · rfl
    · rfl
  · rfl

/-! ### The one lane of a frame -/

/-- A fold over a list that holds one element once, and whose other elements change nothing there. -/
theorem foldl_of_one {α β : Type} {f : α → β → α} {a : α} {b : β} {xs ys : List β} (hx : ∀ y ∈ xs, f a y = a)
    (hy : ∀ y ∈ ys, f (f a b) y = f a b) : (xs ++ b :: ys).foldl f a = f a b := by
  have fixed (c : α) (zs : List β) (hz : ∀ y ∈ zs, f c y = c) : zs.foldl f c = c := by
    induction zs with
    | nil => rfl
    | cons z zs ih =>
      rw [List.foldl_cons, hz z List.mem_cons_self]
      exact ih fun y hy => hz y (List.mem_cons_of_mem _ hy)
  rw [List.foldl_append, fixed a xs hx, List.foldl_cons, fixed _ ys hy]

theorem Lane.all_split (l : Lane) : ∃ xs ys, Lane.all = xs ++ l :: ys ∧ l ∉ xs ∧ l ∉ ys := by
  have held : l ∈ Lane.all := by cases l <;> decide
  have once : Lane.all.Nodup := by decide
  obtain ⟨xs, ys, h⟩ := List.append_of_mem held
  rw [h, List.nodup_append] at once
  obtain ⟨-, hys, hne⟩ := once
  exact ⟨xs, ys, h, fun hx => hne l hx l List.mem_cons_self rfl, (List.nodup_cons.1 hys).1⟩

/-- A pass over the lanes in which one lane alone acts. -/
theorem Lane.foldl_all_one {f : State → Lane → State} (before : ∀ m, m ≠ l → f s m = s)
    (after : ∀ m, m ≠ l → f (f s l) m = f s l) : Lane.all.foldl f s = f s l := by
  obtain ⟨xs, ys, h, hx, hy⟩ := Lane.all_split l
  rw [h]
  exact foldl_of_one (fun m hm => before m fun e => hx (e ▸ hm)) fun m hm => after m fun e => hy (e ▸ hm)

theorem State.applyFault_silent (h : (s.lane l).slotReply = none) : s.applyFault l = s := by
  unfold State.applyFault
  dsimp only
  rw [if_neg]
  rw [h]
  exact fun hj => Bool.false_ne_true hj.2

theorem State.judgeLane_silent (h : (s.lane l).slotReply = none) : s.judgeLane l = s := by
  unfold State.judgeLane
  dsimp only
  rw [h]
  cases (s.lane l).link.judged <;> rfl

theorem State.handOn_silent (h : r.slotReply = none) : s.handOn l r = s := by
  unfold State.handOn
  rw [h]
  cases (s.lane l).link.judged <;> rfl

/-- A lane record put back, with LANE placed when the condition holds. -/
def State.noted (s : State) (l : Lane) (r : LaneRec) (c : Bool) : State := (s.putLane l r).placeIf c .lane

theorem State.noted_frame (c : Bool) : s.noted l r c =
    { s with lanes := s.lanes.set l r, reasons := if c then s.reasons.add .lane else s.reasons } := by
  cases c <;> rfl

theorem State.noted_lane (c : Bool) : (s.noted l r c).lane l = r := by
  rw [State.noted_frame]
  exact PerLane_get_set_self _ _ _

theorem State.noted_lane_of_ne {m : Lane} (c : Bool) (h : m ≠ l) : (s.noted l r c).lane m = s.lane m := by
  rw [State.noted_frame]
  exact PerLane_get_set_of_ne _ _ h

theorem State.putLane_noted (c : Bool) : (s.noted l r c).putLane l v = s.noted l v c := by
  rw [State.noted_frame, State.noted_frame]
  unfold State.putLane
  rw [PerLane_set_set]

theorem State.noted_noted (c e : Bool) : (s.noted l r c).noted l v e = s.noted l v (c || e) := by
  show ((s.noted l r c).putLane l v).placeIf e .lane = _
  rw [State.putLane_noted]
  cases c <;> cases e <;> rfl

/-- The judgment of the one lane with a reply, for a word that leaves it ONLINE (R128, R129). -/
theorem State.exec_frameEnd_one (hw : (s.lane l).slotReply = some (.valid w)) (hf : (s.lane l).slotFault = false)
    (hy : s.ring.syncFault = false) (others : ∀ m, m ≠ l → (s.lane m).slotReply = none) (hj : (s.lane l).link.judged = true)
    (hv : LaneRec.judge { s.lane l with badRun := 0, faultRun := 0 } (.valid w) = v) (hon : v.link = .online) :
    exec .frameEnd s =
      .next ((s.noted l v (decide ((s.lane l).link ≠ v.link))).handOn l (s.lane l)).clearFrame.reform := by
  let a : State := s.noted l { s.lane l with faultRun := 0 } false
  have ha : a.lane l = { s.lane l with faultRun := 0 } := State.noted_lane _
  have faulted : s.applyFault l = a := by
    unfold State.applyFault
    dsimp only
    rw [if_pos ⟨hj, by rw [hw]; rfl⟩, if_neg (by rw [hf, hy]; simp)]
    rfl
  have judged : a.judgeLane l = s.noted l v (decide ((s.lane l).link ≠ v.link)) := by
    have hlink : (a.lane l).link = (s.lane l).link := by rw [ha]
    have hreply : (a.lane l).slotReply = some (.valid w) := by rw [ha]; exact hw
    have hrec : ((a.lane l).badFrame (.valid w)).judge (.valid w) = v := by rw [ha]; exact hv
    unfold State.judgeLane
    dsimp only
    rw [hreply, hlink, hj]
    dsimp only
    rw [hrec, if_neg fun h => h.2 hon]
    exact (congrArg (fun k => a.noted l v (decide (k ≠ v.link))) hlink).trans (State.noted_noted _ _)
  have passA : Lane.all.foldl State.applyFault s = a := by
    rw [← faulted]
    refine Lane.foldl_all_one (fun m hm => State.applyFault_silent (others m hm)) fun m hm => State.applyFault_silent ?_
    rw [faulted, State.noted_lane_of_ne _ hm]
    exact others m hm
  have passJ : Lane.all.foldl State.judgeLane a = s.noted l v (decide ((s.lane l).link ≠ v.link)) := by
    rw [← judged]
    refine Lane.foldl_all_one (fun m hm => State.judgeLane_silent ?_) fun m hm => State.judgeLane_silent ?_
    · rw [State.noted_lane_of_ne _ hm]; exact others m hm
    · rw [judged, State.noted_lane_of_ne _ hm]; exact others m hm
  have passH (u : State) : Lane.all.foldl (fun v m => v.handOn m (s.lane m)) u = u.handOn l (s.lane l) :=
    Lane.foldl_all_one (f := fun v m => v.handOn m (s.lane m)) (fun m hm => State.handOn_silent (others m hm))
      fun m hm => State.handOn_silent (others m hm)
  show Host.Outcome.next s.endFrame.reform = _
  unfold State.endFrame
  dsimp only
  rw [passA, passJ, passH]

/-- A valid word handed on by a lane that is ONLINE: its report, or the entry to ONLINE (R130). -/
theorem State.handOn_online (hl : (u.lane l).link = .online) (hw : r.slotReply = some (.valid w)) :
    u.handOn l r =
      if r.link = .online then (u.recordReply l true w).handReport l r.lastEvent w else (u.recordReply l true w).enterOnline l := by
  unfold State.handOn
  rw [hw, hl]
  rfl

/-- The contents of a word recorded, with LANE placed at a change that R139 names. -/
theorem State.noted_recorded (c : Bool) (w : Uplink) :
    (((s.noted l v c).putLane l (((s.noted l v c).lane l).take true w)).placeIf
      (decide (((s.noted l v c).lane l).conditions ≠ (((s.noted l v c).lane l).take true w).conditions)) .lane)
      = s.noted l (v.take true w) (c || decide (v.conditions ≠ (v.take true w).conditions)) := by
  rw [State.noted_lane]
  exact State.noted_noted _ _

theorem State.recordReply_statusD (c : Bool) (x : DrawerReport) (notes fault : Bool) :
    (s.noted l v c).recordReply l true (.statusD x notes fault) = s.noted l (v.take true (.statusD x notes fault))
      (c || decide (v.conditions ≠ (v.take true (.statusD x notes fault)).conditions)) := State.noted_recorded _ _

theorem State.recordReply_event (c : Bool) (kind : EventKind) (number : Nat) :
    (s.noted l v c).recordReply l true (.event kind number) = s.noted l (v.take true (.event kind number))
      (c || decide (v.conditions ≠ (v.take true (.event kind number)).conditions)) := State.noted_recorded _ _

theorem State.recordReply_statusL (c : Bool) (slot : SlotValue) (lamp : Lamp) (call tamper : Bool) (echo : Nat) :
    (s.noted l v c).recordReply l true (.statusL slot lamp call tamper echo) =
      (s.noted l (v.take true (.statusL slot lamp call tamper echo))
        (c || decide (v.conditions ≠ (v.take true (.statusL slot lamp call tamper echo)).conditions))).hand
          (.laneTamper l) tamper :=
  congrArg (State.hand · (.laneTamper l) tamper) (State.noted_recorded _ _)

/-- The entry to ONLINE of a lane with all its reports (R130, R133). -/
theorem State.enterOnline_reported {x : DrawerReport} {notes fault : Bool} {slot : SlotValue} (hr : u.lane l = r)
    (hx : r.repDrawer = some x) (hn : r.repNotes = some notes) (hf : r.repFault = some fault) (hs : r.repSlot = some slot) :
    let entered := u.putLane l { r with
      lostTimer := none, lost := if r.lost = .idle ∨ u.boundTicket l = none then .idle else .owed, handedDrawer := some x }
    let decided := (entered.drawerReport l x notes fault).decideHandling l slot
    u.enterOnline l = if u.sweepDone then decided.decideDrawer l else decided := by
  have done (t : State) : ((t.drawerReport l x notes fault).decideHandling l slot).sweepDone = t.sweepDone :=
    (State.decideHandling_sweepDone slot).trans (State.drawerReport_sweepDone x notes fault)
  unfold State.enterOnline
  rw [hr]
  cases r
  dsimp only at hx hn hf hs
  subst hx hn hf hs
  dsimp only
  rw [done]
  rfl

/-- The ticket bound to a lane, its marks aside. -/
theorem State.MarksOnly.boundTicket (h : s.MarksOnly u) : u.boundTicket l = s.boundTicket l := by
  obtain ⟨f, hf, ht⟩ := h
  have same (x : Ticket) : Ticket.bound l (f x) = Ticket.bound l x := by
    obtain ⟨-, hlane, hbody⟩ := hf x
    unfold Ticket.bound
    rw [hlane, hbody]
  unfold State.boundTicket
  rw [ht, List.find?_map, Option.map_map]
  have hpred : Ticket.bound l ∘ f = Ticket.bound l := funext same
  have hnum : Ticket.number ∘ f = Ticket.number := funext fun x => (hf x).1
  rw [hpred, hnum]

/-- The lane record put back after a source is handed. -/
theorem State.putLane_hand (o : Owned) (active : Bool) : (u.hand o active).putLane l v = (u.putLane l v).hand o active := by
  have hlanes : (u.hand o active).lanes = u.lanes := by rw [(State.handed_hand u o active).spares.same]
  have := State.hand_withLanes (s := u) (u.lanes.set l v) o active
  unfold State.putLane
  rw [hlanes]
  exact this.symm

end Sys2Proof.Machine
end

section
/-! PROOFS. The reports that a frame end hands on for a lane whose word alone was heard (R130, R131), and the statement on drawer
reports (R29, R88, R92, R134, R193). -/

namespace Sys2Proof.Machine

variable {s : State} {l : Lane} {w : Uplink} {r : LaneRec}

/-! ### The link state by a valid word (R129) -/

theorem LaneRec.judge_online_statusD (x : DrawerReport) (notes fault : Bool) (h : r.link = .online) :
    r.judge (.valid (.statusD x notes fault)) = r := by
  unfold LaneRec.judge
  rw [h]

theorem LaneRec.judge_online_event {k number : Nat} (kind : EventKind) (h : r.link = .online) (hk : r.lastEvent = some k)
    (hn : number = (k + 1) % 8) : r.judge (.valid (.event kind number)) = r := by
  have gap : eventGap r.lastEvent number = false := by
    rw [hk, hn]
    simp [eventGap]
  unfold LaneRec.judge
  rw [h]
  dsimp only
  rw [gap]
  rfl

theorem LaneRec.joinWith_other {kind other : JoinRun} (h : r.link = .joining) (hj : r.joinRun = other) :
    r.joinWith kind other = { r with link := .online, joinRun := .idle } := if_pos ⟨h, hj⟩

theorem LaneRec.judge_joins_statusD (x : DrawerReport) (notes fault : Bool) (h : r.link = .joining) (hj : r.joinRun = .statusL) :
    r.judge (.valid (.statusD x notes fault)) = { r with link := .online, joinRun := .idle } := by
  rw [← LaneRec.joinWith_other (kind := .statusD) h hj]
  unfold LaneRec.judge
  rw [h]

theorem LaneRec.judge_joins_statusL (slot : SlotValue) (lamp : Lamp) (call tamper : Bool) (echo : Nat) (h : r.link = .joining)
    (hj : r.joinRun = .statusD) :
    r.judge (.valid (.statusL slot lamp call tamper echo)) = { r with link := .online, joinRun := .idle } := by
  rw [← LaneRec.joinWith_other (kind := .statusL) h hj]
  unfold LaneRec.judge
  rw [h]

/-! ### The one word of a frame handed on (R130, R131) -/

section Frame
variable (hw : (s.lane l).slotReply = some (.valid w)) (hf : (s.lane l).slotFault = false) (hy : s.ring.syncFault = false)
  (others : ∀ m, m ≠ l → (s.lane m).slotReply = none)
include hw hf hy others

theorem State.exec_frameEnd_statusD {x : DrawerReport} {notes fault : Bool} (hx : w = .statusD x notes fault)
    (hl : (s.lane l).link = .online) :
    exec .frameEnd s = .next (((s.noted l { s.lane l with
        repDrawer := some x, repNotes := some notes, repFault := some fault, handedDrawer := some x, badRun := 0, faultRun := 0 }
      (decide ((s.lane l).repFault ≠ some fault))).drawerReport l x notes fault).clearFrame.reform) := by
  subst hx
  let a : LaneRec := { s.lane l with badRun := 0, faultRun := 0 }
  have judged := State.exec_frameEnd_one hw hf hy others (by rw [hl]; rfl) (LaneRec.judge_online_statusD (r := a) x notes fault hl) hl
  have same : decide ((s.lane l).link ≠ a.link) = false := decide_eq_false fun h => h rfl
  have hc : decide (a.conditions ≠ (a.take true (.statusD x notes fault)).conditions)
      = decide ((s.lane l).repFault ≠ some fault) := by
    simp [LaneRec.conditions, LaneRec.take, a]
  rw [judged, same, State.handOn_online (by rw [State.noted_lane]; exact hl) hw, if_pos hl, State.recordReply_statusD,
    Bool.false_or, hc]
  unfold State.handReport
  dsimp only
  rw [State.noted_lane, State.putLane_noted]
  rfl

theorem State.exec_frameEnd_event {kind : EventKind} {number k : Nat} (hx : w = .event kind number)
    (hl : (s.lane l).link = .online) (hk : (s.lane l).lastEvent = some k) (hn : number = (k + 1) % 8) :
    exec .frameEnd s = .next (((s.noted l { s.lane l with lastEvent := some number, badRun := 0, faultRun := 0 } false).takeEvent
      l kind).clearFrame.reform) := by
  subst hx
  let a : LaneRec := { s.lane l with badRun := 0, faultRun := 0 }
  have judged := State.exec_frameEnd_one hw hf hy others (by rw [hl]; rfl)
    (LaneRec.judge_online_event (r := a) kind hl hk hn) hl
  have same : decide ((s.lane l).link ≠ a.link) = false := decide_eq_false fun h => h rfl
  have handed : eventHanded (s.lane l).lastEvent number = true := by
    rw [hk]
    exact decide_eq_true hn
  have fresh : (s.lane l).lastEvent ≠ some number := by
    rw [hk]
    simp only [ne_eq, Option.some.injEq]
    omega
  have taken : a.take true (.event kind number) = { a with lastEvent := some number } := by
    show a.takeEvent true kind number = _
    unfold LaneRec.takeEvent
    rw [if_neg fresh, show eventHanded a.lastEvent number = true from handed]
    simp
  rw [judged, same, State.handOn_online (by rw [State.noted_lane]; exact hl) hw, if_pos hl, State.recordReply_event,
    taken]
  unfold State.handReport
  dsimp only
  rw [handed, if_pos rfl]
  have hc : decide (a.conditions ≠ ({ a with lastEvent := some number } : LaneRec).conditions) = false :=
    decide_eq_false fun h => h rfl
  rw [hc]
  rfl

/-- The entry to ONLINE by a drawer report (R129, R130). -/
theorem State.exec_frameEnd_joins_statusD {x : DrawerReport} {notes fault : Bool} {slot : SlotValue}
    (hx : w = .statusD x notes fault) (hl : (s.lane l).link = .joining) (hj : (s.lane l).joinRun = .statusL)
    (hs : (s.lane l).repSlot = some slot) :
    let joined := s.noted l { s.lane l with
      repDrawer := some x, repNotes := some notes, repFault := some fault, handedDrawer := some x, link := .online,
      joinRun := .idle, lostTimer := none, lost := if (s.lane l).lost = .idle ∨ s.boundTicket l = none then .idle else .owed,
      badRun := 0, faultRun := 0 } true
    let decided := (joined.drawerReport l x notes fault).decideHandling l slot
    exec .frameEnd s = .next (if s.sweepDone then decided.decideDrawer l else decided).clearFrame.reform := by
  subst hx
  let a : LaneRec := { s.lane l with badRun := 0, faultRun := 0 }
  let v : LaneRec := { a with link := .online, joinRun := .idle }
  have hv : a.judge (.valid (.statusD x notes fault)) = v := LaneRec.judge_joins_statusD x notes fault hl hj
  have judged := State.exec_frameEnd_one hw hf hy others (by rw [hl]; rfl) hv rfl
  have changed : decide ((s.lane l).link ≠ v.link) = true := by rw [hl]; rfl
  have joins : ¬ (s.lane l).link = .online := by rw [hl]; decide
  have entered := State.enterOnline_reported (u := s.noted l (v.take true (.statusD x notes fault)) true) (State.noted_lane true)
    (x := x) (notes := notes) (fault := fault) (slot := slot) rfl rfl rfl hs
  rw [State.putLane_noted] at entered
  rw [judged, changed, State.handOn_online (by rw [State.noted_lane]) hw, if_neg joins,
    State.recordReply_statusD, Bool.true_or, entered]
  rfl

/-- The entry to ONLINE by a slot report (R129, R130). -/
theorem State.exec_frameEnd_joins_statusL {slot : SlotValue} {lamp : Lamp} {call tamper : Bool} {echo : Nat} {x : DrawerReport}
    {notes fault : Bool} (hx : w = .statusL slot lamp call tamper echo) (hl : (s.lane l).link = .joining)
    (hj : (s.lane l).joinRun = .statusD) (hr : (s.lane l).repDrawer = some x) (hn : (s.lane l).repNotes = some notes)
    (ht : (s.lane l).repFault = some fault) :
    let joined := (s.noted l { s.lane l with
      repSlot := some slot, repLamp := some lamp, callButton := some call, tamper := some tamper, stampEcho := some echo,
      unheard := (s.lane l).unheard && !decide (slot = .closed), link := .online, joinRun := .idle, handedDrawer := some x,
      lostTimer := none, lost := if (s.lane l).lost = .idle ∨ s.boundTicket l = none then .idle else .owed,
      badRun := 0, faultRun := 0 } true).hand (.laneTamper l) tamper
    let decided := (joined.drawerReport l x notes fault).decideHandling l slot
    exec .frameEnd s = .next (if s.sweepDone then decided.decideDrawer l else decided).clearFrame.reform := by
  subst hx
  let a : LaneRec := { s.lane l with badRun := 0, faultRun := 0 }
  let v : LaneRec := { a with link := .online, joinRun := .idle }
  let taken : LaneRec := v.take true (.statusL slot lamp call tamper echo)
  let handed : State := (s.noted l taken true).hand (.laneTamper l) tamper
  have hv : a.judge (.valid (.statusL slot lamp call tamper echo)) = v := LaneRec.judge_joins_statusL slot lamp call tamper echo hl hj
  have judged := State.exec_frameEnd_one hw hf hy others (by rw [hl]; rfl) hv rfl
  have changed : decide ((s.lane l).link ≠ v.link) = true := by rw [hl]; rfl
  have joins : ¬ (s.lane l).link = .online := by rw [hl]; decide
  have spares := (State.handed_hand (s.noted l taken true) (.laneTamper l) tamper).spares
  have recorded : (s.noted l v true).recordReply l true (.statusL slot lamp call tamper echo) = handed := by
    rw [State.recordReply_statusL, Bool.true_or]
  have lane : handed.lane l = taken := by
    have hlanes : handed.lanes = (s.noted l taken true).lanes := by
      show State.lanes (State.hand _ _ _) = _
      rw [spares.same]
    unfold State.lane
    rw [hlanes]
    exact State.noted_lane true
  have bound : handed.boundTicket l = s.boundTicket l := spares.marks.boundTicket
  have done : handed.sweepDone = s.sweepDone := by
    show State.sweepDone (State.hand _ _ _) = _
    rw [spares.same]
    rfl
  have entered := State.enterOnline_reported (u := handed) lane (x := x) (notes := notes) (fault := fault) (slot := slot) hr hn ht rfl
  rw [State.putLane_hand, State.putLane_noted, bound, done] at entered
  rw [judged, changed, State.handOn_online (by rw [State.noted_lane]) hw, if_neg joins, recorded, entered]
  rfl

end Frame

/-- Settles O44. -/
theorem drawerReportsAndWhatIsHandedOn : Obligations.DrawerReportsAndWhatIsHandedOn := by
  refine ⟨fun l t d p x notes s hp hn hd ho hold hst hl hx hr => ?_, fun l t d p x notes fault s hp hn hold hl => ?_,
    fun l t d p x notes fault s hp hn hold hl hst ho => ?_, fun l w s hw hf hy others => ?_, fun l s => ?_⟩
  · obtain ⟨-, -, closes, -, -⟩ := State.presentReport_rows (s := s) (l := l) (p := p) (x := x) (notes := notes) (fault := false)
    intro u
    have hu : u = s.decideClose l p notes := (State.drawerReport_present hp hn hold hl).trans (closes hx rfl hd ho)
    rw [hu]
    refine ⟨fun h => ?_, fun h => ?_⟩ <;> subst h
    · exact State.decideClose_empty hn hold hst
    · exact State.decideClose_notes hn hold hr
  · obtain ⟨opened, kept, -, locked, unlocked⟩ :=
      State.presentReport_rows (s := s) (l := l) (p := p) (x := x) (notes := notes) (fault := fault)
    intro u
    have hu : u = s.presentReport l p x notes fault := State.drawerReport_present hp hn hold hl
    rw [hu]
    refine ⟨opened, kept, locked, fun hx hf hd ho hc hst hnone => ?_⟩
    rw [unlocked hx hf hd ho hc, hn]
    exact State.startTake_held hold hst hnone
  · intro u decided
    have hu : u = s.lostReport l p x notes fault := State.drawerReport_lost hp hn hold hl hst ho
    rw [hu]
    refine ⟨fun hf => ?_, fun hf hx => ?_, fun hf hx hnotes hr => ?_, fun hf hx hnotes => ?_⟩
    · exact if_pos hf
    · unfold State.lostReport
      rw [if_neg (by rw [hf]; exact Bool.false_ne_true), if_pos hx]
      exact State.askClose_some hp
    · subst hf hnotes
      exact State.lostReport_notes hn hold hx hr
    · subst hf hnotes
      exact State.lostReport_empty hn hold hst hx
  · intro r heard after
    refine ⟨fun x notes fault hx => ?_, fun slot lamp call tamper echo hx hl hj x notes fault hr hn ht => ?_,
      fun kind number k hx hl hk hn => ?_⟩
    · intro v
      refine ⟨fun hl => ?_, fun hl hj slot hs => ?_⟩
      · have ended := State.exec_frameEnd_statusD hw hf hy others hx hl
        rw [State.noted_frame] at ended
        exact ended
      · have ended := State.exec_frameEnd_joins_statusD hw hf hy others hx hl hj hs
        rw [State.noted_frame] at ended
        exact ended
    · have ended := State.exec_frameEnd_joins_statusL hw hf hy others hx hl hj hr hn ht
      rw [State.noted_frame] at ended
      exact ended
    · have ended := State.exec_frameEnd_event hw hf hy others hx hl hk hn
      rw [State.noted_frame] at ended
      exact ended
  · intro r u under delivering
    have hunder : s.retracting l = true ↔ under := State.retracting_iff
    have hdelivering : s.deliveringTo l = true ↔ delivering := State.deliveringTo_iff
    refine ⟨fun hh hnotes hdel hfree => ?_, fun hh hor => ?_, fun n d hh hd => ⟨fun hst => ?_, fun hst hu => ?_,
      fun hst hu hnotes => ?_, fun hst hu hnotes => ?_⟩, fun hh => ?_⟩
    · have hr : s.retracting l = false := by rw [← Bool.not_eq_true, hunder]; exact hfree
      refine (State.decideDrawer_none hh).trans ?_
      rw [if_pos ⟨hnotes, by rw [hdelivering]; exact hdel⟩]
      exact State.askRetract_free (s := s.putLane l { r with holder := some .sweep }) hr
    · refine (State.decideDrawer_none hh).trans (if_neg fun h => ?_)
      exact hor.elim (absurd h.1) fun hdel => h.2 (hdelivering.2 hdel)
    · exact (State.decideDrawer_ticket hh hd).trans (if_neg hst)
    · refine (State.decideDrawer_ticket hh hd).trans ?_
      have hr := hunder.2 hu
      rw [if_pos hst, if_pos hr, State.askRetract_under hr, ite_self]
    · have hr : s.retracting l = false := by rw [← Bool.not_eq_true, hunder]; exact hu
      refine (State.decideDrawer_ticket hh hd).trans ?_
      rw [if_pos hst, if_pos hnotes, State.ticketRetract_of_dispense hd]
      exact State.askRetract_free hr
    · refine (State.decideDrawer_ticket hh hd).trans ?_
      rw [if_pos hst, if_neg (by rw [hnotes]; decide), if_neg (by rw [hunder]; exact hu)]
      rfl
    · show s.decideDrawer l = s
      unfold State.decideDrawer
      dsimp only
      rw [hh]

end Sys2Proof.Machine
end

section
/-! PROOFS. The figures of the Cassette Bank that the invariants speak of: the slots with their retiring copies, whose counts
follow R34, and the reject vault with its ranges (R55). `State.KeepsFigures` is the relation in which every operation stands,
proved of each of them once, in the order of the definitions they speak of. -/

namespace Sys2Proof.Machine

/-! ### What keeps the figures -/

/-- The records whose figures the invariants speak of. -/
structure Figures where
  slots    : PerPos Slot
  retiring : PerPos (Option Retiring)
  reject   : RejectVault

/-- The records whose figures the invariants speak of. -/
def State.figures (s : State) : Figures := ⟨s.slots, s.retiring, s.rejectVault⟩

/-- An operation that keeps the counts of the slots and copies (R34) and the ranges of the reject vault (R55). -/
structure State.KeepsFigures (s t : State) : Prop where
  counts : s.slotsCount → t.slotsCount
  vault : s.rejectVault.inRange → t.rejectVault.inRange

namespace State.KeepsFigures
variable {s t u : State} {c : Prop} [Decidable c]

theorem refl : s.KeepsFigures s := ⟨id, id⟩

theorem trans (h : s.KeepsFigures t) (k : t.KeepsFigures u) : s.KeepsFigures u :=
  ⟨fun hs => k.counts (h.counts hs), fun hs => k.vault (h.vault hs)⟩

/-- The records as they were. -/
theorem same (h : t.figures = s.figures) : s.KeepsFigures t := by
  obtain ⟨hs, hr, hv⟩ := Figures.mk.inj h
  refine ⟨?_, hv ▸ id⟩
  unfold State.slotsCount State.slot
  rw [hs, hr]
  exact id

/-- An operation made from a state that is itself reached by one. -/
theorem since (k : t.KeepsFigures u) (h : s.KeepsFigures t) : s.KeepsFigures u := h.trans k

/-- An operation made from a state with the records of the one before. -/
theorem after (k : t.KeepsFigures u) (h : t.figures = s.figures := by rfl) : s.KeepsFigures u := (same h).trans k

theorem ite (h : s.KeepsFigures t) (k : s.KeepsFigures u) : s.KeepsFigures (if c then t else u) := by split <;> assumption

/-- An operation that follows only under a condition. -/
theorem thenIf (h : s.KeepsFigures t) (k : t.KeepsFigures u) : s.KeepsFigures (if c then u else t) := .ite (h.trans k) h

/-- An operation made for each of several places. -/
theorem foldl {α : Type} {f : State → α → State} (hf : ∀ (s : State) (x : α), s.KeepsFigures (f s x)) (xs : List α) (s : State) :
    s.KeepsFigures (xs.foldl f s) := by
  induction xs generalizing s with
  | nil => exact .refl
  | cons x xs ih => exact (hf s x).trans (ih _)

end State.KeepsFigures

variable (s : State)

/-! ### The records written back -/

/-- A slot written back with its counts right. -/
theorem State.figures_setSlot {p : Pos} {x : Slot} (h : (s.slot p).counts → x.counts) :
    s.KeepsFigures { s with slots := s.slots.set p x } := by
  refine ⟨fun ⟨hs, hr⟩ => ⟨fun q => ?_, hr⟩, id⟩
  change ((s.slots.set p x).get q).counts
  by_cases hq : q = p
  · rw [hq, PerPos_get_set_self]
    exact h (hs p)
  · rw [PerPos_get_set_of_ne _ _ hq]
    exact hs q

theorem State.figures_putSlot {p : Pos} {x : Slot} (h : (s.slot p).counts → x.counts) : s.KeepsFigures (s.putSlot p x) :=
  (s.figures_setSlot h).trans (.same rfl)

/-- Every slot changed with its counts as they were. -/
theorem State.figures_mapSlots {f : Pos → Slot → Slot} (h : ∀ p x, x.counts → (f p x).counts) :
    s.KeepsFigures { s with slots := s.slots.mapWith f } := by
  refine ⟨fun ⟨hs, hr⟩ => ⟨fun q => ?_, hr⟩, id⟩
  change ((s.slots.mapWith f).get q).counts
  rw [PerPos_get_mapWith]
  exact h q _ (hs q)

/-- Every retiring copy dropped, or changed with its slot as it was. -/
theorem State.figures_mapRetiring {f : Option Retiring → Option Retiring}
    (h : ∀ c r, f c = some r → ∃ r', c = some r' ∧ r.slot = r'.slot) :
    s.KeepsFigures { s with retiring := s.retiring.mapWith fun _ c => f c } := by
  refine ⟨fun ⟨hs, hr⟩ => ⟨hs, fun q r hq => ?_⟩, id⟩
  obtain ⟨r', hc, hx⟩ := h _ r ((PerPos_get_mapWith _ s.retiring q).symm.trans hq)
  exact hx ▸ hr q r' hc

theorem State.figures_changeCopy {p : Pos} {f : Slot → Slot} (h : ∀ x : Slot, x.counts → (f x).counts) :
    s.KeepsFigures (s.changeCopy p f) := by
  refine ⟨fun ⟨hs, hr⟩ => ⟨hs, fun q r hq => ?_⟩, id⟩
  by_cases hp : q = p
  · subst hp
    obtain ⟨c, hc, rfl⟩ := Option.map_eq_some_iff.1 ((PerPos_get_set_self s.retiring q _).symm.trans hq)
    exact h _ (hr q c hc)
  · exact hr q r ((PerPos_get_set_of_ne s.retiring _ hp).symm.trans hq)

/-- The reject vault written back within its ranges. -/
theorem State.figures_setVault {v : RejectVault} (h : s.rejectVault.inRange → v.inRange) :
    s.KeepsFigures { s with rejectVault := v } := ⟨id, h⟩

/-! ### The reject vault (R55) -/

theorem Since.raise_upTo (most : Nat) (x : Since) (n : Nat) : (x.raise most n).upTo most :=
  ⟨Nat.min_le_left _ _, Nat.min_le_left _ _⟩

theorem Since.markMoment_upTo {most : Nat} {x : Since} (h : x.upTo most) : x.markMoment.upTo most := ⟨h.1, Nat.zero_le _⟩

theorem Since.restart_upTo {most : Nat} {x : Since} (h : x.upTo most) : x.restart.upTo most := ⟨h.2, h.2⟩

section Vault
variable {v : RejectVault} (h : v.inRange)
include h

theorem RejectVault.addPicks_inRange (n : Nat) : (v.addPicks n).inRange := by
  obtain ⟨-, retracted, sweep, -, since⟩ := h
  exact ⟨Nat.min_le_left _ _, retracted, sweep, Since.raise_upTo _ _ _, since⟩

theorem RejectVault.addRetracted_inRange (n : Nat) : (v.addRetracted n).inRange := by
  obtain ⟨picks, -, sweep, sincePick, -, since⟩ := h
  exact ⟨picks, Nat.min_le_left _ _, sweep, sincePick, Since.raise_upTo _ _ _, since⟩

theorem RejectVault.addSweep_inRange (n : Nat) : (v.addSweep n).inRange := by
  obtain ⟨picks, retracted, -, sincePick, sinceRetracted, -, emptied⟩ := h
  exact ⟨picks, retracted, Nat.min_le_left _ _, sincePick, sinceRetracted, Since.raise_upTo _ _ _, emptied⟩

theorem RejectVault.empty_inRange : v.empty.inRange := by
  obtain ⟨-, -, -, sincePick, sinceRetracted, sinceSweep, -⟩ := h
  exact ⟨Nat.zero_le _, Nat.zero_le _, Nat.zero_le _, sincePick, sinceRetracted, sinceSweep, Since.raise_upTo _ _ _⟩

theorem RejectVault.markMoment_inRange : v.markMoment.inRange := by
  obtain ⟨picks, retracted, sweep, sincePick, sinceRetracted, sinceSweep, emptied⟩ := h
  exact ⟨picks, retracted, sweep, Since.markMoment_upTo sincePick, Since.markMoment_upTo sinceRetracted,
    Since.markMoment_upTo sinceSweep, Since.markMoment_upTo emptied⟩

theorem RejectVault.publish_inRange : v.publish.inRange := by
  obtain ⟨picks, retracted, sweep, sincePick, sinceRetracted, sinceSweep, emptied⟩ := h
  exact ⟨picks, retracted, sweep, Since.restart_upTo sincePick, Since.restart_upTo sinceRetracted,
    Since.restart_upTo sinceSweep, Since.restart_upTo emptied⟩

end Vault

/-! ### The slots (R34) -/

theorem Slot.addOutcome_counts {x : Slot} {fail : Bool} (h : x.counts) : (x.addOutcome fail).counts := h

theorem Slot.judgeQuality_counts {x : Slot} {threshold : Nat} (h : x.counts) : (x.judgeQuality threshold).counts := by
  unfold Slot.judgeQuality
  split <;> exact h

theorem Slot.countMiss_counts {x : Slot} {r : GaugeResult} (h : x.counts) : (x.countMiss r).counts := by
  unfold Slot.countMiss
  split <;> exact h

/-- A pick result keeps the count's rule (R44): beside the notes it removes it changes flags, the window and the state. -/
theorem Slot.takeResult_counts {x : Slot} (threshold lowLevel : Nat) (r : GaugeResult) (h : x.counts) :
    (x.takeResult threshold lowLevel r).counts := by
  have removed : (x.removeNotes r.removed).counts := Slot.removeNotes_counts _ _ h
  unfold Slot.takeResult
  refine Slot.countMiss_counts (Slot.judgeQuality_counts (Slot.addOutcome_counts ?_))
  split <;> split <;> exact removed

theorem Slot.unmarked_counts {x : Slot} (h : x.counts) : Slot.counts { x with markOwed := false } := h

theorem Slot.takeStore_counts {x : Slot} (lowLevel : Nat) (h : x.counts) : (x.takeStore lowLevel).counts :=
  Slot.addNote_counts x h

/-- At a publish the base restarts at the count (R168). -/
theorem Slot.publish_counts {x : Slot} (result : CountResult) (written inRelease : Bool) (h : x.counts) :
    (x.publish result written inRelease).counts := by
  unfold Slot.publish
  split
  · rfl
  · exact h

theorem Slot.afterWrite_counts {x : Slot} (image : List Byte) (ok clears : Bool) (h : x.counts) :
    (x.afterWrite image ok clears).counts := by
  unfold Slot.afterWrite
  split <;> exact h

end Sys2Proof.Machine
end

section
/-! PROOFS. The shared operations keep the figures of the Cassette Bank (R34, R55): those of the other blocks do not touch them. -/

namespace Sys2Proof.Machine

/-! ### Tickets -/

section Tickets
variable (s : State) (n : Nat)

theorem State.figures_rewrite (b : TicketBody) : s.KeepsFigures (s.rewrite n b) := .same (by rw [State.rewrite_frame]; rfl)

theorem State.figures_move (b : TicketBody) : s.KeepsFigures (s.move n b) := .same (by rw [State.move_frame]; rfl)

theorem State.figures_claim (takenIn : DispenseState → Bool) (f : Dispense → Dispense) :
    s.KeepsFigures (s.claim n takenIn f) := .same (by rw [State.claim_frame]; rfl)

theorem State.figures_adjust (f : Dispense → Dispense) : s.KeepsFigures (s.adjust n f) :=
  .same (by rw [State.adjust_frame]; rfl)

theorem State.figures_joinQueue : s.KeepsFigures (s.joinQueue n) := (s.figures_adjust n _).trans (.same rfl)

theorem State.figures_envelopeClaim (takenIn : EnvelopeState) (f : Envelope → Envelope) :
    s.KeepsFigures (s.envelopeClaim n takenIn f) := by
  unfold State.envelopeClaim
  split
  · exact .ite (s.figures_move n _) .refl
  · exact .refl

theorem State.figures_intakeClaim (takenIn next : IntakeState) : s.KeepsFigures (s.intakeClaim n takenIn next) := by
  unfold State.intakeClaim
  split
  · exact .ite (s.figures_move n _) .refl
  · exact .refl

theorem State.figures_intakeCount (f : Intake → Intake) : s.KeepsFigures (s.intakeCount n f) := by
  unfold State.intakeCount
  split
  · exact .ite (s.figures_rewrite n _) .refl
  · exact .refl

theorem State.figures_markTicket (teller : Teller) : s.KeepsFigures (s.markTicket n teller) := by
  unfold State.markTicket
  split
  · exact .same rfl
  · exact .refl

end Tickets

/-! ### The picker, the gate and the note in escrow -/

variable (s : State)

theorem State.PicksOnly.figures {s t : State} (h : s.PicksOnly t) : s.KeepsFigures t := .same (by rw [h.same]; rfl)

theorem State.figures_haltPick (n : Nat) (why : HaltReason) : s.KeepsFigures (s.haltPick n why) :=
  (State.picksOnly_haltPick n why).figures

theorem State.figures_takeUp (n : Nat) : s.KeepsFigures (s.takeUp n) := .same (by rw [State.takeUp_frame]; rfl)

theorem State.figures_workPick (n : Nat) : s.KeepsFigures (s.workPick n) := by
  unfold State.workPick State.startPick
  refine .ite (.same rfl) ?_
  split
  · exact .refl
  · split
    · exact .refl
    · split
      · exact s.figures_haltPick _ _
      · exact .ite (.ite (State.picksOnly_decidePick n).figures (.same rfl)) (.same rfl)

theorem State.figures_redecide : s.KeepsFigures s.redecide := .same (by rw [State.redecide_frame]; rfl)

theorem State.figures_decideStore : s.KeepsFigures s.decideStore := .same (by rw [State.decideStore_eq]; rfl)

theorem State.figures_decideNote (e : Escrow) : s.KeepsFigures (s.decideNote e) := by
  rw [State.decideNote_eq]
  split
  · exact .thenIf (.same rfl) (State.figures_decideStore _)
  · exact .same rfl

theorem State.figures_freeGate : s.KeepsFigures s.freeGate := by
  have picker (u : State) : u.KeepsFigures u.serveGatePicker := State.picksOnly_serveGatePicker.figures
  have deposit (u : State) : u.KeepsFigures u.serveGateDeposit := .thenIf .refl u.figures_decideStore
  unfold State.freeGate
  exact .after (.ite ((picker _).since (deposit _)) ((deposit _).since (picker _)))

theorem State.figures_recheckGate : s.KeepsFigures s.recheckGate := by
  have checked : s.KeepsFigures s.recheckPick := State.picksOnly_recheckPick.figures
  exact .thenIf checked (State.figures_redecide _).after

theorem State.figures_recallWaitingNote : s.KeepsFigures s.recallWaitingNote := by
  unfold State.recallWaitingNote
  refine .ite ?_ .refl
  split
  · exact (State.figures_decideNote _ _).after
  · exact .refl

/-! ### Alarms -/

theorem State.Handed.figures {s t : State} (h : s.Handed t) : s.KeepsFigures t := .same (by rw [h.spares.same]; rfl)

theorem State.figures_hand (o : Owned) (active : Bool) : s.KeepsFigures (s.hand o active) := (s.handed_hand o active).figures

theorem State.figures_handVaults : s.KeepsFigures s.handVaults := s.handed_handVaults.figures

theorem State.figures_reclassInputs (pattern : BitVec 6) : s.KeepsFigures (s.reclassInputs pattern) := by
  have marked (u : State) (c : Teller → Bool) : u.KeepsFigures (u.markTicketsOf c) :=
    .same (by rw [State.markTicketsOf_frame]; rfl)
  unfold State.reclassInputs
  dsimp only
  refine .thenIf ?_ (marked _ _)
  split
  · exact (State.handed_sourceUp _ _ _ _).figures.after
  · split
    · exact (State.handed_sourceDown _ _).figures.after
    · split
      · exact .same rfl
      · exact (State.handed_setRecords _ _ _).figures.after

theorem State.figures_sample (levels : BitVec 6) : s.KeepsFigures (s.sample levels) := by
  unfold State.sample
  dsimp only
  split
  · exact .ite (.same rfl) (State.figures_reclassInputs _ _).after
  · exact .same rfl

theorem State.figures_acknowledge (r : AlarmRecord) : s.KeepsFigures (s.acknowledge r) := by
  unfold State.acknowledge
  split
  · exact (State.handed_setRecords _ _ _).figures
  · exact (State.handed_setRecords _ _ _).figures
  · exact .refl

/-! ### The Tag Link and the judgment of a cassette -/

theorem State.figures_askTag (kind : TransferKind) (p : Pos) : s.KeepsFigures (s.askTag kind p) :=
  .same (by rw [State.askTag_frame]; rfl)

theorem State.figures_pumpTags : s.KeepsFigures s.pumpTags := .same (by rw [State.pumpTags_frame]; rfl)

theorem State.figures_endTransfer : s.KeepsFigures s.endTransfer := (State.figures_pumpTags _).after

/-- A refused cassette has every count at 0, and an accepted one its base at its count (R42). -/
theorem State.figures_judgeCassette (p : Pos) (k : Identity) : s.KeepsFigures (s.judgeCassette p k) := by
  unfold State.judgeCassette
  split
  · exact s.figures_putSlot fun _ => by rfl
  · exact (s.figures_putSlot fun _ => by rfl).trans (State.figures_hand _ _ _)

theorem State.figures_rejudge (p : Pos) : s.KeepsFigures (s.rejudge p) := by
  unfold State.rejudge
  dsimp only
  split
  · exact .refl
  · split
    case h_4 => exact .ite (s.figures_judgeCassette _ _) .refl
    case h_5 | h_6 | h_7 => exact .refl
    all_goals exact .ite (s.figures_putSlot id) (s.figures_putSlot fun _ => by rfl)

theorem State.figures_insertCassette (p : Pos) : s.KeepsFigures (s.insertCassette p) :=
  (s.figures_putSlot fun _ => by rfl).trans (State.figures_askTag _ _ _)

theorem State.figures_endRead (p : Pos) (tries : List TagTry) : s.KeepsFigures (s.endRead p tries) := by
  unfold State.endRead
  split
  · exact (s.figures_judgeCassette _ _).trans (State.figures_endTransfer _)
  · exact (s.figures_putSlot fun _ => by rfl).trans (State.figures_endTransfer _)
  · exact .refl

/-! ### Picks, stores and removals -/

theorem State.figures_changeRejectVault {f : RejectVault → RejectVault} (h : ∀ v : RejectVault, v.inRange → (f v).inRange) :
    s.KeepsFigures (s.changeRejectVault f) :=
  (s.figures_setVault (h _)).trans (State.figures_handVaults _)

theorem State.figures_countPick (p : Pos) (r : GaugeResult) : s.KeepsFigures (s.countPick p r) := by
  have taken : s.KeepsFigures (s.countSlot p r) := by
    unfold State.countSlot
    split
    · exact .ite ((s.figures_putSlot fun h => Slot.unmarked_counts (Slot.takeResult_counts _ _ r h)).trans
        (State.figures_askTag _ _ _)) (s.figures_putSlot (Slot.takeResult_counts _ _ r))
    · exact s.figures_changeCopy (Slot.removeNotes_counts _)
    · exact .same rfl
  rw [State.countPick_eq]
  exact (State.figures_recheckGate _).since
    (.thenIf taken (State.figures_changeRejectVault _ fun v hv => RejectVault.addPicks_inRange hv _))

theorem State.figures_countStore : s.KeepsFigures s.countStore := by
  have stored : s.KeepsFigures s.storedNote := by
    unfold State.storedNote
    split
    · exact s.figures_putSlot (Slot.takeStore_counts _)
    · exact s.figures_changeCopy Slot.addNote_counts
    · exact .same rfl
  rw [State.countStore_eq]
  exact (State.figures_recheckGate _).since stored

/-- The retiring copy has the counts of the slot it is made of (R36). -/
theorem State.figures_retire (p : Pos) (kind : RemovalKind) (stale : Bool) : s.KeepsFigures (s.retire p kind stale) := by
  refine ⟨fun ⟨hs, hr⟩ => ⟨hs, fun q r hq => ?_⟩, id⟩
  by_cases hp : q = p
  · subst hp
    obtain rfl := Option.some.inj ((PerPos_get_set_self s.retiring q _).symm.trans hq)
    exact hs q
  · exact hr q r ((PerPos_get_set_of_ne s.retiring _ hp).symm.trans hq)

/-- The cassette of a position gone into its retiring slot, when the position has counts (R36, R53). -/
def State.retired (s : State) (p : Pos) : State :=
  let stale := (s.transfersOf p).any fun t => decide (t.kind ≠ .identityRead)
  match (s.slot p).state with
  | .unlocked => (s.retire p .released stale).followRemoval p
  | .inService | .suspended | .releasePending => (s.retire p .unreleased stale).followRemoval p
  | .absent | .identifying | .refused => s

/-- The removal of a cassette up to the answer to a claim that waits for D (R38, R53). -/
def State.drawnOut (s : State) (p : Pos) : State :=
  let t := ((s.retired p).putSlot p { Slot.empty with committed := (s.slot p).committed }).cutTags p
  { t with countPoint :=
      { t.countPoint with release := t.countPoint.release.set p false,
                          pendingRelease := t.countPoint.pendingRelease.set p false,
                          written := t.countPoint.written.set p false } }

/-- Whether the removal from a state is an unreleased one, which makes the tamper source active (R53, R54). -/
def PosState.locked : PosState → Bool
  | .inService | .suspended | .releasePending => true
  | .absent | .identifying | .refused | .unlocked => false

theorem State.remove_eq (p : Pos) :
    s.remove p =
      if (s.slot p).state.locked then (s.drawnOut p).recheckGate.hand (.cassetteTamper p) true
      else (s.drawnOut p).recheckGate := by
  unfold State.remove State.drawnOut State.retired
  dsimp only
  cases (s.slot p).state <;> rfl

theorem State.figures_retired (p : Pos) : s.KeepsFigures (s.retired p) := by
  have follows (u : State) : u.KeepsFigures (u.followRemoval p) := .thenIf (.thenIf .refl (.same rfl)) (.same rfl)
  unfold State.retired
  dsimp only
  split
  case h_5 | h_6 | h_7 => exact .refl
  all_goals exact (follows _).since (s.figures_retire _ _ _)

theorem State.figures_remove (p : Pos) : s.KeepsFigures (s.remove p) := by
  have cut (u : State) : u.KeepsFigures (u.cutTags p) := (State.figures_pumpTags _).after
  have out : s.KeepsFigures (s.drawnOut p) :=
    .trans ((cut _).since ((State.figures_putSlot _ fun _ => by rfl).since (s.figures_retired p))) (.same rfl)
  rw [State.remove_eq]
  exact .thenIf ((State.figures_recheckGate _).since out) (State.figures_hand _ _ _)

theorem State.figures_reform : s.KeepsFigures s.reform :=
  (s.figures_mapSlots (f := fun p x => { x with committed := s.committedAt p }) fun _ _ h => h).trans (.same rfl)

theorem State.figures_emptyVault (v : Vault) : s.KeepsFigures (s.emptyVault v) := by
  have emptied : s.KeepsFigures (match v with
      | .reject => { s with rejectVault := s.rejectVault.empty }
      | .intake => { s with intakeVault := s.intakeVault.empty }) := by
    cases v
    · exact s.figures_setVault RejectVault.empty_inRange
    · exact .same rfl
  exact (State.figures_reform _).since (.after ((State.figures_handVaults _).since emptied |>.trans (.same rfl)))

/-! ### Count points -/

theorem State.figures_enterQuiescing (causes : CauseSet) (release : PosSet) : s.KeepsFigures (s.enterQuiescing causes release) := by
  have paused (u : State) : u.KeepsFigures u.pauseWaitingPick := .thenIf .refl (.same rfl)
  exact (State.figures_recallWaitingNote _).since (paused _).after

theorem State.figures_requestCount (c : Cause) (release : PosSet) : s.KeepsFigures (s.requestCount c release) := by
  unfold State.requestCount
  split
  · exact s.figures_enterQuiescing _ _
  · exact .same rfl
  · exact .same rfl

/-- The publish: the slots restart, the copies taken are dropped, and the vault's since-last figures restart (R168). -/
theorem State.figures_publish (result : CountResult) : s.KeepsFigures (s.publish result) := by
  have slots : s.KeepsFigures (Pos.all.foldl (State.publishSlot result) s) :=
    .foldl (fun u _ => u.figures_putSlot (Slot.publish_counts _ _ _)) _ s
  have retiring (u : State) : u.KeepsFigures u.publishRetiring := by
    refine .trans (u.figures_mapRetiring (f := fun c => c.filter fun r => !r.taken) fun c r h => ?_) (.same rfl)
    exact ⟨r, (Option.filter_eq_some_iff.1 h).1, rfl⟩
  have vault (u : State) : u.KeepsFigures { u with rejectVault := u.rejectVault.publish } :=
    u.figures_setVault RejectVault.publish_inRange
  unfold State.publish
  dsimp only
  exact .thenIf (((vault _).since ((retiring _).since slots)).trans (.same rfl)) (State.figures_enterQuiescing _ _ _).after

theorem State.figures_publishIfWritten : s.KeepsFigures s.publishIfWritten := .thenIf .refl (s.figures_publish _)

theorem State.figures_handWriteBack (p : Pos) (ok : Bool) : s.KeepsFigures (s.handWriteBack p ok) :=
  (State.figures_publishIfWritten _).after

theorem State.figures_balanceMoment (notAtRest : NotAtRest) : s.KeepsFigures (s.balanceMoment notAtRest) := by
  have taken : s.KeepsFigures { s with retiring := s.retiring.mapWith fun _ c => c.map fun r => { r with taken := true } } := by
    refine s.figures_mapRetiring (f := fun c => c.map fun r => { r with taken := true }) fun c r h => ?_
    obtain ⟨r', hc, rfl⟩ := Option.map_eq_some_iff.1 h
    exact ⟨r', hc, rfl⟩
  exact taken.trans ((State.figures_setVault _ RejectVault.markMoment_inRange).trans (.same rfl))

/-- The balance moment of a count point that enters BALANCING (R166). -/
def State.balanced (s : State) : State :=
  let t := s.balanceMoment ⟨false, false, false, false⟩
  { t with countPoint := { t.countPoint with state := .balancing, timer := none, writeBack := t.writeBackSet, written := .empty } }

/-- A count write-back with a number asked for each position of a set, in the order A to D (R166). -/
def State.askWriteBacks (s : State) (set : PosSet) (number : Nat) : State :=
  Pos.all.foldl (fun u p => if set.get p then u.askTag (.countWriteBack number) p else u) s

theorem State.enterBalancing_eq :
    s.enterBalancing = (s.balanced.askWriteBacks s.writeBackSet (nextCountNumber s.countPoint.number)).publishIfWritten := rfl

theorem State.figures_enterBalancing : s.KeepsFigures s.enterBalancing := by
  have balanced : s.KeepsFigures s.balanced := (s.figures_balanceMoment ⟨false, false, false, false⟩).trans (.same rfl)
  rw [State.enterBalancing_eq]
  exact (State.figures_publishIfWritten _).since
    (.since (.foldl (fun u p => .thenIf .refl (u.figures_askTag _ _)) _ _) balanced)

theorem State.figures_timeOutCount : s.KeepsFigures s.timeOutCount :=
  (State.figures_publish _ _).since (s.figures_balanceMoment _)

/-! ### The seconds -/

theorem State.figures_tick : s.KeepsFigures s.tick :=
  (s.figures_mapSlots (f := fun _ x => { x with release := x.release.map fun a => { a with seconds := a.seconds - 1 } })
    fun _ _ h => h).trans (.same rfl)

end Sys2Proof.Machine
end

section
/-! PROOFS. The movements of the engines keep the figures of the Cassette Bank (R34, R55), and so does every command: what they do
to the figures goes through the shared operations. -/

namespace Sys2Proof.Machine

variable (s : State)

/-! ### Tickets -/

theorem State.figures_openDispenseTicket (teller : Teller) (l : Lane) (amount : Nat) (plan : List Segment) :
    s.KeepsFigures (s.openDispenseTicket teller l amount plan) :=
  .ite (.same rfl) ((State.figures_joinQueue _ _).after)

theorem State.figures_applyAmend (n : Nat) (d : Dispense) (who : Teller) (amount : Nat) (plan : List Segment) :
    s.KeepsFigures (s.applyAmend n d who amount plan) := by
  have moved (b : TicketBody) : s.KeepsFigures (((s.leaveQueue n).markTicket n who).move n b) :=
    (State.figures_move _ _ _).since (State.figures_markTicket _ _ _).after
  exact .ite (s.figures_rewrite n _) (.ite (moved _) ((State.figures_joinQueue _ _).since (moved _)))

theorem State.figures_endPicked (n : Nat) (d : Dispense) : s.KeepsFigures (s.endPicked n d) :=
  .ite ((s.figures_move n _).trans (.same rfl)) ((s.figures_move n _).trans (.same rfl))

theorem State.figures_askClose (l : Lane) : s.KeepsFigures (s.askClose l) := by
  rcases State.askClose_cases (s := s) l with ⟨p, -, h⟩ | ⟨-, h⟩ <;> rw [h]
  · exact .same rfl
  · exact .refl

theorem State.figures_voidTicket {t : Ticket} {u : State} (h : s.voidTicket t = some u) : s.KeepsFigures u := by
  have letGo : s.KeepsFigures (s.letGo t.number) := .thenIf .refl (.same rfl)
  have moved (v : State) (b : TicketBody) (hv : s.KeepsFigures v) : s.KeepsFigures (v.move t.number b) :=
    (v.figures_move _ _).since hv
  unfold State.voidTicket State.voidDispense at h
  split at h
  · split at h <;> try split at h
    all_goals cases h
    · exact moved _ _ .refl
    · exact moved _ _ (.same rfl)
    · exact moved _ _ .refl
    · exact (State.figures_endPicked _ _ _).since letGo
    · exact s.figures_endPicked _ _
    · exact (moved s _ .refl).trans (.same rfl)
    · exact .refl
    · exact (State.figures_askClose _ _).since (s.figures_rewrite _ _)
  · split at h <;> cases h
    exact moved _ _ .refl
  · split at h <;> cases h
    exact moved _ _ .refl

theorem State.figures_settle (t : Ticket) : s.KeepsFigures (s.settle t) := by
  have counted (u : State) : u.KeepsFigures u.countSettlement := .thenIf (.same rfl) (State.figures_requestCount _ _ _)
  unfold State.settle
  split
  · exact (counted _).after
  · exact (counted _).after
  · exact .same rfl

theorem State.figures_select (n : Nat) : s.KeepsFigures (s.select n) :=
  (State.figures_takeUp _ n).since (.trans ((State.figures_claim _ n _ _).after) (.same rfl))

theorem State.figures_takeExpired (n : Nat) : s.KeepsFigures (s.takeExpired n) := by
  unfold State.takeExpired
  split
  · exact .ite ((State.figures_askClose _ _).since (s.figures_rewrite _ _)) .refl
  · exact .refl

/-! ### Picks and purges -/

theorem State.figures_nextStep (n : Nat) (r : GaugeResult) : s.KeepsFigures (s.nextStep n r) := by
  unfold State.nextStep
  split
  · split
    · exact .ite ((s.figures_claim n _ _).trans (.same rfl)) (.ite (s.figures_haltPick _ _) (s.figures_takeUp n))
    · exact .ite (.same rfl) ((s.figures_claim n _ _).trans (.same rfl))
    all_goals exact .refl
  · exact .refl

theorem State.figures_pickResult (n : Nat) (p : Pos) (r : GaugeResult) : s.KeepsFigures (s.pickResult n p r) := by
  have counted : s.KeepsFigures ((s.countPick p r).adjust n (Dispense.takeResult r)) :=
    (State.figures_adjust _ _ _).since (s.figures_countPick p r)
  have next (u : State) (hu : s.KeepsFigures u) : s.KeepsFigures ({ u with picker := u.picker.stop }.nextStep n r) :=
    (State.figures_nextStep _ n r).since (hu.trans (.same rfl))
  exact next _ (.thenIf (counted.trans (.same rfl)) (State.figures_freeGate _))

theorem State.figures_takeGauge (r : GaugeResult) : s.KeepsFigures (s.takeGauge r) := by
  unfold State.takeGauge
  split
  · exact (State.figures_reform _).since (s.figures_pickResult _ _ _)
  · exact .refl

/-- Notes counted into the reject vault by a purge or a retract, in their two parts (R55). -/
theorem State.figures_countRetracted (n m : Nat) :
    s.KeepsFigures (s.changeRejectVault fun v => (v.addRetracted n).addSweep m) :=
  s.figures_changeRejectVault fun _ h => RejectVault.addSweep_inRange (RejectVault.addRetracted_inRange h n) m

theorem State.figures_countSweep (n : Nat) : s.KeepsFigures (s.changeRejectVault fun v => v.addSweep n) :=
  s.figures_changeRejectVault fun _ h => RejectVault.addSweep_inRange h n

theorem State.figures_endPurge (count : Nat) : s.KeepsFigures (s.endPurge count) := by
  have emptied (u : State) (hu : s.KeepsFigures u) : s.KeepsFigures { u with staging := .empty } := hu.trans (.same rfl)
  unfold State.endPurge
  refine emptied _ ?_
  dsimp only
  split
  · exact (State.figures_claim _ _ _ _).since (s.figures_countRetracted _ _)
  · exact s.figures_countRetracted _ _

/-! ### Retracts, deliveries and disputes -/

theorem State.figures_askRetract (e : Retract) : s.KeepsFigures (s.askRetract e) := .ite .refl (.same rfl)

theorem State.figures_promote (e : Retract) : s.KeepsFigures (s.promote e) := by
  unfold State.promote
  dsimp only
  split
  · exact (State.figures_claim _ _ _ _).after
  · exact .same rfl

theorem State.figures_deliver (n : Nat) (l : Lane) : s.KeepsFigures (s.deliver n l) := (s.figures_claim n _ _).trans (.same rfl)

theorem State.figures_dispute (n : Nat) (l : Lane) : s.KeepsFigures (s.dispute n l) := by
  unfold State.dispute
  split
  · exact .ite ((s.figures_move n _).trans (.same rfl)) .refl
  · exact .refl

theorem State.figures_arrive (l : Lane) (n : Nat) : s.KeepsFigures (s.arrive l n) := by
  have presented (u : State) (p : Option Presentation) (hu : s.KeepsFigures u) : s.KeepsFigures (u.putPresentation l p) :=
    hu.trans (.same rfl)
  exact .thenIf (.thenIf (presented _ _ (State.figures_claim _ n _ _).after) (State.figures_askRetract _ _))
    (State.figures_dispute _ n l)

theorem State.figures_handRetract (holder : Holder) (kind : RetractKind) (c : Nat) : s.KeepsFigures (s.handRetract holder kind c) := by
  unfold State.handRetract
  split
  · exact (State.figures_countRetracted _ _ _).since (s.figures_claim _ _ _)
  · exact (State.figures_countSweep _ c).after
  · exact s.figures_countSweep c

theorem State.figures_endRetract (l : Lane) (holder : Holder) (kind : RetractKind) (c : Nat) :
    s.KeepsFigures (s.endRetract l holder kind c) :=
  .trans (State.figures_handRetract _ holder kind c).after (.same rfl)

theorem State.figures_decideDrawer (l : Lane) : s.KeepsFigures (s.decideDrawer l) := by
  unfold State.decideDrawer
  dsimp only
  split
  · exact .ite (State.figures_askRetract _ _).after .refl
  · split
    · exact .ite (.ite (s.figures_askRetract _) (.ite .refl (.same rfl))) .refl
    · exact .refl
  · exact .refl

theorem State.figures_endSweep (count : Nat) : s.KeepsFigures (s.endSweep count) := by
  unfold State.endSweep
  dsimp only
  refine (State.figures_requestCount _ _ _).since (.since
    (.foldl (fun u l => .thenIf .refl (u.figures_decideDrawer l)) _ _) ?_)
  exact (s.figures_countSweep count).trans (.same rfl)

/-! ### Envelopes -/

theorem State.figures_beginCapture (l : Lane) (n : Nat) : s.KeepsFigures (s.beginCapture l n) :=
  (s.figures_envelopeClaim _ _ _).trans (.same rfl)

theorem State.figures_insertEvent (l : Lane) : s.KeepsFigures (s.insertEvent l) := by
  unfold State.insertEvent
  split
  · split
    · exact .same rfl
    · unfold State.acceptInsert
      split
      · exact s.figures_beginCapture _ _
      · exact (State.figures_beginCapture _ _ _).after
  all_goals exact .refl

theorem State.figures_raiseBin (l : Lane) : s.KeepsFigures (s.raiseBin l) := .thenIf (.same rfl) (.same rfl)

/-- A claim on an ENVELOPE ticket with the lane's handling back to IDLE. -/
theorem State.figures_clearHandling (l : Lane) (n : Nat) (takenIn : EnvelopeState) (f : Envelope → Envelope) :
    s.KeepsFigures ((s.envelopeClaim n takenIn f).handlingIdle l) := (s.figures_envelopeClaim n takenIn f).trans (.same rfl)

theorem State.figures_captureDone (l : Lane) : s.KeepsFigures (s.captureDone l) := by
  unfold State.captureDone
  dsimp only
  split
  · exact (State.figures_clearHandling _ _ _ _ _).since (s.figures_raiseBin l)
  · exact .refl

theorem State.figures_jam (l : Lane) (why : JamCause) : s.KeepsFigures (s.jam l why) := by
  unfold State.jam
  dsimp only
  split
  · exact (s.figures_envelopeClaim _ _ _).trans (.same rfl)
  · exact .refl

theorem State.figures_takeEvent (l : Lane) (kind : EventKind) : s.KeepsFigures (s.takeEvent l kind) := by
  cases kind with
  | insert => exact s.figures_insertEvent l
  | captureDone => exact s.figures_captureDone l
  | captureJam => exact s.figures_jam l _
  | returnDone =>
    change s.KeepsFigures (s.returnDone l)
    unfold State.returnDone
    split
    · exact s.figures_jam _ _
    · exact .same rfl
    all_goals exact .refl

theorem State.figures_decideHandling (l : Lane) (x : SlotValue) : s.KeepsFigures (s.decideHandling l x) := by
  unfold State.decideHandling
  split
  · exact .ite .refl (s.figures_jam _ _)
  · exact .ite .refl (.same rfl)
  all_goals exact .refl

theorem State.figures_clearedJam (n : Nat) (l : Lane) (captured : Bool) : s.KeepsFigures (s.clearedJam n l captured) :=
  .ite ((State.figures_clearHandling _ _ _ _ _).since (s.figures_raiseBin l)) (s.figures_clearHandling _ _ _ _)

/-! ### Intake runs -/

theorem State.figures_beginIntake (n : Nat) : s.KeepsFigures (s.beginIntake n) :=
  .ite ((s.figures_intakeClaim n _ _).trans (.same rfl)) ((s.figures_intakeClaim n _ _).trans (.same rfl))

theorem State.figures_endRun (n : Nat) : s.KeepsFigures (s.endRun n) := (s.figures_intakeClaim n _ _).trans (.same rfl)

theorem State.figures_finishIntake (n : Nat) : s.KeepsFigures (s.finishIntake n) := by
  unfold State.finishIntake
  split
  · exact .refl
  · dsimp only
    split
    · exact (State.figures_endRun _ n).after
    all_goals exact .same rfl

theorem State.figures_notePlaced (n : Nat) (x : Destination) (e : Escrow) : s.KeepsFigures (s.notePlaced n x e) := by
  have bank : s.KeepsFigures (s.bankNote x e) := by
    unfold State.bankNote
    split
    · exact (State.figures_freeGate _).since s.figures_countStore
    · exact (State.figures_handVaults _).after
    · exact .refl
    · exact .refl
  have leave (u : State) : u.KeepsFigures (u.leavePlacing n) := .ite (u.figures_endRun n) (.same rfl)
  exact (leave _).since ((State.figures_intakeCount _ _ _).since bank)

/-! ### The Lane Ring -/

theorem State.figures_changeLane (l : Lane) (r : LaneRec) : s.KeepsFigures (s.changeLane l r) := .thenIf (.same rfl) (.same rfl)

theorem State.figures_applyLaneCount : s.KeepsFigures s.applyLaneCount := by
  have one (count : Nat) (u : State) (l : Lane) : u.KeepsFigures (State.applyCountTo count u l) :=
    .ite (u.figures_changeLane _ _)
      (.ite .refl ((State.figures_hand _ _ _).since ((State.figures_hand _ _ _).since (u.figures_changeLane _ _))))
  unfold State.applyLaneCount
  split
  · exact .after (.foldl (one _) _ _)
  · exact .refl

theorem State.figures_leftOnline (l : Lane) : s.KeepsFigures (s.leftOnline l) := by
  unfold State.leftOnline
  split
  · exact .thenIf (.ite (s.figures_adjust _ _) ((s.figures_adjust _ _).trans (.same rfl))) (State.figures_askClose _ _)
  · exact .refl

theorem State.figures_applyFault (l : Lane) : s.KeepsFigures (s.applyFault l) :=
  .ite (.ite (.ite ((State.figures_hand _ _ _).since (.thenIf (s.figures_changeLane _ _) (State.figures_leftOnline _ _)))
    (.same rfl)) (.same rfl)) .refl

theorem State.figures_judgeLane (l : Lane) : s.KeepsFigures (s.judgeLane l) := by
  unfold State.judgeLane
  dsimp only
  split
  · exact .thenIf (s.figures_changeLane _ _) (State.figures_leftOnline _ _)
  · exact .refl

theorem State.figures_decideClose (l : Lane) (p : Presentation) (notes : Bool) : s.KeepsFigures (s.decideClose l p notes) :=
  .ite ((State.figures_askRetract _ _).since ((s.figures_adjust p.ticket _).trans (.same rfl)))
    ((s.figures_claim p.ticket _ _).trans (.same rfl))

theorem State.figures_presentReport (l : Lane) (p : Presentation) (x : DrawerReport) (notes fault : Bool) :
    s.KeepsFigures (s.presentReport l p x notes fault) :=
  .ite (.same rfl) (.ite .refl (.ite (s.figures_decideClose _ _ _) (.ite (s.figures_adjust _ _) .refl)))

theorem State.figures_lostReport (l : Lane) (p : Presentation) (x : DrawerReport) (notes fault : Bool) :
    s.KeepsFigures (s.lostReport l p x notes fault) :=
  .ite .refl (.ite (s.figures_askClose l)
    (.ite ((State.figures_askRetract _ _).since ((s.figures_adjust p.ticket _).trans (.same rfl)))
      ((s.figures_dispute p.ticket l).trans (.same rfl))))

theorem State.figures_drawerReport (l : Lane) (x : DrawerReport) (notes fault : Bool) :
    s.KeepsFigures (s.drawerReport l x notes fault) := by
  unfold State.drawerReport
  split
  · split
    · exact .ite (s.figures_presentReport _ _ _ _ _) (.ite (s.figures_lostReport _ _ _ _ _) .refl)
    · exact .refl
  · exact .refl

theorem State.figures_recordReply (l : Lane) (online : Bool) (w : Uplink) : s.KeepsFigures (s.recordReply l online w) := by
  have recorded (r : LaneRec) (c : Bool) : s.KeepsFigures ((s.putLane l r).placeIf c .lane) := .thenIf (.same rfl) (.same rfl)
  unfold State.recordReply
  dsimp only
  split
  · exact (State.figures_hand _ _ _).since (recorded _ _)
  all_goals exact recorded _ _

theorem State.figures_enterOnline (l : Lane) : s.KeepsFigures (s.enterOnline l) := by
  unfold State.enterOnline
  dsimp only
  refine .thenIf ?_ (State.figures_decideDrawer _ _)
  split
  · refine (State.figures_decideHandling _ _ _).since ?_
    split
    · exact (State.figures_drawerReport _ _ _ _ _).after
    · exact .same rfl
  · split
    · exact (State.figures_drawerReport _ _ _ _ _).after
    · exact .same rfl

theorem State.figures_handOn (l : Lane) (before : LaneRec) : s.KeepsFigures (s.handOn l before) := by
  have report (u : State) (last : Option Nat) (w : Uplink) : u.KeepsFigures (u.handReport l last w) := by
    unfold State.handReport
    split
    · exact (State.figures_drawerReport _ _ _ _ _).after
    · exact .refl
    · exact .ite (u.figures_takeEvent _ _) .refl
  unfold State.handOn
  dsimp only
  split
  · exact .ite (s.figures_recordReply _ _ _) (.ite ((report _ _ _).since (s.figures_recordReply _ _ _))
      ((State.figures_enterOnline _ _).since (s.figures_recordReply _ _ _)))
  · exact .refl

theorem State.figures_endFrame : s.KeepsFigures s.endFrame :=
  .trans (.since (.foldl (fun u l => u.figures_handOn l _) _ _)
      (.since (.foldl State.figures_judgeLane _ _) (.foldl State.figures_applyFault _ s)))
    (.same rfl)

theorem State.figures_lostExpired (l : Lane) : s.KeepsFigures (s.lostExpired l) := by
  unfold State.lostExpired
  split
  · split
    · exact .ite (s.figures_dispute _ _) (.same rfl)
    · exact .refl
  · exact .same rfl

theorem State.figures_resolve (n : Nat) (l : Lane) (d : Dispense) (delivered : Nat) :
    s.KeepsFigures (s.resolve n l d delivered) :=
  .thenIf ((s.figures_move n _).trans (.same rfl)) (.same rfl)

/-! ### Positions and configuration -/

theorem State.figures_releasePosition (p : Pos) : s.KeepsFigures (s.releasePosition p) :=
  (State.figures_requestCount _ _ _).since ((State.figures_recheckGate _).since (s.figures_putSlot id))

/-- A changed threshold or low level changes the state and the low flag of a slot alone (R46, R49). -/
theorem State.figures_reslot (newThreshold : Bool) (p : Pos) : s.KeepsFigures (State.reslot newThreshold s p) := by
  refine s.figures_putSlot fun h => ?_
  change Slot.counts (if newThreshold then _ else _)
  split
  · exact Slot.judgeQuality_counts h
  · exact h

theorem State.figures_configured (items : List ConfigItem) : s.KeepsFigures (s.configured items) := by
  have announce (u : State) : u.KeepsFigures (u.announceLanes items) := .thenIf .refl (.same rfl)
  have recount (u : State) (n : Nat) : u.KeepsFigures (u.recountPeriodic n) := .thenIf .refl (u.figures_requestCount _ _)
  unfold State.configured
  dsimp only
  refine (recount _ _).since ((State.figures_recheckGate _).since ?_)
  refine .since (.foldl (fun u p => u.figures_reslot _ p) _ _) ?_
  refine .ite ?_ ((State.figures_reclassInputs _ _).since ?_) <;>
    exact .ite (announce _).after (.since (.foldl State.figures_rejudge _ _) (announce _).after)

end Sys2Proof.Machine
end

section
/-! PROOFS. Every command, and every step, keeps the figures of the Cassette Bank (R34, R55, R168). -/

namespace Sys2Proof.Machine

variable {s t : State}

/-! ### Requests and outcomes -/

theorem State.figures_beginFrame (s : State) : s.KeepsFigures s.beginFrame := by
  have back : s.KeepsFigures (if s.port.read then s
      else ({ s with reasons := s.reasons.union s.port.readOutReasons }.putBackNumbers s.port.readOutNumbers).place .port) :=
    .ite .refl (.same rfl)
  unfold State.beginFrame
  split
  · exact .same rfl
  · exact back.trans (.same rfl)
  · exact .refl
  · exact .same rfl

theorem State.figures_takeFrame (s : State) : s.KeepsFigures s.takeFrame := by
  unfold State.takeFrame
  split
  case h_1 | h_2 => exact s.figures_beginFrame
  case h_3 | h_4 => exact .refl

/-- The outcome of a command, when it has one, keeps the figures. -/
def State.FiguresBy (s : State) (o : Host.Outcome State Fault Refusal) : Prop := ∀ t, o = .next t → s.KeepsFigures t

namespace State.FiguresBy

theorem next (h : s.KeepsFigures t) : s.FiguresBy (.next t) := fun u hu => by
  cases hu; exact h

/-- A command that leaves the state as it was. -/
theorem idle : s.FiguresBy (.next s) := .next .refl

theorem ite {c : Prop} [Decidable c] {o p : Host.Outcome State Fault Refusal} (h : s.FiguresBy o) (k : s.FiguresBy p) :
    s.FiguresBy (if c then o else p) := by split <;> assumption

/-- A command that is a request, by what its checks and its effect grant. -/
theorem request {act : State → Except Status (State × List Byte)} (h : ∀ s : State, Grants s.KeepsFigures (act s)) :
    s.FiguresBy (.next (s.answer act)) := by
  refine .next ?_
  rcases State.answer_cases (s := s) act with ⟨t, payload, ht, he⟩ | ⟨e, -, he⟩ <;> rw [he]
  · exact ((s.figures_takeFrame).trans (h _ _ _ ht)).trans (.same rfl)
  · exact (s.figures_takeFrame).trans (.same rfl)

end State.FiguresBy

/-- The formed values close a command that keeps the figures. -/
theorem State.KeepsFigures.reform (h : s.KeepsFigures t) : s.KeepsFigures t.reform := h.trans t.figures_reform

/-- An approval of a dual request (R177) keeps the figures when its effect does. -/
theorem State.figures_approveDual {x : HeldTarget} {delivered : Option Nat} {teller : Teller} {effect : State → State}
    (h : ∀ u : State, u.KeepsFigures (effect u)) : Grants s.KeepsFigures (s.approveDual x delivered teller effect) := by
  unfold State.approveDual
  dsimp only
  split
  · exact .ok (.same rfl)
  · exact .ok (h _).after
  · exact .error

/-! ### The requests -/

theorem State.figuresBy_amend (ticket teller amount : Nat) (segments : List SegmentArg) :
    s.FiguresBy (execAmend ticket teller amount segments s) := by
  refine .request fun s => .need fun _ => .need fun _ => .named fun _ _ => .named fun _ _ => .named fun _ _ => .need fun _ =>
    .named fun k _ => ?_
  split
  · split
    case h_1 | h_2 => exact .need fun _ => .need fun _ => .need fun _ => .need fun _ => .ok (s.figures_applyAmend _ _ _ _ _).reform
    case h_3 =>
      exact .need fun _ => .need fun _ => .need fun _ => .need fun _ => .need fun _ => .need fun _ => .need fun _ =>
        .ok ((State.figures_takeUp _ _).since (s.figures_move _ _)).reform
    all_goals exact .error
  · exact .need fun _ => .named fun _ _ => .ok (s.figures_rewrite _ _).reform
  · exact .error

theorem State.figuresBy_approve (ticket teller : Nat) : s.FiguresBy (execApprove ticket teller s) := by
  refine .request fun s => .need fun _ => .need fun _ => .named fun _ _ => .named fun _ _ => ?_
  split
  · exact .need fun _ => .need fun _ => .ok
      ((State.figures_joinQueue _ _).since ((State.figures_move _ _ _).since (s.figures_markTicket _ _))).reform
  · exact .error
  · exact .error

theorem State.figuresBy_configure (items : List ConfigItem) : s.FiguresBy (execConfigure items s) := by
  refine .request fun s => .need fun _ => ?_
  split
  · exact .error
  · exact .ok (s.figures_configured items).reform

theorem State.figuresBy_openDispense (teller lane amount : Nat) (segments : List SegmentArg) :
    s.FiguresBy (execOpenDispense teller lane amount segments s) :=
  .request fun s => .need fun _ => .named fun _ _ => .named fun _ _ => .need fun _ => .named fun _ _ => .need fun _ =>
    .need fun _ => .need fun _ => .need fun _ => .ok (s.figures_openDispenseTicket _ _ _ _).reform

theorem State.figuresBy_positionReinstate (position : Nat) : s.FiguresBy (execPositionReinstate position s) :=
  .request fun s => .named fun _ _ => .need fun _ => .need fun _ => .ok (s.figures_putSlot (x := (s.slot _).reinstated) id).reform

theorem State.figuresBy_positionRelease (position teller : Nat) : s.FiguresBy (execPositionRelease position teller s) := by
  refine .request fun s => .need fun _ => .named fun p _ => .named fun who _ => .need fun _ => .need fun _ => .need fun _ => ?_
  unfold State.approveRelease
  split
  · exact .ok (s.figures_putSlot id)
  · exact .ok (s.figures_releasePosition p).reform
  · exact .error

/-! ### The events -/

theorem State.figuresBy_badFrame (partByte : Bool) (bytes : List Byte) : s.FiguresBy (execBadFrame partByte bytes s) := by
  unfold execBadFrame
  refine .ite ?_ .idle
  split
  · exact .request fun _ => .error
  · exact .idle

theorem State.figuresBy_dualApprovalExpiry (target : DualTarget) : s.FiguresBy (execDualApprovalExpiry target s) := by
  refine .next ?_
  split
  · exact s.figures_setSlot id
  all_goals exact .same rfl

theorem State.figuresBy_ticketSelection : s.FiguresBy (execTicketSelection s) := by
  unfold execTicketSelection
  split
  · exact .next (s.figures_select _).reform
  · exact .idle

theorem State.figuresBy_pickerResume : s.FiguresBy (execPickerResume s) := by
  unfold execPickerResume
  split
  · exact .ite (.next (s.figures_workPick _).reform) .idle
  · exact .idle

theorem State.figuresBy_retractPromotion : s.FiguresBy (execRetractPromotion s) := by
  unfold execRetractPromotion
  split
  · exact .ite (.next (s.figures_promote _).reform) .idle
  · exact .idle

theorem State.figuresBy_deliveryGrant : s.FiguresBy (execDeliveryGrant s) := by
  unfold execDeliveryGrant
  split
  · exact .next (s.figures_deliver _ _).reform
  · exact .idle

theorem State.figuresBy_deliveryArrival : s.FiguresBy (execDeliveryArrival s) := by
  unfold execDeliveryArrival
  split
  · exact .next (s.figures_arrive _ _).reform
  all_goals exact .idle

theorem State.figuresBy_retractGrant : s.FiguresBy (execRetractGrant s) := by
  unfold execRetractGrant
  split
  · exact .next (.reform (.same rfl))
  · exact .idle

theorem State.figuresBy_retractCompletion (count : Nat) : s.FiguresBy (execRetractCompletion count s) := by
  unfold execRetractCompletion
  split
  · exact .next (s.figures_endRetract _ _ _ _).reform
  all_goals exact .idle

theorem State.figuresBy_cassetteRemoval (p : Pos) : s.FiguresBy (execCassetteRemoval p s) :=
  .ite .idle (.ite (.next ((State.figures_handWriteBack _ _ _).since (s.figures_remove p)).reform)
    (.next (s.figures_remove p).reform))

theorem State.figuresBy_identityReadEnd (tries : List TagTry) : s.FiguresBy (execIdentityReadEnd tries s) := by
  unfold execIdentityReadEnd
  split
  · exact .next (s.figures_endRead _ _).reform
  all_goals exact .idle

theorem State.figuresBy_tagWriteEnd (tries : List TagTry) : s.FiguresBy (execTagWriteEnd tries s) := by
  have written (p : Pos) (image : List Byte) (ok clears : Bool) :
      s.KeepsFigures (s.putSlot p ((s.slot p).afterWrite image ok clears)).endTransfer :=
    (State.figures_endTransfer _).since (s.figures_putSlot (Slot.afterWrite_counts _ _ _))
  unfold execTagWriteEnd
  split
  · exact .idle
  · exact .idle
  · split
    · exact .next (written _ _ _ _).reform
    · exact .idle
  · split
    · exact .next ((State.figures_handWriteBack _ _ _).since (written _ _ _ _)).reform
    · exact .idle

theorem State.figuresBy_vaultPresenceChange (v : Vault) (present : Bool) : s.FiguresBy (execVaultPresenceChange v present s) := by
  have set : s.KeepsFigures (s.setPresent v present) := by
    cases v
    · exact s.figures_setVault id
    · exact .same rfl
  exact .next ((State.figures_handVaults _).since set).reform

theorem State.figuresBy_escrowEvent (code : Option Code) : s.FiguresBy (execEscrowEvent code s) := by
  unfold execEscrowEvent
  split
  · exact .next (.reform (.same rfl))
  · exact .next (s.figures_decideNote _).reform
  all_goals exact .idle

theorem State.figuresBy_notePlaced : s.FiguresBy (execNotePlaced s) := by
  have stray : s.KeepsFigures s.strayPlaced := .ite (.same rfl) (.same rfl)
  unfold execNotePlaced
  split
  · split
    · exact .next (s.figures_notePlaced _ _ _).reform
    · exact .idle
  case h_4 | h_5 => exact .idle
  all_goals exact .ite (.next stray.reform) .idle

theorem State.figuresBy_laneSlot (l : Lane) (heard : RingWord) (reply : Reply) : s.FiguresBy (execLaneSlot l heard reply s) := by
  unfold execLaneSlot
  split
  · exact .next (.same rfl)
  · exact .ite (.next (.same rfl)) .idle

/-- A full reset leaves figures in their ranges, whatever stood before (R185). -/
theorem State.figuresBy_fullReset (prsA prsB prsC prsD rejectPresent intakePresent : Bool) :
    s.FiguresBy (execFullReset prsA prsB prsC prsD rejectPresent intakePresent s) := by
  have seen (u : State) (p : Pos) (present : Bool) : u.KeepsFigures (u.seePosition p present) :=
    .thenIf .refl (u.figures_insertCassette p)
  have fresh (reject : RejectVault) (intake : IntakeVault) :
      State.reset.KeepsFigures { State.reset with rejectVault := { State.reset.rejectVault with present := rejectPresent },
                                                  intakeVault := intake } := ⟨id, id⟩
  have reset : State.reset.KeepsFigures
      { State.afterReset prsA prsB prsC prsD rejectPresent intakePresent with pending := s.pending } :=
    .trans (.reform ((seen _ _ _).since ((seen _ _ _).since ((seen _ _ _).since ((seen _ _ _).since
      ((State.figures_handVaults _).since (fresh State.reset.rejectVault _))))))) (.same rfl)
  refine .next ⟨fun _ => reset.counts ⟨fun p => ?_, fun p r h => ?_⟩, fun _ => reset.vault ?_⟩
  · cases p <;> rfl
  · cases p <;> cases h
  · unfold RejectVault.inRange Since.upTo
    decide

/-! ### Every command, and every step -/

theorem State.figuresBy_exec (i : Instr) (s : State) : s.FiguresBy (exec i s) := by
  cases i with
  | fullReset => exact State.figuresBy_fullReset _ _ _ _ _ _
  | requestFrameBegin => exact .next s.figures_beginFrame
  | frameWhileActing => exact .next (.same rfl)
  | badFrame => exact State.figuresBy_badFrame _ _
  | responseRead => exact .ite .idle (.next (.same rfl))
  | alarmAck => exact .request fun s => .need fun _ => .named fun _ _ => .need fun _ => .ok (s.figures_acknowledge _).reform
  | alarmList => exact .request fun _ => .need fun _ => .ok .refl
  | amend => exact State.figuresBy_amend _ _ _ _
  | approve => exact State.figuresBy_approve _ _
  | balanceRead => exact .request fun _ => .ok .refl
  | binEmptied =>
    exact .request fun _ => .named fun _ _ => .named fun _ _ => .need fun _ =>
      State.figures_approveDual fun _ => .reform (.same rfl)
  | binSet => exact .request fun _ => .named fun _ _ => .need fun _ => .need fun _ => .ok (.reform (.same rfl))
  | clearJam =>
    exact .request fun s => .need fun _ => .need fun _ => .named fun _ _ => .named fun _ _ => .named fun _ _ => .need fun _ =>
      .ok (s.figures_clearedJam _ _ _).reform
  | configRead => exact .request fun _ => .ok .refl
  | configure => exact State.figuresBy_configure _
  | countPoint => exact .request fun s => .need fun _ => .ok (s.figures_requestCount _ _).reform
  | enterSetup =>
    exact .request fun _ => .need fun _ => .need fun _ => .need fun _ => .need fun _ => .need fun _ => .ok (.reform (.same rfl))
  | identify => exact .request fun _ => .ok .refl
  | intakeBegin =>
    exact .request fun s => .need fun _ => .need fun _ => .named fun _ _ => .named fun _ _ => .need fun _ => .need fun _ =>
      .need fun _ => .ok (s.figures_beginIntake _).reform
  | intakeFinish =>
    exact .request fun s => .need fun _ => .need fun _ => .named fun _ _ => .named fun _ _ => .need fun _ =>
      .ok (s.figures_finishIntake _).reform
  | laneQuery => exact .request fun _ => .named fun _ _ => .ok .refl
  | laneRestart =>
    exact .request fun s => .named fun _ _ => .need fun _ =>
      .ok ((State.figures_hand _ _ _).since (s.figures_changeLane _ _)).reform
  | list => exact .request fun _ => .need fun _ => .ok .refl
  | lookup => exact .request fun _ => .need fun _ => .named fun _ _ => .ok .refl
  | openDispense => exact State.figuresBy_openDispense _ _ _ _
  | openEnvelope =>
    exact .request fun _ => .need fun _ => .named fun _ _ => .named fun _ _ => .need fun _ => .ok (.reform (.same rfl))
  | openIntake =>
    exact .request fun _ => .need fun _ => .named fun _ _ => .named fun _ _ => .need fun _ => .ok (.reform (.same rfl))
  | positionQuery => exact .request fun _ => .named fun _ _ => .ok .refl
  | positionReinstate => exact State.figuresBy_positionReinstate _
  | positionRelease => exact State.figuresBy_positionRelease _ _
  | readAttention => exact .request fun _ => .ok (.same rfl)
  | resolve =>
    exact .request fun _ => .need fun _ => .named fun _ _ => .need fun _ => .named fun _ _ => .named fun _ _ => .need fun _ =>
      .need fun _ => .need fun _ => State.figures_approveDual fun u => (u.figures_resolve _ _ _ _).reform
  | resume => exact .request fun _ => .need fun _ => .need fun _ => .ok (.reform (.same rfl))
  | settle =>
    exact .request fun s => .need fun _ => .need fun _ => .named fun _ _ => .need fun _ => .ok (s.figures_settle _).reform
  | startWall => exact .request fun _ => .need fun _ => .need fun _ => .need fun _ => .ok (.same rfl)
  | vaultEmptied =>
    exact .request fun _ => .named fun _ _ => .named fun _ _ => .need fun _ => .need fun _ =>
      State.figures_approveDual fun u => u.figures_emptyVault _
  | void =>
    exact .request fun s => .need fun _ => .need fun _ => .named fun _ _ => .named fun _ hu =>
      .ok (s.figures_voidTicket hu).reform
  | dualApprovalExpiry => exact State.figuresBy_dualApprovalExpiry _
  | approvalWindowExpiry => exact .next (s.figures_claim _ _ _).reform
  | takeTimerExpiry => exact .next (s.figures_takeExpired _).reform
  | lostLaneTimerExpiry => exact .ite (.next (s.figures_lostExpired _).reform) .idle
  | quiesceTimerExpiry => exact .ite (.next s.figures_timeOutCount.reform) .idle
  | ticketSelection => exact State.figuresBy_ticketSelection
  | pickerResume => exact State.figuresBy_pickerResume
  | gaugeResult => exact .next (s.figures_takeGauge _)
  | pickMissTimeout => exact .next (s.figures_takeGauge _)
  | purgeBegin => exact .ite (.next (.same rfl)) .idle
  | purgeCompletion => exact .ite (.next (s.figures_endPurge _).reform) .idle
  | retractPromotion => exact State.figuresBy_retractPromotion
  | deliveryGrant => exact State.figuresBy_deliveryGrant
  | deliveryArrival => exact State.figuresBy_deliveryArrival
  | retractGrant => exact State.figuresBy_retractGrant
  | retractCompletion => exact State.figuresBy_retractCompletion _
  | sweepBegin => exact .ite (.next (.reform (.same rfl))) .idle
  | sweepCompletion => exact .ite (.next (s.figures_endSweep _).reform) .idle
  | quietFound => exact .ite (.next s.figures_enterBalancing.reform) .idle
  | cassetteInsertion => exact .ite (.next (s.figures_insertCassette _).reform) .idle
  | cassetteRemoval => exact State.figuresBy_cassetteRemoval _
  | identityReadEnd => exact State.figuresBy_identityReadEnd _
  | tagWriteEnd => exact State.figuresBy_tagWriteEnd _
  | vaultPresenceChange => exact State.figuresBy_vaultPresenceChange _ _
  | escrowEvent => exact State.figuresBy_escrowEvent _
  | notePlaced => exact State.figuresBy_notePlaced
  | inputSample => exact .next (s.figures_sample _).reform
  | syncSlot => exact .next (.reform (State.figures_applyLaneCount _).after)
  | laneSlot => exact State.figuresBy_laneSlot _ _ _
  | frameEnd => exact .next s.figures_endFrame.reform

/-- Every step keeps the figures: the command at the front of the queue does, and so does a second of idling. -/
theorem State.figures_step (h : step s = .next t) : s.KeepsFigures t := by
  unfold step at h
  split at h
  · exact .after (State.figuresBy_exec _ _ t h)
  · cases h
    exact s.figures_tick

/-- Settles O58. -/
theorem stepKeepsTheFigures : Obligations.StepKeepsTheFigures :=
  ⟨fun _ _ hs h => (State.figures_step h).counts hs, fun _ _ hs h => (State.figures_step h).vault hs⟩

end Sys2Proof.Machine
end

section
/-! PROOFS. The claims that wait for the D gate while position D or the count point changes (R59, R60, R68, R115): which records
their answer touches, that D no longer fit answers them "not fit", and which changes leave an answer given as it is. -/

namespace Sys2Proof.Machine

variable {s t u : State}

/-! ### The records an answer touches -/

/-- The check of the waiting claims, by its two parts (R60). -/
theorem State.recheckGate_eq (s : State) :
    s.recheckGate =
      if s.recheckPick.gate.waitDeposit ∧ ¬ s.recheckPick.storeFit then
        State.redecide { s.recheckPick with gate := { s.recheckPick.gate with waitDeposit := false } }
      else s.recheckPick := rfl

theorem State.recheckGate_frame (s : State) :
    s.recheckGate = { s with tickets := s.recheckGate.tickets, changeSet := s.recheckGate.changeSet,
                             reasons := s.recheckGate.reasons, picker := s.recheckGate.picker, gate := s.recheckGate.gate,
                             intakeRec := s.recheckGate.intakeRec, headSent := s.recheckGate.headSent } := by
  have checked : s.PicksOnly s.recheckPick := State.picksOnly_recheckPick
  rw [State.recheckGate_eq]
  split
  · rw [State.redecide_frame, checked.same]
  · rw [checked.same]

theorem State.freeGate_frame (s : State) :
    s.freeGate = { s with tickets := s.freeGate.tickets, changeSet := s.freeGate.changeSet, reasons := s.freeGate.reasons,
                          picker := s.freeGate.picker, gate := s.freeGate.gate, intakeRec := s.freeGate.intakeRec,
                          headSent := s.freeGate.headSent } := by
  have deposit (v : State) : v.serveGateDeposit =
      { v with gate := v.serveGateDeposit.gate, intakeRec := v.serveGateDeposit.intakeRec,
               headSent := v.serveGateDeposit.headSent } := by
    unfold State.serveGateDeposit
    split
    · rw [State.decideStore_eq]
    · rfl
  have picker (v : State) : v.PicksOnly v.serveGatePicker := State.picksOnly_serveGatePicker
  unfold State.freeGate
  dsimp only
  split
  · rw [(picker _).same, deposit]
  · rw [deposit, (picker _).same]

theorem State.decideNote_frame (s : State) (e : Escrow) :
    s.decideNote e = { s with gate := (s.decideNote e).gate, intakeRec := (s.decideNote e).intakeRec,
                              headSent := (s.decideNote e).headSent } := by
  rw [State.decideNote_eq]
  split
  · split
    · rw [State.decideStore_eq]; rfl
    · rfl
  · rfl

theorem State.recallWaitingNote_frame (s : State) :
    s.recallWaitingNote = { s with gate := s.recallWaitingNote.gate, intakeRec := s.recallWaitingNote.intakeRec,
                                   headSent := s.recallWaitingNote.headSent } := by
  unfold State.recallWaitingNote
  split
  · split
    · rw [State.decideNote_frame]
    · rfl
  · rfl

theorem State.pauseWaitingPick_frame (s : State) :
    s.pauseWaitingPick = { s with gate := s.pauseWaitingPick.gate, picker := s.pauseWaitingPick.picker } := by
  unfold State.pauseWaitingPick
  split <;> rfl

/-- The count point record as QUIESCING is entered (R161, R163). -/
def CountPoint.entersQuiescing (c : CountPoint) (timeout : Nat) (causes : CauseSet) (release : PosSet) : CountPoint :=
  { c with state := .quiescing, causes := causes, timer := some timeout, failures := .empty, release := release }

theorem State.enterQuiescing_frame (s : State) (causes : CauseSet) (release : PosSet) :
    s.enterQuiescing causes release =
      { s with countPoint := s.countPoint.entersQuiescing s.params.quiesceTimeout causes release,
               picker := (s.enterQuiescing causes release).picker, gate := (s.enterQuiescing causes release).gate,
               intakeRec := (s.enterQuiescing causes release).intakeRec,
               headSent := (s.enterQuiescing causes release).headSent } := by
  unfold State.enterQuiescing
  rw [State.recallWaitingNote_frame, State.pauseWaitingPick_frame]
  rfl

/-- The count point record after a request with a cause (R161). -/
def CountPoint.requested (c : CountPoint) (timeout : Nat) (cause : Cause) (release : PosSet) : CountPoint :=
  match c.state with
  | .idle => c.entersQuiescing timeout (CauseSet.empty.add cause) release
  | .quiescing => { c with causes := c.causes.add cause, release := c.release.union release }
  | .balancing =>
    { c with pending := true, pendingCauses := c.pendingCauses.add cause, pendingRelease := c.pendingRelease.union release }

section Requested
variable {c : CountPoint} {timeout : Nat} {cause : Cause} {release : PosSet}

theorem CountPoint.requested_idle (h : c.state = .idle) :
    c.requested timeout cause release = c.entersQuiescing timeout (CauseSet.empty.add cause) release := by
  cases c; cases h; rfl

theorem CountPoint.requested_quiescing (h : c.state = .quiescing) :
    c.requested timeout cause release = { c with causes := c.causes.add cause, release := c.release.union release } := by
  cases c; cases h; rfl

theorem CountPoint.requested_balancing (h : c.state = .balancing) :
    c.requested timeout cause release =
      { c with pending := true, pendingCauses := c.pendingCauses.add cause,
               pendingRelease := c.pendingRelease.union release } := by
  cases c; cases h; rfl

end Requested

theorem State.requestCount_frame (s : State) (c : Cause) (release : PosSet) :
    s.requestCount c release =
      { s with countPoint := s.countPoint.requested s.params.quiesceTimeout c release,
               picker := (s.requestCount c release).picker, gate := (s.requestCount c release).gate,
               intakeRec := (s.requestCount c release).intakeRec, headSent := (s.requestCount c release).headSent } := by
  cases h : s.countPoint.state <;> simp only [State.requestCount, CountPoint.requested, h]
  exact s.enterQuiescing_frame _ _

/-! ### The answer "not fit" (R60) -/

/-- The halt of a waiting pick claim, by the DISPENSE record under the ticket's number. -/
theorem State.haltsWaiting_iff {why : HaltReason} :
    s.haltsWaiting u why ↔
      ∀ n d, s.gate.waitPicker = true → s.picker.ticket = some n → s.dispense n = some d → d.state = .picking →
        u.gate.waitPicker = false ∧ u.picker.state = .idle ∧ u.picker.ticket = none
        ∧ u.dispense n = some { d with state := .pickHalted, halt := some why } := by
  constructor
  · intro h n d hw hn hd hp
    obtain ⟨t, ht, hb⟩ := State.dispense_some.1 hd
    obtain rfl := (State.ticket_some ht).2
    exact h t d hw hn ⟨ht, hb⟩ hp
  · exact fun h t d hw hn hold hp => h _ d hw hn (State.dispense_some.2 ⟨t, hold⟩) hp

/-- A state with the same tickets, picker and pick claim has the same waiting claim to halt. -/
theorem State.haltsWaiting_of_same {why : HaltReason} (h : t.haltsWaiting u why) (hw : t.gate.waitPicker = s.gate.waitPicker)
    (hp : t.picker.ticket = s.picker.ticket) (hd : ∀ n, t.dispense n = s.dispense n) : s.haltsWaiting u why := by
  rw [State.haltsWaiting_iff] at h ⊢
  rw [hw, hp] at h
  exact fun n d h1 h2 h3 => h n d h1 h2 ((hd n).trans h3)

/-- The check of the waiting claims halts a pick claim when D is not fit for it. -/
theorem State.recheckGate_halts {why : HaltReason} (hu : (s.slot .d).pickUnfit = some why) : s.haltsWaiting s.recheckGate why := by
  rw [State.haltsWaiting_iff]
  intro n d hw hn hd hp
  have halted := State.recheckPick_unfit hw hu hn
  obtain ⟨hgate, hpicker⟩ := State.haltPick_gate (s := { s with gate := { s.gate with waitPicker := false } }) (n := n) why
  have hdis : s.recheckPick.dispense n = some { d with state := .pickHalted, halt := some why } := by
    rw [halted]
    exact State.dispense_haltPick (s := { s with gate := { s.gate with waitPicker := false } }) hd hp why
  have hrest : s.recheckPick.gate.waitPicker = false ∧ s.recheckPick.picker = s.picker.stop := by
    rw [halted]
    exact ⟨congrArg Gate.waitPicker hgate, hpicker⟩
  rw [State.recheckGate_eq]
  split
  · rw [State.redecide_frame]
    exact ⟨hrest.1, congrArg Picker.state hrest.2, congrArg Picker.ticket hrest.2, hdis⟩
  · exact ⟨hrest.1, congrArg Picker.state hrest.2, congrArg Picker.ticket hrest.2, hdis⟩

/-- Row by row the destination of a note decided again without D (R112, R114). -/
theorem State.destination_without_d {c : Code} {v n : Nat} {k : Intake} (ho : s.intakeRec.owner = some n)
    (hk : s.intake n = some k) :
    s.destination false ⟨some c, some v⟩ =
      if s.pausing ∨ 2500 ≤ k.recycled + k.vaulted ∨ 999999 < k.amount + v ∨ s.intakeVault.full then .tray else .vault := by
  have owner : s.intakeRec.owner.bind s.intake = some k := by rw [ho]; exact hk
  unfold State.destination
  simp only [owner, Config.intakeFullAt, Config.maxAmount]
  grind

/-- What a state has of the note that waits for the gate; where a note is stored is set as it is placed. -/
def State.noteView (s : State) : Bool × IntakeRec × List HeadCommand × Bool :=
  (s.gate.waitDeposit, { s.intakeRec with storedTo := .slot }, s.headSent, s.intakeVault.full)

theorem State.redecidesWaiting_of_same {b : Bool} (h : t.redecidesWaiting u b) (hv : t.noteView = s.noteView)
    (hi : ∀ n, t.intake n = s.intake n) : s.redecidesWaiting u b := by
  simp only [State.noteView, Prod.mk.injEq, IntakeRec.mk.injEq, and_true] at hv
  obtain ⟨hw, ⟨-, owner, escrow, -, held, stray⟩, sent, full⟩ := hv
  intro c v n k h1 h2 h3 h4
  obtain ⟨waits, told, placed⟩ := h c v n k (hw.trans h1) (escrow.trans h2) (owner.trans h3) ((hi n).trans h4)
  simp only [full, owner, escrow, held, stray] at placed
  rw [sent, full] at told
  exact ⟨waits, told, placed⟩

/-- The check of the waiting claims sends the note of a store claim on when D takes no stores. -/
theorem State.recheckGate_redecides (hs : s.storeFit = false) : s.redecidesWaiting s.recheckGate s.pausing := by
  intro c v n k hw he ho hk
  have checked : s.PicksOnly s.recheckPick := State.picksOnly_recheckPick
  have unfit : s.recheckPick.storeFit = false := by
    rw [State.storeFit_congr (s := s) (by rw [checked.same]) (by rw [checked.same])]
    exact hs
  let v' : State := { s.recheckPick with gate := { s.recheckPick.gate with waitDeposit := false } }
  have decided : s.recheckGate = v'.redecide := by
    rw [State.recheckGate_eq, checked.waitDeposit, unfit, if_pos ⟨hw, Bool.false_ne_true⟩]
  have rec' : v'.intakeRec = s.intakeRec ∧ v'.headSent = s.headSent ∧ v'.pausing = s.pausing
      ∧ v'.intakeVault = s.intakeVault := by
    simp only [v']
    rw [checked.same]
    exact ⟨rfl, rfl, rfl, rfl⟩
  obtain ⟨hrec, hsent, hpause, hvault⟩ := rec'
  have redecided : v'.redecide = v'.placeNote (v'.destination false ⟨some c, some v⟩) := by
    unfold State.redecide
    rw [hrec, he]
  have dest := State.destination_without_d (s := v') (c := c) (v := v) (by rw [hrec]; exact ho) ((checked.intake n).trans hk)
  rw [hpause, hvault] at dest
  rw [decided, redecided, dest]
  refine ⟨rfl, ?_, ?_⟩
  · simp only [State.placeNote, State.tellHead, hsent]
  · simp only [State.placeNote, State.tellHead, hrec]

/-! ### What leaves an answer as it is -/

/-- A change that leaves a picker that is IDLE with no claim, and every DISPENSE record, as they are. -/
def State.SparesHalt (s t : State) : Prop :=
  s.picker.state = .idle → s.gate.waitPicker = false →
    t.picker = s.picker ∧ t.gate.waitPicker = false ∧ ∀ n, t.dispense n = s.dispense n

/-- A change that leaves a note that does not wait for the gate, and has no claim, as it is. -/
def State.SparesNote (s t : State) : Prop :=
  s.intakeRec.state ≠ .waitingGate → s.gate.waitDeposit = false →
    t.intakeRec = s.intakeRec ∧ t.headSent = s.headSent ∧ t.gate.waitDeposit = false

theorem State.SparesHalt.trans (h : s.SparesHalt t) (k : t.SparesHalt u) : s.SparesHalt u := by
  intro hi hw
  obtain ⟨h1, h2, h3⟩ := h hi hw
  obtain ⟨k1, k2, k3⟩ := k (by rw [h1]; exact hi) h2
  exact ⟨k1.trans h1, k2, fun n => (k3 n).trans (h3 n)⟩

theorem State.SparesNote.trans (h : s.SparesNote t) (k : t.SparesNote u) : s.SparesNote u := by
  intro hi hw
  obtain ⟨h1, h2, h3⟩ := h hi hw
  obtain ⟨k1, k2, k3⟩ := k (by rw [h1]; exact hi) h3
  exact ⟨k1.trans h1, k2.trans h2, k3⟩

theorem State.SparesHalt.of_same (hp : t.picker = s.picker) (hg : t.gate = s.gate) (ht : t.tickets = s.tickets) :
    s.SparesHalt t := by
  intro _ hw
  refine ⟨hp, by rw [hg]; exact hw, fun n => ?_⟩
  simp only [State.dispense, State.ticket, ht]

theorem State.SparesNote.of_same (hr : t.intakeRec = s.intakeRec) (hs : t.headSent = s.headSent)
    (hg : t.gate.waitDeposit = s.gate.waitDeposit) : s.SparesNote t := fun _ hw => ⟨hr, hs, hg.trans hw⟩

theorem State.haltsWaiting.spared {why : HaltReason} (h : s.haltsWaiting t why) (k : t.SparesHalt u) : s.haltsWaiting u why := by
  intro c d hw hn hold hp
  obtain ⟨h1, h2, h3, h4⟩ := h c d hw hn hold hp
  obtain ⟨k1, k2, k3⟩ := k h2 h1
  exact ⟨k2, by rw [k1]; exact h2, by rw [k1]; exact h3, (k3 _).trans h4⟩

theorem State.redecidesWaiting.spared {b : Bool} (h : s.redecidesWaiting t b) (k : t.SparesNote u) : s.redecidesWaiting u b := by
  intro c v n m hw he ho hk
  obtain ⟨h1, h2, h3⟩ := h c v n m hw he ho hk
  obtain ⟨k1, k2, k3⟩ := k (by rw [h3]; exact nofun) h1
  exact ⟨k3, k2.trans h2, k1.trans h3⟩

theorem State.Spares.halt (h : s.Spares t) : s.SparesHalt t := fun hi hw =>
  have ⟨hp, hg⟩ := h.picker (by rw [hi]; decide)
  ⟨hp, hg.trans hw, h.marks.dispense⟩

theorem State.Spares.sparesNote (h : s.Spares t) : s.SparesNote t := fun hi hw =>
  have ⟨hr, hs, hg⟩ := h.note hi
  ⟨hr, hs, hg.trans hw⟩

/-- A count point asked for leaves the answers given (R68, R115). -/
theorem State.enterQuiescing_spares (s : State) (causes : CauseSet) (release : PosSet) :
    s.SparesHalt (s.enterQuiescing causes release) ∧ s.SparesNote (s.enterQuiescing causes release) := by
  let q : State := { s with countPoint := s.countPoint.entersQuiescing s.params.quiesceTimeout causes release }
  have paused := State.spares_pauseWaitingPick q
  have pausing : q.pauseWaitingPick.pausing = true := by
    rw [State.pauseWaitingPick_frame]
    exact Bool.or_true _
  have all : q.Spares (s.enterQuiescing causes release) := paused.trans (State.spares_recallWaitingNote pausing)
  exact ⟨all.halt, all.sparesNote⟩

theorem State.requestCount_spares (s : State) (c : Cause) (release : PosSet) :
    s.SparesHalt (s.requestCount c release) ∧ s.SparesNote (s.requestCount c release) := by
  unfold State.requestCount
  split
  · exact s.enterQuiescing_spares _ _
  · exact ⟨.of_same rfl rfl rfl, .of_same rfl rfl rfl⟩
  · exact ⟨.of_same rfl rfl rfl, .of_same rfl rfl rfl⟩

end Sys2Proof.Machine
end

section
/-! PROOFS. The sources that the Cassette Bank hands (R54 to R57, R143), and the Tag Link with the images it writes (R38, R40, R192). -/

namespace Sys2Proof.Machine

variable {s t : State}

/-! ### The sources of the alarm table -/

section Owned
variable {α : Type}

@[simp] theorem PerOwned_get_set_self (m : PerOwned α) (o : Owned) (x : α) : (m.set o x).get o = x := by
  cases o with
  | laneTamper l => exact PerLane_get_set_self m.laneTamper l x
  | lineFault l => exact PerLane_get_set_self m.lineFault l x
  | cassetteTamper p => exact PerPos_get_set_self m.cassetteTamper p x
  | rejectFull => rfl
  | intakeFull => rfl

theorem PerOwned_get_set_of_ne (m : PerOwned α) {o k : Owned} (x : α) (h : k ≠ o) : (m.set o x).get k = m.get k := by
  cases o <;> cases k
  case laneTamper.laneTamper l j => exact PerLane_get_set_of_ne m.laneTamper x fun e => h (by rw [e])
  case lineFault.lineFault l j => exact PerLane_get_set_of_ne m.lineFault x fun e => h (by rw [e])
  case cassetteTamper.cassetteTamper p q => exact PerPos_get_set_of_ne m.cassetteTamper x fun e => h (by rw [e])
  case rejectFull.rejectFull | intakeFull.intakeFull => exact absurd rfl h
  all_goals rfl

end Owned

/-- The entry of LOCKDOWN touches no alarm. -/
theorem State.onLockdown_alarms (s : State) : s.onLockdown.alarms = s.alarms := by
  unfold State.onLockdown
  rw [State.recallWaitingNote_frame, State.pauseWaitingPick_frame, State.askCloseAll_frame]

/-- The alarms after the table is changed: the records, and the modes formed anew (R152 to R154). -/
theorem State.setRecords_alarms (s : State) (records : List AlarmRecord) (takes : Bool) :
    (s.setRecords records takes).alarms =
      { s.alarms with records := records, hold := records.any fun r => r.classes.hold,
                      duress := records.any fun r => r.classes.duress, lockdown := s.alarms.lockdown || takes } := by
  have placed (a : Alarms) (c : Bool) : (State.placeIf { s with alarms := a } c .alarm).alarms = a := by
    unfold State.placeIf
    split <;> rfl
  unfold State.setRecords
  dsimp only
  split
  · rw [State.onLockdown_alarms, State.alarms_marked, placed]
  · rw [State.alarms_marked, placed]

theorem State.sourceUp_sources (s : State) (src : AlarmSource) (current : AlarmClass) (pattern : Option Nat) :
    (s.sourceUp src current pattern).alarms.sources = s.alarms.sources := by
  unfold State.sourceUp
  split
  · rfl
  · rw [State.setRecords_alarms]

theorem State.sourceDown_sources (s : State) (src : AlarmSource) : (s.sourceDown src).alarms.sources = s.alarms.sources := by
  unfold State.sourceDown
  split
  · rfl
  · split
    · rw [State.setRecords_alarms]
    · rw [State.setRecords_alarms]
    · rfl

/-- A source handed takes the activity handed (R143). -/
theorem State.hand_active (s : State) (o : Owned) (active : Bool) :
    ((s.hand o active).alarms.sources.get o).active = active := by
  unfold State.hand
  split
  · assumption
  · dsimp only
    split
    · rw [State.sourceUp_sources, PerOwned_get_set_self]
    · rw [State.sourceDown_sources, PerOwned_get_set_self]

/-- It leaves every other source. -/
theorem State.hand_source_of_ne (s : State) {o k : Owned} (active : Bool) (h : k ≠ o) :
    (s.hand o active).alarms.sources.get k = s.alarms.sources.get k := by
  unfold State.hand
  split
  · rfl
  · dsimp only
    split
    · rw [State.sourceUp_sources, PerOwned_get_set_of_ne _ _ h]
    · rw [State.sourceDown_sources, PerOwned_get_set_of_ne _ _ h]

/-- The vault full sources stand as the vaults do (R56, R57). -/
theorem State.handVaults_active (s : State) :
    s.handVaults.alarms.sources.rejectFull.active = s.rejectVault.full
      ∧ s.handVaults.alarms.sources.intakeFull.active = s.intakeVault.full := by
  constructor
  · exact (congrArg SourceState.active (State.hand_source_of_ne _ _ (by decide))).trans (s.hand_active .rejectFull _)
  · exact State.hand_active _ .intakeFull _

theorem RejectVault.full_iff {v : RejectVault} :
    v.full = true ↔ 600 ≤ min 999 (v.pickRejects + v.retracted + v.sweep) ∨ v.present = false := by
  unfold RejectVault.full RejectVault.count
  rw [Bool.or_eq_true_iff, decide_eq_true_iff, Bool.not_eq_true']
  rfl

theorem IntakeVault.full_iff {v : IntakeVault} : v.full = true ↔ 2500 ≤ v.entries.toList.sum ∨ v.present = false := by
  unfold IntakeVault.full IntakeVault.total
  rw [Bool.or_eq_true_iff, decide_eq_true_iff, Bool.not_eq_true']
  rfl

/-! ### The Tag Link (R38) -/

/-- The transfers of the Tag Link in their order: the one on the line, then those that wait. -/
def State.transfers (s : State) : List Transfer := (s.tagLink.inFlight.map InFlight.transfer).toList ++ s.tagLink.queue

theorem State.mem_transfersOf {p : Pos} {x : Transfer} : x ∈ s.transfersOf p ↔ x ∈ s.transfers ∧ x.position = p := by
  simp only [State.transfersOf, State.transfers, List.mem_filter, List.mem_append, decide_eq_true_iff, or_comm]

/-- The line taken changes the order of no transfer. -/
theorem State.pumpTags_transfers (s : State) : s.pumpTags.transfers = s.transfers := by
  unfold State.pumpTags State.transfers
  split
  · rename_i hf hq
    rw [hf, hq]
    rfl
  · rfl

/-- The transfer that takes a free line is the oldest that waits. -/
theorem State.pumpTags_free (h : s.tagLink.inFlight = none) :
    s.pumpTags.tagLink.queue = s.tagLink.queue.tail
      ∧ s.pumpTags.tagLink.inFlight.map InFlight.transfer = s.tagLink.queue.head? := by
  unfold State.pumpTags
  rw [h]
  cases hq : s.tagLink.queue with
  | nil => exact ⟨hq, by simp only [h]; rfl⟩
  | cons x rest => exact ⟨rfl, rfl⟩

theorem State.pumpTags_busy {f : InFlight} (h : s.tagLink.inFlight = some f) : s.pumpTags = s := by
  unfold State.pumpTags
  rw [h]

/-- A write that takes a free line has the image of its position with its own bytes changed (R40). -/
theorem State.pumpTags_image {x : Transfer} {rest : List Transfer} {k : Identity} (h : s.tagLink.inFlight = none)
    (hq : s.tagLink.queue = x :: rest) (hk : (s.slot x.position).identity = some k) :
    s.pumpTags.tagLink.inFlight = some ⟨x, writeImage x.kind (s.slot x.position).count k.image⟩ := by
  unfold State.pumpTags
  rw [h, hq]
  simp only [hk]

/-- A transfer that joins none goes behind the others. -/
theorem State.askTag_transfers {kind : TransferKind} {p : Pos} (h : ∀ y ∈ s.transfers, Transfer.joins ⟨kind, p⟩ y = false) :
    s.askTag kind p = State.pumpTags { s with tagLink := { s.tagLink with queue := s.tagLink.queue ++ [⟨kind, p⟩] } }
      ∧ (s.askTag kind p).transfers = s.transfers ++ [⟨kind, p⟩] := by
  have free : (s.tagLink.queue.any (Transfer.joins ⟨kind, p⟩)
      || s.tagLink.inFlight.any fun f => Transfer.joins ⟨kind, p⟩ f.transfer) = false := by
    rw [Bool.or_eq_false_iff, List.any_eq_false]
    refine ⟨fun y hy => ?_, ?_⟩
    · rw [h y (List.mem_append_right _ hy)]
      exact Bool.false_ne_true
    · cases hf : s.tagLink.inFlight with
      | none => rfl
      | some f => exact h _ (List.mem_append_left _ (by rw [hf]; exact List.mem_singleton.2 rfl))
  have asked : s.askTag kind p
      = State.pumpTags { s with tagLink := { s.tagLink with queue := s.tagLink.queue ++ [⟨kind, p⟩] } } := by
    unfold State.askTag
    dsimp only
    rw [free]
    rfl
  refine ⟨asked, ?_⟩
  rw [asked, State.pumpTags_transfers]
  exact (List.append_assoc _ _ _).symm

/-- What is asked of the Tag Link stands in it, its own or the one it joins. -/
theorem State.askTag_mem (s : State) (kind : TransferKind) (p : Pos) :
    (∃ y ∈ (s.askTag kind p).transfers, Transfer.joins ⟨kind, p⟩ y = true)
      ∨ (⟨kind, p⟩ : Transfer) ∈ (s.askTag kind p).transfers := by
  by_cases h : ∀ y ∈ s.transfers, Transfer.joins ⟨kind, p⟩ y = false
  · right
    rw [(State.askTag_transfers h).2]
    exact List.mem_append_right _ (List.mem_singleton.2 rfl)
  · left
    push Not at h
    obtain ⟨y, hy, hj⟩ := h
    have joined : Transfer.joins ⟨kind, p⟩ y = true := by simpa using hj
    have same : s.askTag kind p = s := by
      unfold State.askTag
      dsimp only
      refine if_pos (Bool.or_eq_true_iff.2 ?_)
      rcases List.mem_append.1 hy with hf | hq
      · obtain ⟨f, hf', rfl⟩ := Option.map_eq_some_iff.1 (Option.mem_toList.1 hf)
        exact .inr (by rw [hf']; exact joined)
      · exact .inl (List.any_eq_true.2 ⟨y, hq, joined⟩)
    exact ⟨y, by rw [same]; exact hy, joined⟩

/-- A removal cuts every transfer of its position (R38). -/
theorem State.cutTags_transfersOf (s : State) (p : Pos) : (s.cutTags p).transfersOf p = [] := by
  refine List.eq_nil_iff_forall_not_mem.2 fun x hx => ?_
  obtain ⟨hx, hp⟩ := State.mem_transfersOf.1 hx
  have cut := State.pumpTags_transfers { s with tagLink :=
      { queue := s.tagLink.queue.filter fun x => decide (x.position ≠ p),
        inFlight := s.tagLink.inFlight.filter fun f => decide (f.transfer.position ≠ p) } }
  rw [show (s.cutTags p).transfers = _ from cut] at hx
  rcases List.mem_append.1 hx with hf | hq
  · obtain ⟨f, hf', rfl⟩ := Option.map_eq_some_iff.1 (Option.mem_toList.1 hf)
    exact of_decide_eq_true (Option.filter_eq_some_iff.1 hf').2 hp
  · exact of_decide_eq_true (List.mem_filter.1 hq).2 hp

theorem State.cutTags_frame (s : State) (p : Pos) : s.cutTags p = { s with tagLink := (s.cutTags p).tagLink } := by
  unfold State.cutTags
  rw [State.pumpTags_frame]

theorem State.endTransfer_frame (s : State) : s.endTransfer = { s with tagLink := s.endTransfer.tagLink } := by
  unfold State.endTransfer
  rw [State.pumpTags_frame]

/-! ### The images written (R40, R192) -/

theorem byteSum_append (xs ys : List Byte) : byteSum (xs ++ ys) = byteSum xs + byteSum ys := by
  have start (b : Byte) (zs : List Byte) : zs.foldl (· + ·) b = b + zs.foldl (· + ·) 0 := by
    induction zs generalizing b with
    | nil => simp
    | cons z zs ih => rw [List.foldl_cons, List.foldl_cons, ih, ih (0 + z), zero_add, add_assoc]
  unfold byteSum
  rw [List.foldl_append, start]

/-- The checksum byte makes the sum 0 (R39, R192). -/
theorem byteSum_withChecksum {image : List Byte} (h : image.length = 64) : byteSum (withChecksum image) = 0 := by
  have split : withChecksum image = image.take 63 ++ [0 - byteSum (image.take 63)] := by
    have cut : image = image.take 63 ++ image.drop 63 := (List.take_append_drop 63 image).symm
    have len : (image.take 63).length = 63 := by rw [List.length_take, h]; rfl
    obtain ⟨b, hb⟩ := List.length_eq_one_iff.1 (show (image.drop 63).length = 1 by rw [List.length_drop, h])
    unfold withChecksum
    conv_lhs => rw [cut, hb]
    rw [List.set_append, if_neg (by rw [len]; decide), len]
    simp [len]
  rw [split, byteSum_append]
  simp [byteSum]

theorem length_withChecksum (image : List Byte) : (withChecksum image).length = image.length := List.length_set

/-- The checksum changes the last byte alone. -/
theorem getElem?_withChecksum {image : List Byte} {a : Nat} (h : a < 63) : (withChecksum image)[a]? = image[a]? :=
  List.getElem?_set_ne (by omega)

theorem getElem?_set_of_lt {image : List Byte} (i a : Nat) (b : Byte) (hi : i < image.length) :
    (image.set i b)[a]? = if a = i then some b else image[a]? := by
  by_cases h : a = i
  · subst h; rw [if_pos rfl, List.getElem?_set_self hi]
  · rw [if_neg h, List.getElem?_set_ne (Ne.symm h)]

/-- The image a write forms is that of R192: the sum is 0, and only the bytes of its kind are changed. -/
theorem writesTag_writeImage (kind : TransferKind) (count : Nat) (image : List Byte) :
    writesTag kind count image (writeImage kind count image) := by
  intro hl hk
  cases kind with
  | identityRead => exact absurd rfl hk
  | markWrite =>
    refine ⟨?_, byteSum_withChecksum ?_, fun _ a ha => ?_, nofun⟩
    · simp only [writeImage, length_withChecksum, List.length_set, hl]
    · simp only [List.length_set, hl]
    · rw [writeImage, getElem?_withChecksum ha, getElem?_set_of_lt _ _ _ (by omega)]
  | countWriteBack number =>
    refine ⟨?_, byteSum_withChecksum ?_, nofun, fun m hm a ha => ?_⟩
    · simp only [writeImage, length_withChecksum, setPair, List.length_set, hl]
    · simp only [setPair, List.length_set, hl]
    · cases hm
      simp only [writeImage, getElem?_withChecksum ha, setPair]
      rw [getElem?_set_of_lt _ _ _ (by simp [hl]), getElem?_set_of_lt _ _ _ (by simp [hl]),
        getElem?_set_of_lt _ _ _ (by simp [hl]), getElem?_set_of_lt _ _ _ (by simp [hl]), getElem?_set_of_lt _ _ _ (by simp [hl])]
      grind

end Sys2Proof.Machine
end

section
/-! PROOFS. The note that waits for the D gate while an alarm source is handed (R115, R153): it stays as it is, or LOCKDOWN is
entered and the note goes to the tray. -/

namespace Sys2Proof.Machine

variable {s t u : State}

/-- The note in escrow, its store claim and the head's commands as they were. -/
def State.SameNote (s t : State) : Prop :=
  t.gate.waitDeposit = s.gate.waitDeposit ∧ t.intakeRec = s.intakeRec ∧ t.headSent = s.headSent

theorem State.SameNote.trans (h : s.SameNote t) (k : t.SameNote u) : s.SameNote u :=
  ⟨k.1.trans h.1, k.2.1.trans h.2.1, k.2.2.trans h.2.2⟩

/-- A change that an alarm source brings, with what it makes of a note that waits for the gate. -/
structure State.Recalls (s t : State) : Prop where
  spares : s.Spares t
  note : s.SameNote t ∨ t.alarms.lockdown = true ∧ s.redecidesWaiting t true

namespace State.Recalls

theorem of_same (h : s.Spares t) (hn : s.SameNote t) : s.Recalls t := ⟨h, .inl hn⟩

theorem refl : s.Recalls s := .of_same .refl ⟨rfl, rfl, rfl⟩

theorem trans (h : s.Recalls t) (k : t.Recalls u) : s.Recalls u := by
  refine ⟨h.spares.trans k.spares, ?_⟩
  rcases h.note with same | ⟨locked, sent⟩
  · rcases k.note with same' | ⟨locked, sent⟩
    · exact .inl (same.trans same')
    · obtain ⟨waits, record, head⟩ := same
      have vault : t.intakeVault = s.intakeVault := by rw [h.spares.same]
      have view : t.noteView = s.noteView := by
        unfold State.noteView
        rw [waits, record, head, vault]
      exact .inr ⟨locked, State.redecidesWaiting_of_same sent view h.spares.marks.intake⟩
  · exact .inr ⟨k.spares.lockdown locked, sent.spared k.spares.sparesNote⟩

end State.Recalls

/-- A note in WAITING_GATE as the wall pauses goes to the tray (R112, R115). -/
theorem State.recallWaitingNote_redecides {b : Bool} (hp : s.pausing = true) (hw : s.intakeRec.state = .waitingGate)
    (hb : b = true) : s.redecidesWaiting s.recallWaitingNote b := by
  intro c v n k _ escrow _ _
  have decided := State.decideNote_of_pausing (s := { s with gate := { s.gate with waitDeposit := false } }) hp ⟨some c, some v⟩
  unfold State.recallWaitingNote
  rw [if_pos hw, escrow]
  simp only [decided, hb, true_or, if_true]
  exact ⟨rfl, rfl, by rw [← escrow]; rfl⟩

theorem State.recallWaitingNote_note (hp : s.pausing = true) :
    s.SameNote s.recallWaitingNote ∨ s.redecidesWaiting s.recallWaitingNote true := by
  by_cases hw : s.intakeRec.state = .waitingGate
  · exact .inr (State.recallWaitingNote_redecides hp hw rfl)
  · unfold State.recallWaitingNote
    rw [if_neg hw]
    exact .inl ⟨rfl, rfl, rfl⟩

/-- The entry of LOCKDOWN recalls a note that waits (R153). -/
theorem State.recalls_onLockdown (h : s.alarms.lockdown = true) : s.Recalls s.onLockdown := by
  let v := (Lane.all.foldl State.askClose s).pauseWaitingPick
  have frame : v = { s with presentations := v.presentations, gate := { s.gate with waitPicker := v.gate.waitPicker },
                            picker := v.picker } := by
    simp only [v]
    unfold State.pauseWaitingPick
    rw [State.askCloseAll_frame]
    split <;> rfl
  have calm : s.Recalls v := by
    refine .of_same ?_ (by rw [frame]; exact ⟨rfl, rfl, rfl⟩)
    have closed : s.Spares (Lane.all.foldl State.askClose s) := by
      rw [State.askCloseAll_frame]
      exact .of_calm rfl (.of_eq rfl) id
    exact closed.trans (State.spares_pauseWaitingPick _)
  have locked : v.alarms.lockdown = true := calm.spares.lockdown h
  have pausing : v.pausing = true := State.pausing_iff.2 (.inl locked)
  have recalled := State.spares_recallWaitingNote pausing
  exact calm.trans ⟨recalled, (State.recallWaitingNote_note pausing).imp id fun sent => ⟨recalled.lockdown locked, sent⟩⟩

/-- With LOCKDOWN as it was a source handed leaves every other block. -/
theorem State.Handed.recalls (h : s.Handed t) (hl : t.alarms.lockdown = s.alarms.lockdown) : s.Recalls t :=
  .of_same h.spares (by rw [h.calm hl]; exact ⟨rfl, rfl, rfl⟩)

theorem State.recalls_setRecords (s : State) (records : List AlarmRecord) (takes : Bool) :
    s.Recalls (s.setRecords records takes) := by
  have handed := s.handed_setRecords records takes
  by_cases entered : (s.alarms.lockdown || takes) = true ∧ ¬ s.alarms.lockdown = true
  · have marked (u : State) (hu : u = { s with alarms := u.alarms, reasons := u.reasons })
        (hl : u.alarms.lockdown = true) (c : Prop) [Decidable c] (who : Teller → Bool) :
        s.Recalls (if c then u.markTicketsOf who else u).onLockdown := by
      have calm : s.Handed (if c then u.markTicketsOf who else u) := State.handed_marked hu c who fun _ => hl
      have same : s.SameNote (if c then u.markTicketsOf who else u) := by
        split
        · rw [State.markTicketsOf_frame, hu]
          exact ⟨rfl, rfl, rfl⟩
        · rw [hu]
          exact ⟨rfl, rfl, rfl⟩
      exact (Recalls.of_same calm.spares same).trans
        (State.recalls_onLockdown (by rw [State.alarms_marked]; exact hl))
    unfold State.setRecords
    dsimp only
    rw [if_pos entered]
    refine marked _ ?_ ?_ _ _
    · unfold State.placeIf
      split <;> rfl
    · unfold State.placeIf
      split <;> exact entered.1
  · refine handed.recalls ?_
    rw [State.setRecords_alarms]
    cases hl : s.alarms.lockdown <;> simp_all

theorem State.recalls_sourceUp (s : State) (src : AlarmSource) (current : AlarmClass) (pattern : Option Nat) :
    s.Recalls (s.sourceUp src current pattern) := by
  unfold State.sourceUp
  split
  · exact .refl
  · exact s.recalls_setRecords _ _

theorem State.recalls_sourceDown (s : State) (src : AlarmSource) : s.Recalls (s.sourceDown src) := by
  unfold State.sourceDown
  split
  · exact .refl
  · split
    · exact s.recalls_setRecords _ _
    · exact s.recalls_setRecords _ _
    · exact .refl

theorem State.recalls_hand (s : State) (o : Owned) (active : Bool) : s.Recalls (s.hand o active) := by
  have sources (a : Alarms) (ha : a.lockdown = s.alarms.lockdown) : s.Recalls { s with alarms := a } :=
    .of_same (.of_calm rfl (.of_eq rfl) fun h => ha.trans h) ⟨rfl, rfl, rfl⟩
  unfold State.hand
  split
  · exact .refl
  · dsimp only
    split
    · refine (sources _ ?_).trans (State.recalls_sourceUp _ _ _ _)
      rfl
    · refine (sources _ ?_).trans (State.recalls_sourceDown _ _)
      rfl

theorem State.recalls_handVaults (s : State) : s.Recalls s.handVaults :=
  (s.recalls_hand .rejectFull s.rejectVault.full).trans (State.recalls_hand _ _ _)

/-- A change of the pick claim alone leaves a note with no claim. -/
theorem State.PicksOnly.sparesNote (h : s.PicksOnly t) : s.SparesNote t :=
  .of_same (by rw [h.same]) (by rw [h.same]) h.waitDeposit

theorem State.recheckGate_sparesNote : s.SparesNote s.recheckGate := fun hi hw => by
  rw [State.recheckGate_noStore hw]
  exact State.picksOnly_recheckPick.sparesNote hi hw

/-- A source handed before the waiting claims are checked: with D fit for no store the note is sent on, to the tray when the wall
pauses by then (R60, R153). -/
theorem State.Recalls.redecides (h : s.Recalls t) (hs : t.storeFit = false) : s.redecidesWaiting t.recheckGate t.pausing := by
  rcases h.note with ⟨waits, record, head⟩ | ⟨locked, sent⟩
  · have vault : t.intakeVault = s.intakeVault := by rw [h.spares.same]
    have view : t.noteView = s.noteView := by
      unfold State.noteView
      rw [waits, record, head, vault]
    exact State.redecidesWaiting_of_same (State.recheckGate_redecides hs) view h.spares.marks.intake
  · rw [State.pausing_iff.2 (.inl locked)]
    exact sent.spared State.recheckGate_sparesNote

end Sys2Proof.Machine
end

section
/-! PROOFS. What the Cassette Bank's events and requests leave: identification (R39, R42), insertion and removal (R36, R41, R53), and
REINSTATE (R50). -/

namespace Sys2Proof.Machine

variable {s t : State} {p : Pos}

/-! ### Slots written back and formed -/

theorem State.putSlot_slot (s : State) (p : Pos) (x : Slot) : (s.putSlot p x).slot p = x := PerPos_get_set_self _ _ _

theorem State.putSlot_slot_of_ne (s : State) {q : Pos} (x : Slot) (h : q ≠ p) : (s.putSlot p x).slot q = s.slot q :=
  PerPos_get_set_of_ne _ _ h

/-- A slot written back with a change that R35 names places POSITION. -/
theorem State.putSlot_places {x : Slot} (h : (s.slot p).attended ≠ x.attended) : (s.putSlot p x).reasons.position = true := by
  have hp : (s.putSlot p x).reasons = s.reasons.add .position := if_neg h
  rw [hp]
  rfl

/-- A change of the marks of tickets changes no committed notes (R17). -/
theorem State.MarksOnly.committedAt (h : s.MarksOnly t) (p : Pos) : t.committedAt p = s.committedAt p := by
  obtain ⟨f, hf, ht⟩ := h
  have same : Ticket.committedAt p ∘ f = Ticket.committedAt p := funext fun x => by
    simp only [Function.comp, Ticket.committedAt, (hf x).2.2]
  unfold State.committedAt
  rw [ht, List.map_map, same]

theorem State.reform_committedAt (s : State) (p : Pos) : s.reform.committedAt p = s.committedAt p := by
  unfold State.committedAt
  rw [State.reform_tickets]

/-! ### POSITION REINSTATE (R50) -/

theorem PosState.reinstates_iff (x : PosState) :
    x.reinstates = true ↔ ¬ (x = .absent ∨ x = .identifying ∨ x = .refused ∨ x = .releasePending) := by
  cases x <;> decide

/-- Settles O24. -/
theorem reinstateReturnsToService : Obligations.ReinstateReturnsToService := by
  intro position s h
  refine (State.answer_respond h _).trans ?_
  rw [State.respond_named]
  cases Pos.ofNat? position with
  | none => rfl
  | some p =>
    simp only [Option.elim_some, State.respond_need, PosState.reinstates_iff, ite_not]
    split
    · rfl
    · have reviewed : ((!(s.slot p).uncertain || (s.slot p).reviewed) = true) ↔ ¬ ((s.slot p).uncertain ∧ ¬ (s.slot p).reviewed) := by
        cases (s.slot p).uncertain <;> simp
      simp only [reviewed, ite_not]
      rfl

/-! ### Identity reads (R39, R42) -/

theorem State.judgeCassette_frame (s : State) (p : Pos) (k : Identity) : (s.judgeCassette p k).tagLink = s.tagLink := by
  unfold State.judgeCassette
  split
  · rfl
  · rw [(State.handed_hand _ _ _).spares.same]
    rfl

/-- The reason of R42's first check that fails, as its steps list them. -/
theorem State.judgeIdentity_rows (s : State) (k : Identity) :
    s.judgeIdentity k =
      if ¬ s.denominationFits k then some .denomination
      else if k.capacity < 100 ∨ 3000 < k.capacity ∨ k.capacity < tagBalance k.image then some .capacity
      else if k.thickness < 50 ∨ 250 < k.thickness ∨ k.length < 100 ∨ 200 < k.length then some .gaugeReference
      else none := by
  have capacity : (¬ (100 ≤ k.capacity ∧ k.capacity ≤ 3000 ∧ tagBalance k.image ≤ k.capacity)) ↔
      (k.capacity < 100 ∨ 3000 < k.capacity ∨ k.capacity < tagBalance k.image) := by omega
  have gauge : (¬ (50 ≤ k.thickness ∧ k.thickness ≤ 250 ∧ 100 ≤ k.length ∧ k.length ≤ 200)) ↔
      (k.thickness < 50 ∨ 250 < k.thickness ∨ k.length < 100 ∨ 200 < k.length) := by omega
  simp only [State.judgeIdentity, capacity, gauge]

/-- A cassette judged: refused with the reason, or accepted, and its tamper source inactive (R42, R54). -/
theorem State.judgeCassette_refused {k : Identity} {why : RefusedReason} (h : s.judgeIdentity k = some why) :
    s.judgeCassette p k = s.putSlot p (Slot.refusedAs why (some k) (s.slot p).committed) := by
  unfold State.judgeCassette
  rw [h]

theorem State.judgeCassette_accepted {k : Identity} (h : s.judgeIdentity k = none) :
    s.judgeCassette p k =
      (s.putSlot p (Slot.accepted k (s.params.lowLevels.get p) (s.slot p).committed)).hand (.cassetteTamper p) false := by
  unfold State.judgeCassette
  rw [h]

/-- Settles O22. -/
theorem identityReadJudgesTheCassette : Obligations.IdentityReadJudgesTheCassette := by
  intro p tries image s hf ho
  have run : exec (.identityReadEnd tries) s = .next (s.endRead p tries).reform := by
    change execIdentityReadEnd tries s = _
    unfold execIdentityReadEnd
    rw [hf]
  have line (u : State) (hu : u.tagLink = s.tagLink) :
      u.endTransfer.tagLink.queue = s.tagLink.queue.tail
        ∧ u.endTransfer.tagLink.inFlight.map InFlight.transfer = s.tagLink.queue.head? := by
    rw [← hu]
    exact State.pumpTags_free (s := { u with tagLink := { u.tagLink with inFlight := none } }) rfl
  have slot (u : State) : u.endTransfer.reform.slot p = { u.slot p with committed := u.committedAt p } := by
    rw [State.reform_slot, State.endTransfer_frame]
    rfl
  have committed (u : State) : u.endTransfer.reform.committedAt p = u.committedAt p := by
    rw [State.reform_committedAt, State.endTransfer_frame]
    rfl
  rw [run]
  refine ⟨_, rfl, ?_⟩
  unfold State.endRead
  cases hr : readOutcome tries with
  | unfinished => exact absurd hr ho
  | failed why =>
    obtain ⟨queue, flight⟩ := line (s.putSlot p (Slot.refusedAs why none (s.slot p).committed)) rfl
    refine ⟨queue, flight, fun w hw => ?_, nofun⟩
    cases hw
    rw [slot, State.putSlot_slot]
    rfl
  | good bytes =>
    obtain ⟨queue, flight⟩ := line _ (s.judgeCassette_frame p (Identity.ofTag bytes))
    refine ⟨queue, flight, nofun, fun b hb => ?_⟩
    cases hb
    intro k listed fault
    have judged : s.judgeIdentity k = fault := s.judgeIdentity_rows k
    refine ⟨fun why hw => ?_, fun hn => ?_⟩
    · simp only
      rw [slot, State.judgeCassette_refused (judged.trans hw), State.putSlot_slot]
      rfl
    · simp only
      rw [State.judgeCassette_accepted (judged.trans hn)]
      constructor
      · rw [State.reform_alarms, State.endTransfer_frame]
        exact State.hand_active _ (.cassetteTamper p) false
      · rw [slot]
        have kept : ((s.putSlot p (Slot.accepted k (s.params.lowLevels.get p) (s.slot p).committed)).hand
            (.cassetteTamper p) false).slot p = Slot.accepted k (s.params.lowLevels.get p) (s.slot p).committed := by
          unfold State.slot
          rw [(State.handed_hand _ _ _).spares.same]
          exact State.putSlot_slot _ _ _
        rw [kept, committed]
        rfl

end Sys2Proof.Machine
end

section
/-! PROOFS. The cassette put in and drawn out (R36, R38, R41, R53): what each leaves in the slot, the retiring copy and the Tag
Link, and the answer to a claim that waits for D (R60). -/

namespace Sys2Proof.Machine

variable {s t : State} {p q : Pos}

/-! ### An insertion (R41) -/

/-- An identity read asked of an empty line is taken at once, with no image to write. -/
theorem State.askTag_idle {kind : TransferKind} (hf : s.tagLink.inFlight = none) (hq : s.tagLink.queue = [])
    (hi : (s.slot p).identity = none) : (s.askTag kind p).tagLink = { queue := [], inFlight := some ⟨⟨kind, p⟩, []⟩ } := by
  unfold State.askTag State.pumpTags
  simp only [hf, hq]
  change TagLink.mk _ (some ⟨_, match (s.slot p).identity with | some k => _ | none => _⟩) = _
  rw [hi]

/-- With a transfer on the line what is asked waits behind the others. -/
theorem State.askTag_busy {kind : TransferKind} (hf : s.tagLink.inFlight ≠ none)
    (h : ∀ y ∈ s.transfers, Transfer.joins ⟨kind, p⟩ y = false) :
    (s.askTag kind p).tagLink = { s.tagLink with queue := s.tagLink.queue ++ [⟨kind, p⟩] } := by
  obtain ⟨f, hf⟩ := Option.ne_none_iff_exists'.1 hf
  have busy := State.pumpTags_busy (s := { s with tagLink := { s.tagLink with queue := s.tagLink.queue ++ [⟨kind, p⟩] } }) hf
  rw [(State.askTag_transfers h).1, busy]

/-- A position with no transfers has none to join. -/
theorem State.joins_none (kind : TransferKind) (h : s.transfersOf p = []) {y : Transfer} (hy : y ∈ s.transfers) :
    Transfer.joins ⟨kind, p⟩ y = false := by
  have other : ¬ (p = y.position) := fun e => by
    have := State.mem_transfersOf.2 ⟨hy, e.symm⟩
    rw [h] at this
    cases this
  unfold Transfer.joins
  rw [decide_eq_false other, Bool.false_and]

theorem State.insertCassette_frame (s : State) (p : Pos) :
    s.insertCassette p =
      { s.putSlot p { Slot.empty with state := .identifying, committed := (s.slot p).committed } with
        tagLink := (s.insertCassette p).tagLink } := by
  unfold State.insertCassette
  rw [State.askTag_frame]

/-! ### A removal (R53) -/

/-- A cassette with counts leaves a copy, and the movements in flight follow it; another leaves none (R44, R53). -/
theorem State.retired_of_live (h : (s.slot p).state.live = true) :
    s.retired p = (s.retire p (if (s.slot p).state = .unlocked then .released else .unreleased)
      ((s.transfersOf p).any fun x => decide (x.kind ≠ .identityRead))).followRemoval p := by
  unfold State.retired
  cases hx : (s.slot p).state
  case absent | identifying | refused => rw [hx] at h; cases h
  all_goals rfl

theorem State.retired_of_not_live (h : (s.slot p).state.live = false) : s.retired p = s := by
  unfold State.retired
  cases hx : (s.slot p).state
  case absent | identifying | refused => rfl
  all_goals rw [hx] at h; cases h

theorem State.followRemoval_frame (s : State) (p : Pos) :
    s.followRemoval p = { s with picker := { s.picker with fedFrom := (s.followRemoval p).picker.fedFrom },
                                 intakeRec := { s.intakeRec with storedTo := (s.followRemoval p).intakeRec.storedTo } } := by
  unfold State.followRemoval
  dsimp only
  split_ifs <;> rfl

theorem State.retire_carries (s : State) (p : Pos) (kind : RemovalKind) (stale : Bool) :
    (s.retire p kind stale).carries.get p =
      (match s.retiring.get p with
       | some old => (s.carries.get p).add old
       | none => s.carries.get p) := by
  unfold State.retire
  cases h : s.retiring.get p <;> simp only [PerPos_get_set_self]

theorem State.retired_frame (s : State) (p : Pos) :
    s.retired p = { s with retiring := (s.retired p).retiring, carries := (s.retired p).carries,
                           picker := { s.picker with fedFrom := (s.retired p).picker.fedFrom },
                           intakeRec := { s.intakeRec with storedTo := (s.retired p).intakeRec.storedTo } } := by
  cases h : (s.slot p).state.live
  · rw [State.retired_of_not_live h]
  · rw [State.retired_of_live h, State.followRemoval_frame]
    rfl

/-- The copy and the carry that a removal leaves (R53). -/
theorem State.retired_copy (s : State) (p : Pos) :
    (s.retired p).retiring.get p =
        (if (s.slot p).state.live then
          some { slot := { s.slot p with
                  tagStale := (s.slot p).tagStale || (s.transfersOf p).any fun x => decide (x.kind ≠ .identityRead) },
                 kind := if (s.slot p).state = .unlocked then .released else .unreleased,
                 number := s.countPoint.number, taken := false }
         else s.retiring.get p)
      ∧ (s.retired p).carries.get p =
        (match (s.slot p).state.live, s.retiring.get p with
         | true, some old => (s.carries.get p).add old
         | _, _ => s.carries.get p) := by
  cases h : (s.slot p).state.live
  · rw [State.retired_of_not_live h]
    exact ⟨rfl, rfl⟩
  · rw [State.retired_of_live h, State.followRemoval_frame]
    refine ⟨PerPos_get_set_self _ _ _, Eq.trans (b := match s.retiring.get p with | some old => _ | none => _)
      (s.retire_carries p (if (s.slot p).state = .unlocked then .released else .unreleased)
        ((s.transfersOf p).any fun x => decide (x.kind ≠ .identityRead))) ?_⟩
    cases s.retiring.get p <;> rfl

theorem State.drawnOut_frame (s : State) (p : Pos) :
    s.drawnOut p =
      { s.putSlot p { Slot.empty with committed := (s.slot p).committed } with
        retiring := (s.retired p).retiring, carries := (s.retired p).carries, tagLink := (s.drawnOut p).tagLink,
        picker := { s.picker with fedFrom := (s.retired p).picker.fedFrom },
        intakeRec := { s.intakeRec with storedTo := (s.retired p).intakeRec.storedTo },
        countPoint := { s.countPoint with release := s.countPoint.release.set p false,
                                          pendingRelease := s.countPoint.pendingRelease.set p false,
                                          written := s.countPoint.written.set p false } } := by
  unfold State.drawnOut
  dsimp only
  rw [State.cutTags_frame, State.retired_frame]
  rfl

/-- What follows the answer to a waiting claim: the tamper source of an unreleased removal (R53, R54). -/
theorem State.handed_remove (s : State) (p : Pos) : (s.drawnOut p).recheckGate.Handed (s.remove p) := by
  rw [State.remove_eq]
  split
  · exact State.handed_hand _ _ _
  · exact .refl

/-- What a removal leaves of the records that the answer to a claim and the tamper source do not touch. -/
theorem State.remove_frame (s : State) (p : Pos) :
    s.remove p = { s.drawnOut p with
      tickets := (s.remove p).tickets, changeSet := (s.remove p).changeSet, alarms := (s.remove p).alarms,
      reasons := (s.remove p).reasons, presentations := (s.remove p).presentations, picker := (s.remove p).picker,
      gate := (s.remove p).gate, intakeRec := (s.remove p).intakeRec, headSent := (s.remove p).headSent } := by
  rw [(s.handed_remove p).spares.same, State.recheckGate_frame]

/-- D drawn out is absent, so that a claim that waits for it is answered "not fit" (R60). -/
theorem State.drawnOut_slot (s : State) (p : Pos) :
    (s.drawnOut p).slot p = { Slot.empty with committed := (s.slot p).committed } := by
  rw [State.drawnOut_frame]
  exact State.putSlot_slot _ _ _

theorem State.drawnOut_slot_of_ne (s : State) (h : q ≠ p) : (s.drawnOut p).slot q = s.slot q := by
  rw [State.drawnOut_frame]
  exact State.putSlot_slot_of_ne _ _ h

theorem State.storeFit_of_state (h : (s.slot .d).state ≠ .inService) : s.storeFit = false := by
  unfold State.storeFit
  rw [decide_eq_false h]
  cases (s.slot .d).identity <;> rfl

theorem State.remove_halts (s : State) : s.haltsWaiting (s.remove .d) .removed := by
  have unfit : ((s.drawnOut .d).slot .d).pickUnfit = some .removed := by rw [State.drawnOut_slot]; rfl
  have frame := s.drawnOut_frame .d
  have answered := State.haltsWaiting_of_same (s := s) (State.recheckGate_halts unfit) (congrArg (·.gate.waitPicker) frame)
    (congrArg (·.picker.ticket) frame) (fun n => congrArg (·.dispense n) frame)
  exact answered.spared (s.handed_remove .d).spares.halt

theorem State.remove_redecides (s : State) : s.redecidesWaiting (s.remove .d) s.pausing := by
  have unfit : (s.drawnOut .d).storeFit = false := State.storeFit_of_state (by rw [State.drawnOut_slot]; exact nofun)
  have frame := s.drawnOut_frame .d
  have answered := State.redecidesWaiting_of_same (s := s) (State.recheckGate_redecides unfit)
    ((congrArg State.noteView frame).trans rfl) (fun n => congrArg (·.intake n) frame)
  have paused : (s.drawnOut .d).pausing = s.pausing := (congrArg State.pausing frame).trans rfl
  rw [paused] at answered
  exact answered.spared (s.handed_remove .d).spares.sparesNote

/-- Settles O21. -/
theorem insertionAndRemoval : Obligations.InsertionAndRemoval := by
  refine ⟨fun p s => ⟨fun h => ?_, fun h hq => ?_⟩, fun p s h hw => ?_⟩
  · change execCassetteInsertion p s = _
    unfold execCassetteInsertion
    rw [if_neg h]
  · have run : exec (.cassetteInsertion p) s = .next (s.insertCassette p).reform := by
      change execCassetteInsertion p s = _
      unfold execCassetteInsertion
      rw [if_pos h]
    let u := s.putSlot p { Slot.empty with state := .identifying, committed := (s.slot p).committed }
    have slot : u.slot p = _ := State.putSlot_slot _ _ _
    have formed (q : Pos) : (s.insertCassette p).reform.slot q = { u.slot q with committed := s.committedAt q } := by
      rw [State.reform_slot, State.insertCassette_frame]
      rfl
    refine ⟨_, run, ?_, ?_, fun hf he => ?_, fun hf => ?_, fun q hne => ?_, ?_⟩
    · rw [formed, slot]
    · rw [State.reform_reasons, State.insertCassette_frame]
      exact State.putSlot_places fun e => absurd (h.symm.trans (congrArg Prod.fst e)) nofun
    · exact State.askTag_idle (s := u) hf he (by rw [slot]; rfl)
    · exact State.askTag_busy (s := u) hf fun y => State.joins_none _ hq
    · rw [formed, State.putSlot_slot_of_ne _ _ hne]
    · rw [State.insertCassette_frame]
      rfl
  · have run : exec (.cassetteRemoval p) s = .next (s.remove p).reform := by
      change execCassetteRemoval p s = _
      unfold execCassetteRemoval
      rw [if_neg h, hw]
      rfl
    obtain ⟨copy, carry⟩ := s.retired_copy p
    have frame := (s.remove_frame p).trans (by rw [State.drawnOut_frame])
    have formed (q : Pos) : (s.remove p).reform.slot q =
        { (s.drawnOut p).slot q with committed := (s.remove p).reform.committedAt q } := by
      rw [State.reform_slot, State.reform_committedAt]
      exact congrArg (fun u : State => { u.slot q with committed := (s.remove p).committedAt q }) (s.remove_frame p)
    refine ⟨_, run, ?_, fun q hne => ?_, ?_, ?_, fun hl => ?_, ?_, ?_, ?_⟩
    · rw [formed, State.drawnOut_slot]
      rfl
    · rw [formed, State.drawnOut_slot_of_ne _ hne]
    · exact (congrArg (·.retiring.get p) frame).trans copy
    · exact (congrArg (·.carries.get p) frame).trans carry
    · have locked : (s.slot p).state.locked = true := by rcases hl with h | h | h <;> rw [h] <;> rfl
      rw [State.remove_eq, if_pos locked]
      exact State.hand_active _ (.cassetteTamper p) true
    · exact (congrArg (·.transfersOf p) (s.remove_frame p)).trans (State.cutTags_transfersOf _ _)
    · exact (congrArg (·.countPoint.release.get p) frame).trans (PerPos_get_set_self _ _ _)
    · rintro rfl
      exact ⟨s.remove_halts, s.remove_redecides⟩

end Sys2Proof.Machine
end

section
/-! PROOFS. The reset values (R37, R185, section 8.7): what the presence lines change of them. -/

namespace Sys2Proof.Machine

variable {s t : State} {p q : Pos}

/-- What a position seen at reset changes (R37, R41). -/
theorem State.seePosition_frame (s : State) (p : Pos) (b : Bool) :
    s.seePosition p b = { s with slots := (s.seePosition p b).slots, reasons := (s.seePosition p b).reasons,
                                 tagLink := (s.seePosition p b).tagLink } := by
  unfold State.seePosition
  cases b
  · rfl
  · rw [if_pos rfl, State.insertCassette_frame]
    rfl

theorem State.seePosition_state (s : State) (p : Pos) (b : Bool) :
    ((s.seePosition p b).slot p).state = if b then .identifying else (s.slot p).state := by
  unfold State.seePosition
  cases b
  · rfl
  · rw [if_pos rfl, State.insertCassette_frame]
    exact congrArg Slot.state (State.putSlot_slot s p _)

theorem State.seePosition_slot_of_ne (s : State) (b : Bool) (h : q ≠ p) : (s.seePosition p b).slot q = s.slot q := by
  unfold State.seePosition
  cases b
  · rfl
  · rw [if_pos rfl, State.insertCassette_frame]
    exact State.putSlot_slot_of_ne s _ h

/-- The reset values with the vault presence lines seen and the vault full sources handed (R56, R57). -/
def State.seesVaults (rejectPresent intakePresent : Bool) : State :=
  State.handVaults { State.reset with rejectVault := { RejectVault.reset with present := rejectPresent },
                                      intakeVault := { IntakeVault.reset with present := intakePresent } }

/-- The four presence lines of the cassettes seen. -/
def State.seePositions (s : State) (a b c d : Bool) : State :=
  (((s.seePosition .a a).seePosition .b b).seePosition .c c).seePosition .d d

theorem State.afterReset_eq (a b c d rejectPresent intakePresent : Bool) :
    State.afterReset a b c d rejectPresent intakePresent =
      ((State.seesVaults rejectPresent intakePresent).seePositions a b c d).reform := rfl

/-- The alarms of the reset, with a record for each vault that is out (R145). -/
theorem State.seesVaults_alarms (rejectPresent intakePresent : Bool) :
    let a := (State.seesVaults rejectPresent intakePresent).alarms
    a.lockdown = false ∧ a.hold = false ∧ a.duress = false ∧ a.samples = []
      ∧ a.sources.rejectFull.active = !rejectPresent ∧ a.sources.intakeFull.active = !intakePresent
      ∧ a.records =
        (if rejectPresent then [] else [⟨.owned .rejectFull, .raised, ⟨true, false, false, false⟩, .notice, 1, none⟩])
        ++ (if intakePresent then [] else [⟨.owned .intakeFull, .raised, ⟨true, false, false, false⟩, .notice, 1, none⟩]) := by
  cases rejectPresent <;> cases intakePresent <;> decide

/-- A vault that is out changes only the alarms and the reasons of the reset values. -/
theorem State.seesVaults_frame (rejectPresent intakePresent : Bool) :
    State.seesVaults rejectPresent intakePresent =
      { State.reset with rejectVault := { RejectVault.reset with present := rejectPresent },
                         intakeVault := { IntakeVault.reset with present := intakePresent },
                         alarms := (State.seesVaults rejectPresent intakePresent).alarms,
                         reasons := (State.seesVaults rejectPresent intakePresent).reasons } := by
  have handed := State.handed_handVaults
    { State.reset with rejectVault := { RejectVault.reset with present := rejectPresent },
                       intakeVault := { IntakeVault.reset with present := intakePresent } }
  obtain ⟨f, -, tickets⟩ := handed.spares.marks
  have calm := handed.calm (State.seesVaults_alarms rejectPresent intakePresent).1
  rw [tickets] at calm
  exact calm

theorem State.seePositions_frame (s : State) (a b c d : Bool) :
    s.seePositions a b c d =
      { s with slots := (s.seePositions a b c d).slots, reasons := (s.seePositions a b c d).reasons,
               tagLink := (s.seePositions a b c d).tagLink } := by
  unfold State.seePositions
  rw [State.seePosition_frame _ .d, State.seePosition_frame _ .c, State.seePosition_frame _ .b, State.seePosition_frame _ .a]

/-- A position with a cassette is IDENTIFYING; another is as it was (R37). -/
theorem State.seePositions_state (s : State) (a b c d : Bool) :
    ((s.seePositions a b c d).slot .a).state = (if a then .identifying else (s.slot .a).state)
      ∧ ((s.seePositions a b c d).slot .b).state = (if b then .identifying else (s.slot .b).state)
      ∧ ((s.seePositions a b c d).slot .c).state = (if c then .identifying else (s.slot .c).state)
      ∧ ((s.seePositions a b c d).slot .d).state = (if d then .identifying else (s.slot .d).state) := by
  unfold State.seePositions
  refine ⟨?_, ?_, ?_, ?_⟩
  · rw [State.seePosition_slot_of_ne _ _ (by decide), State.seePosition_slot_of_ne _ _ (by decide),
      State.seePosition_slot_of_ne _ _ (by decide), State.seePosition_state]
  · rw [State.seePosition_slot_of_ne _ _ (by decide), State.seePosition_slot_of_ne _ _ (by decide),
      State.seePosition_state, State.seePosition_slot_of_ne _ _ (by decide)]
  · rw [State.seePosition_slot_of_ne _ _ (by decide), State.seePosition_state, State.seePosition_slot_of_ne _ _ (by decide),
      State.seePosition_slot_of_ne _ _ (by decide)]
  · rw [State.seePosition_state, State.seePosition_slot_of_ne _ _ (by decide), State.seePosition_slot_of_ne _ _ (by decide),
      State.seePosition_slot_of_ne _ _ (by decide)]

/-- Settles O53. -/
theorem fullResetLeavesTheResetValues : Obligations.FullResetLeavesTheResetValues := by
  intro a b c d reject intake s
  obtain ⟨lockdown, hold, duress, samples, rejectFull, intakeFull, records⟩ := State.seesVaults_alarms reject intake
  obtain ⟨ha, hb, hc, hd⟩ := (State.seesVaults reject intake).seePositions_state a b c d
  have frame := ((State.seesVaults reject intake).seePositions_frame a b c d).trans (by rw [State.seesVaults_frame])
  have absent (p : Pos) : ((State.seesVaults reject intake).slot p).state = .absent :=
    (congrArg (fun t : State => (t.slot p).state) (State.seesVaults_frame reject intake)).trans (by cases p <;> rfl)
  rw [absent] at ha hb hc hd
  have slot (p : Pos) := congrArg Slot.state (((State.seesVaults reject intake).seePositions a b c d).reform_slot p)
  have lanes (l : Lane) : let r := ((State.seesVaults reject intake).seePositions a b c d).reform.lane l
      r.link = .disabled ∧ r.binVerified = false ∧ r.lastEvent = none := by
    unfold State.lane
    rw [State.reform_lanes, PerLane_get_mapWith, frame]
    cases l <;> exact ⟨rfl, rfl, rfl⟩
  have alarms := congrArg State.alarms frame
  refine ⟨_, rfl, ?_⟩
  rw [State.afterReset_eq]
  have field {α : Type} (f : State → α) := congrArg f frame
  exact ⟨field State.tickets, field State.pickQueue, field State.nextNumber, field State.params, field State.wall,
    field State.countPoint, field State.balance, field State.port, field State.changeSet, field State.approvals,
    field State.disputes, field State.retracts, field State.route,
    (congrArg Alarms.lockdown alarms).trans lockdown, (congrArg Alarms.hold alarms).trans hold,
    (congrArg Alarms.duress alarms).trans duress, (congrArg Alarms.samples alarms).trans samples,
    (slot .a).trans ha, (slot .b).trans hb, (slot .c).trans hc, (slot .d).trans hd,
    field (·.rejectVault.present), field (·.intakeVault.present),
    (congrArg (·.sources.rejectFull.active) alarms).trans rejectFull,
    (congrArg (·.sources.intakeFull.active) alarms).trans intakeFull, (congrArg Alarms.records alarms).trans records,
    lanes, field State.sweepPending, field State.sweepDone, field State.intakeRec, field State.staging, rfl⟩

end Sys2Proof.Machine
end

section
/-! PROOFS. The requests of the Cassette Bank that take two tellers (R51, R58, R177), and the vaults as their presence lines show
them (R55 to R57). -/

namespace Sys2Proof.Machine

variable {s t : State} {who : Teller}

/-! ### The table of R177 -/

/-- A first approval, or one by the teller position that gave it, is held. -/
theorem dualVerdict_held {held : Option Teller} {same : Bool} (h : held ≠ some who.complement) :
    dualVerdict held same who = .held := by
  cases held with
  | none => rfl
  | some first =>
    have same : first = who := by
      cases first <;> cases who
      case a.a | b.b => rfl
      all_goals exact absurd rfl h
    exact if_pos same

/-- The complementary approval with the same arguments takes effect. -/
theorem dualVerdict_effect (who : Teller) : dualVerdict (some who.complement) true who = .effect := by
  cases who <;> rfl

theorem Teller.complement_ne (who : Teller) : who ≠ who.complement := by cases who <;> decide

section ApproveDual
variable {x : HeldTarget} {delivered : Option Nat} {effect : State → State}

theorem State.approveDual_held (h : (s.heldApproval x).map HeldApproval.teller ≠ some who.complement) :
    s.approveDual x delivered who effect =
      .ok ({ s with approvals := putByKey HeldApproval.key ⟨x, who, delivered, 60⟩ s.approvals }, heldIndication) := by
  unfold State.approveDual
  dsimp only
  rw [dualVerdict_held h]
  rfl

theorem State.approveDual_effect {held : HeldApproval} (h : s.heldApproval x = some held) (hw : held.teller = who.complement)
    (hd : held.delivered = delivered) :
    s.approveDual x delivered who effect = .ok (effect (s.dropApproval x), effectIndication) := by
  have same : decide ((s.heldApproval x).bind HeldApproval.delivered = delivered) = true := by
    rw [h]; exact decide_eq_true hd
  have first : (s.heldApproval x).map HeldApproval.teller = some who.complement := by rw [h, ← hw]; rfl
  unfold State.approveDual
  dsimp only
  rw [same, first, dualVerdict_effect]

end ApproveDual

theorem State.dropApproval_none (s : State) (x : HeldTarget) : (s.dropApproval x).heldApproval x = none :=
  findByKey_dropKey_self _

/-! ### The vaults (R55 to R58) -/

theorem Vault.ofNat?_range {n : Nat} {v : Vault} (h : Vault.ofNat? n = some v) : 1 ≤ n ∧ n ≤ 2 := by
  unfold Vault.ofNat? at h
  split at h
  · decide
  · decide
  · cases h

/-- What handing the vault full sources leaves of the records that a request for a vault speaks of. -/
theorem State.handVaults_frame (s : State) :
    s.handVaults.rejectVault = s.rejectVault ∧ s.handVaults.intakeVault = s.intakeVault
      ∧ s.handVaults.approvals = s.approvals := by
  rw [(State.handed_handVaults s).spares.same]
  exact ⟨rfl, rfl, rfl⟩

/-- An emptied vault that is present is not full. -/
theorem RejectVault.empty_full {v : RejectVault} (h : v.present = true) : v.empty.full = false := by
  rw [Bool.eq_false_iff, Ne, RejectVault.full_iff]
  rintro (full | out)
  · exact absurd full (by decide : ¬ 600 ≤ min 999 (0 + 0 + 0))
  · exact absurd (h.symm.trans out) nofun

theorem IntakeVault.empty_full {v : IntakeVault} (h : v.present = true) : v.empty.full = false := by
  rw [Bool.eq_false_iff, Ne, IntakeVault.full_iff]
  rintro (full | out)
  · exact absurd full (by decide : ¬ 2500 ≤ (PerCode.const 0).toList.sum)
  · exact absurd (h.symm.trans out) nofun

/-- R58's steps 3 and 4: whether a vault may be counted into. -/
theorem State.vaultAtRest_iff {v : Vault} :
    s.vaultAtRest v = true ↔
      ¬ (v = .reject ∧ (s.route ≠ .free ∨ s.staging.purge = .running ∨ s.picker.state = .feeding)
        ∨ v = .intake ∧ s.anyCollecting = true) := by
  cases v <;> simp [State.vaultAtRest, and_assoc]

/-- VAULT EMPTIED by its checks. -/
theorem State.vaultEmptied_checks (h : s.frameBegun) (v : Vault) {teller : Nat} (hw : Teller.ofNat? teller = some who) :
    exec (.vaultEmptied v.number teller) s =
      if s.vaultPresent v then
        if s.vaultAtRest v then s.respond (s.approveDual (.vault v) none who fun u => u.emptyVault v)
        else s.refusedWith .busy
      else s.refusedWith .badState := by
  refine (State.answer_respond h _).trans ?_
  rw [Vault_ofNat_number, hw]
  simp only [State.respond_named, Option.elim_some, State.respond_need]

/-- A vault emptied (R58): its own part of the record, and its full source with it. -/
theorem State.emptyVault_leaves (s : State) (v : Vault) (h : s.vaultPresent v = true) :
    let t := s.emptyVault v
    t.approvals = s.approvals ∧ t.reasons.position = true
      ∧ (v = .reject → t.rejectVault = s.rejectVault.empty ∧ t.intakeVault = s.intakeVault
          ∧ t.alarms.sources.rejectFull.active = false)
      ∧ (v = .intake → t.intakeVault = s.intakeVault.empty ∧ t.rejectVault = s.rejectVault
          ∧ t.alarms.sources.intakeFull.active = false) := by
  cases v with
  | reject =>
    obtain ⟨reject, intake, held⟩ := State.handVaults_frame { s with rejectVault := s.rejectVault.empty }
    obtain ⟨full, -⟩ := State.handVaults_active { s with rejectVault := s.rejectVault.empty }
    exact ⟨held, rfl, fun _ => ⟨reject, intake, full.trans (RejectVault.empty_full h)⟩, nofun⟩
  | intake =>
    obtain ⟨reject, intake, held⟩ := State.handVaults_frame { s with intakeVault := s.intakeVault.empty }
    obtain ⟨-, full⟩ := State.handVaults_active { s with intakeVault := s.intakeVault.empty }
    exact ⟨held, rfl, nofun, fun _ => ⟨intake, reject, full.trans (IntakeVault.empty_full h)⟩⟩

/-- Settles O26. -/
theorem vaultsAreEmptiedAndSeen : Obligations.VaultsAreEmptiedAndSeen := by
  refine ⟨fun vault teller s h hr => ?_, fun teller who v s h hw => ⟨fun hp => ?_, fun hp hm => ?_, fun hp h1 h2 => ?_⟩,
    fun v present s => ?_⟩
  · refine (State.answer_respond h _).trans ?_
    rw [State.respond_named]
    cases hv : Vault.ofNat? vault with
    | none => rfl
    | some v =>
      rw [Option.elim_some, State.respond_named]
      cases hw : Teller.ofNat? teller with
      | none => rfl
      | some who =>
        have := Vault.ofNat?_range hv
        have := Teller.ofNat?_range hw
        omega
  · rw [State.vaultEmptied_checks h v hw, hp]
    rfl
  · rw [State.vaultEmptied_checks h v hw, if_pos hp, if_neg fun rest => State.vaultAtRest_iff.1 rest hm]
  · have rest : s.vaultAtRest v = true := State.vaultAtRest_iff.2 (by
      rintro (⟨rfl, moves⟩ | ⟨rfl, collecting⟩)
      · obtain ⟨free, still, fed⟩ := h1 rfl
        exact moves.elim (absurd free) (Or.rec still fed)
      · exact absurd ((h2 rfl).symm.trans collecting) nofun)
    rw [State.vaultEmptied_checks h v hw, if_pos hp, if_pos rest]
    refine ⟨fun first => by rw [State.approveDual_held first]; rfl, fun held hheld hc hd => ?_⟩
    rw [State.approveDual_effect hheld hc hd]
    obtain ⟨approvals, position, reject, intake⟩ := (s.dropApproval (.vault v)).emptyVault_leaves v (by cases v <;> exact hp)
    refine ⟨_, rfl, rfl, ?_, position, reject, fun hv => ?_⟩
    · unfold State.heldApproval
      rw [State.hold_approvals, approvals]
      exact s.dropApproval_none _
    · obtain ⟨emptied, kept, full⟩ := intake hv
      exact ⟨emptied, (congrArg IntakeVault.total emptied).trans rfl, kept, full⟩
  · obtain ⟨reject, intake, -⟩ := (s.setPresent v present).handVaults_frame
    obtain ⟨rejectFull, intakeFull⟩ := (s.setPresent v present).handVaults_active
    refine ⟨_, rfl, ?_, ?_, ?_, ?_⟩
    · rintro rfl
      exact ⟨reject, intake⟩
    · rintro rfl
      exact ⟨intake, reject⟩
    · rw [State.reform_alarms, State.reform_rejectVault, rejectFull, reject, Bool.eq_iff_iff, RejectVault.full_iff,
        decide_eq_true_iff]
    · rw [State.reform_alarms, State.reform_intakeVault, intakeFull, intake, Bool.eq_iff_iff, IntakeVault.full_iff,
        decide_eq_true_iff]

end Sys2Proof.Machine
end

section
/-! PROOFS. POSITION RELEASE (R51, R177): its checks, and the release with the count point it asks (R161). -/

namespace Sys2Proof.Machine

variable {s : State} {who : Teller} {p : Pos}

/-- A slot written back with no change that R35 names places nothing. -/
theorem State.putSlot_quiet {x : Slot} (h : (s.slots.get p).attended = x.attended) :
    s.putSlot p x = { s with slots := s.slots.set p x } := by
  unfold State.putSlot
  rw [if_pos h]

/-- An approval of a position's release held, by the table of R177. -/
theorem State.approveRelease_held (h : (s.slot p).release = none ∨ (s.slot p).release.map Approval.teller = some who) :
    s.approveRelease p who =
      .ok ({ s with slots := s.slots.set p { s.slot p with release := some ⟨who, 60⟩ } }, heldIndication) := by
  have first : (s.slot p).release.map Approval.teller ≠ some who.complement := by
    rcases h with h | h
    · rw [h]; exact nofun
    · rw [h]; exact fun e => Teller.complement_ne who (Option.some.inj e)
  unfold State.approveRelease
  rw [dualVerdict_held first]
  exact congrArg (fun t => Except.ok (t, heldIndication)) (State.putSlot_quiet (p := p) rfl)

theorem State.approveRelease_effect {held : Approval} (h : (s.slot p).release = some held) (hw : held.teller = who.complement) :
    s.approveRelease p who = .ok ((s.releasePosition p).reform, effectIndication) := by
  have first : (s.slot p).release.map Approval.teller = some who.complement := by rw [h, ← hw]; rfl
  unfold State.approveRelease
  rw [first, dualVerdict_effect]

/-- POSITION RELEASE by its checks. -/
theorem State.positionRelease_checks (h : s.frameBegun) {position teller : Nat} (hs : s.wall.service = true)
    (hp : Pos.ofNat? position = some p) (hw : Teller.ofNat? teller = some who) :
    exec (.positionRelease position teller) s =
      if ¬ ((s.slot p).state = .inService ∨ (s.slot p).state = .suspended) then s.refusedWith .badState
      else if s.tickets.any (Ticket.pickingFrom p) = true ∨ p = .d ∧ s.params.recycling = true ∧ s.anyCollecting = true then
        s.refusedWith .busy
      else s.respond (s.approveRelease p who) := by
  refine (State.answer_respond h _).trans ?_
  rw [hs, hp, hw, State.respond_need, if_pos rfl, State.respond_named, Option.elim_some, State.respond_named, Option.elim_some,
    State.respond_need_of (p := ¬ ((s.slot p).state = .inService ∨ (s.slot p).state = .suspended))
      (decide_eq_true_iff.trans not_not.symm),
    State.respond_need_either (p := s.tickets.any (Ticket.pickingFrom p) = true)
      (q := p = .d ∧ s.params.recycling = true ∧ s.anyCollecting = true) (by simp) (by simp [imp_iff_not_or, or_assoc])]

/-- The slot of a position whose release has taken effect (R51). -/
def Slot.released (x : Slot) : Slot := { x with state := .releasePending, prior := some x.state, release := none }

theorem State.releasePosition_eq (s : State) (p : Pos) :
    s.releasePosition p = (s.putSlot p (s.slot p).released).recheckGate.requestCount .release (PosSet.single p) := rfl

theorem State.releasePosition_frame (s : State) (p : Pos) :
    s.releasePosition p = { s.putSlot p (s.slot p).released with
      tickets := (s.releasePosition p).tickets, changeSet := (s.releasePosition p).changeSet,
      reasons := (s.putSlot p (s.slot p).released).recheckGate.reasons, picker := (s.releasePosition p).picker,
      gate := (s.releasePosition p).gate, intakeRec := (s.releasePosition p).intakeRec,
      headSent := (s.releasePosition p).headSent,
      countPoint := s.countPoint.requested s.params.quiesceTimeout .release (PosSet.single p) } := by
  rw [State.releasePosition_eq, State.requestCount_frame, State.recheckGate_frame]
  rfl

/-- A waiting claim answered changes tickets, and places TICKETS at most (R32, R178). -/
theorem State.claim_reasons (n : Nat) (takenIn : DispenseState → Bool) (f : Dispense → Dispense) :
    (s.claim n takenIn f).reasons = s.reasons ∨ (s.claim n takenIn f).reasons = s.reasons.add .tickets := by
  rcases State.claim_cases (s := s) n takenIn f with ⟨d, -, -, h⟩ | h <;> rw [h]
  · right
    unfold State.move
    rw [State.noteTicket_reasons, State.rewrite_frame]
  · exact .inl rfl

theorem State.recheckGate_reasons (s : State) :
    s.recheckGate.reasons = s.reasons ∨ s.recheckGate.reasons = s.reasons.add .tickets := by
  have pick : s.recheckPick.reasons = s.reasons ∨ s.recheckPick.reasons = s.reasons.add .tickets := by
    unfold State.recheckPick
    split
    · split
      · exact State.claim_reasons _ _ _
      · exact .inl rfl
    · exact .inl rfl
  rw [State.recheckGate_eq]
  split
  · rw [State.redecide_frame]
    exact pick
  · exact pick

theorem State.recheckGate_position (s : State) : s.recheckGate.reasons.position = s.reasons.position := by
  rcases s.recheckGate_reasons with h | h <;> rw [h]
  rfl

theorem PosSet.union_single (x : PosSet) (p : Pos) : x.union (PosSet.single p) = x.set p true := by
  refine PerPos_ext fun q => ?_
  unfold PosSet.union PosSet.single PosSet.empty
  rw [PerPos_get_mapWith]
  by_cases h : q = p
  · subst h
    rw [PerPos_get_set_self, PerPos_get_set_self, Bool.or_true]
  · rw [PerPos_get_set_of_ne _ _ h, PerPos_get_set_of_ne _ _ h, PerPos_get_const, Bool.or_false]

/-- At D a release answers the claim that waits for the gate (R51, R60). -/
theorem State.releasePosition_answers (s : State) :
    s.haltsWaiting (s.releasePosition .d) .notReady ∧ s.redecidesWaiting (s.releasePosition .d) s.pausing := by
  let u := s.putSlot .d (s.slot .d).released
  have slot : u.slot .d = (s.slot .d).released := State.putSlot_slot _ _ _
  have unfit : (u.slot .d).pickUnfit = some .notReady := by rw [slot]; rfl
  have closed : u.storeFit = false := State.storeFit_of_state (by rw [slot]; exact nofun)
  obtain ⟨halt, note⟩ := u.recheckGate.requestCount_spares .release (PosSet.single .d)
  exact ⟨(State.haltsWaiting_of_same (s := s) (State.recheckGate_halts unfit) rfl rfl fun _ => rfl).spared halt,
    (State.redecidesWaiting_of_same (s := s) (State.recheckGate_redecides closed) rfl fun _ => rfl).spared note⟩

/-- Settles O25. -/
theorem releaseTakesTwoTellers : Obligations.ReleaseTakesTwoTellers := by
  intro position teller s h
  refine ⟨fun hs => ?_, fun hs hr => ?_, fun p who hs hp hw => ?_⟩
  · refine (State.answer_respond h _).trans ?_
    rw [hs]
    rfl
  · refine (State.answer_respond h _).trans ?_
    rw [hs, State.respond_need, if_pos rfl, State.respond_named]
    cases hp : Pos.ofNat? position with
    | none => rfl
    | some p =>
      rw [Option.elim_some, State.respond_named]
      cases hw : Teller.ofNat? teller with
      | none => rfl
      | some who =>
        have := Pos.ofNat?_range hp
        have := Teller.ofNat?_range hw
        omega
  · rw [State.positionRelease_checks h hs hp hw]
    refine ⟨fun h1 h2 => if_pos (by simp [h1, h2]), fun ready => ?_⟩
    rw [if_neg (not_not_intro ready)]
    refine ⟨fun busy => if_pos busy, fun picking collecting => ?_⟩
    have free : ¬ (s.tickets.any (Ticket.pickingFrom p) = true ∨ p = .d ∧ s.params.recycling = true ∧ s.anyCollecting = true) :=
      not_or_intro (by rw [picking]; decide) collecting
    rw [if_neg free]
    refine ⟨fun first => by rw [State.approveRelease_held first]; rfl, fun held hheld hc => ?_⟩
    rw [State.approveRelease_effect hheld hc]
    have points : (s.releasePosition p).countPoint = s.countPoint.requested s.params.quiesceTimeout .release (PosSet.single p) := by
      rw [State.releasePosition_frame]
    have slot : (s.releasePosition p).slot p = (s.slot p).released := by
      rw [State.releasePosition_frame]
      exact State.putSlot_slot _ _ _
    have places : (s.releasePosition p).reasons.position = true := by
      rw [State.releasePosition_frame]
      refine (State.recheckGate_position _).trans (State.putSlot_places fun e => ?_)
      rcases ready with h | h <;> exact absurd (h.symm.trans (congrArg Prod.fst e)) nofun
    have answers (hd : p = .d) : s.haltsWaiting (s.releasePosition p) .notReady
        ∧ s.redecidesWaiting (s.releasePosition p) s.pausing := by
      subst hd
      exact s.releasePosition_answers
    generalize s.releasePosition p = u at points slot places answers
    refine ⟨_, rfl, rfl, ?_, places, answers, fun hi => ?_, fun hi => ?_, fun hi => ?_⟩
    · refine (State.reform_slot p).trans ?_
      rw [slot]
      rfl
    · rw [State.hold_countPoint, State.reform_countPoint, points, CountPoint.requested_idle hi]
      exact ⟨rfl, rfl, rfl⟩
    · rw [State.hold_countPoint, State.reform_countPoint, points, CountPoint.requested_quiescing hi, PosSet.union_single]
    · rw [State.hold_countPoint, State.reform_countPoint, points, CountPoint.requested_balancing hi, PosSet.union_single]

end Sys2Proof.Machine
end

section
/-! PROOFS. A pick result at its position (R34, R44, R46 to R49, R55, R72): the slot it leaves, the copy, the reject vault and the
staging gate, and the answer to a store claim that waits for D (R60, R114). -/

namespace Sys2Proof.Machine

variable {s t u : State} {n : Nat} {p q : Pos} {r : GaugeResult}

/-! ### The note gauge (R72) -/

theorem judgeNote_rows (refs : GaugeRefs) (thickness length : Nat) :
    (26 * refs.thickness < 10 * thickness → judgeNote refs thickness length = .multiple)
      ∧ (16 * refs.thickness ≤ 10 * thickness → 10 * thickness ≤ 26 * refs.thickness →
          judgeNote refs thickness length = .double)
      ∧ (10 * thickness < 16 * refs.thickness →
          judgeNote refs thickness length =
            if 75 * refs.thickness ≤ 100 * thickness ∧ 100 * thickness ≤ 125 * refs.thickness
                ∧ refs.length ≤ length + 4 ∧ length ≤ refs.length + 4 then .single
            else .skew) := by
  unfold judgeNote
  refine ⟨fun h => if_pos h, fun h k => ?_, fun h => ?_⟩
  · rw [if_neg (by omega), if_pos h]
  · rw [if_neg (by omega), if_neg (by omega)]

/-! ### The counts of a slot (R34, R44) -/

/-- What a pick that lowers a count to `count` takes first from picked out and stored in (R34). -/
def Slot.lowered (x : Slot) (count : Nat) : Nat :=
  if count < x.count ∧ 65535 < x.pickedOut + (x.count - count) then min x.pickedOut x.storedIn else 0

/-- A pick that takes notes of a count that holds them. -/
theorem Slot.takeOut_eq (x : Slot) {n : Nat} (h0 : n ≠ 0) (h : n ≤ x.count) :
    x.takeOut n =
      { x with count := x.count - n, pickedOut := x.pickedOut - x.lowered (x.count - n) + n,
               storedIn := x.storedIn - x.lowered (x.count - n), totalPickedOut := min 65535 (x.totalPickedOut + n) } := by
  have taken : x.count - (x.count - n) = n := by omega
  have lower : x.count - n < x.count := by omega
  unfold Slot.takeOut Slot.relieve Slot.lowered
  rw [taken]
  by_cases past : Config.max16 < x.pickedOut + n
  · rw [if_pos past, if_pos ⟨lower, past⟩]
    rfl
  · rw [if_neg past, if_neg fun h => past h.2]
    rfl

theorem Slot.removeNotes_eq (x : Slot) (n : Nat) :
    x.removeNotes n =
      { x with
        count := x.count - n,
        pickedOut := x.pickedOut - x.lowered (x.count - n) + (x.count - (x.count - n)),
        storedIn := x.storedIn - x.lowered (x.count - n),
        totalPickedOut := if x.count - n = x.count then x.totalPickedOut
          else min 65535 (x.totalPickedOut + (x.count - (x.count - n))),
        overrun := if x.count < n then min 255 (x.overrun + (n - x.count)) else x.overrun } := by
  have taken : x.count - (x.count - n) = min n x.count := by omega
  have left : x.count - n = x.count - min n x.count := by omega
  have short : min n x.count < n ↔ x.count < n := by omega
  have past : x.count < n → n - min n x.count = n - x.count := by omega
  have removed : (if min n x.count = 0 then x else x.takeOut (min n x.count)) =
      { x with count := x.count - n, pickedOut := x.pickedOut - x.lowered (x.count - n) + min n x.count,
               storedIn := x.storedIn - x.lowered (x.count - n),
               totalPickedOut := if x.count - n = x.count then x.totalPickedOut
                 else min 65535 (x.totalPickedOut + min n x.count) } := by
    by_cases zero : min n x.count = 0
    · have same : x.count - n = x.count := by omega
      have kept : x.lowered x.count = 0 := if_neg fun h => absurd h.1 (lt_irrefl _)
      rw [if_pos zero, zero, same, kept, if_pos rfl]
      rfl
    · rw [if_neg zero, Slot.takeOut_eq x zero (min_le_right _ _), ← left, if_neg (by omega)]
  unfold Slot.removeNotes
  dsimp only
  rw [removed, taken]
  by_cases h : x.count < n
  · rw [if_pos (short.2 h), if_pos h, past h]
    rfl
  · rw [if_neg fun k => h (short.1 k), if_neg h]

/-! ### The slot with a result (R44, R46 to R49) -/

theorem Slot.setUncertain_if (c : Prop) [Decidable c] (x : Slot) :
    (if c then x.setUncertain else x) = { x with uncertain := x.uncertain || decide c, reviewed := x.reviewed && !decide c } := by
  by_cases h : c <;> simp [h, Slot.setUncertain]

theorem Slot.judgeQuality_eq (threshold : Nat) (x : Slot) :
    x.judgeQuality threshold =
      { x with state := if x.state = .inService ∧ threshold ≤ windowFails x.window then .suspended else x.state } := by
  unfold Slot.judgeQuality
  split <;> rfl

theorem Slot.countMiss_eq (r : GaugeResult) (x : Slot) :
    x.countMiss r =
      { x with missRun := if r = .miss then min 3 (x.missRun + 1) else 0,
               depleted := if r = .miss ∧ 3 ≤ x.missRun + 1 then .misses else x.depleted } := by
  unfold Slot.countMiss
  by_cases h : r = .miss <;> simp [h]

/-- A suspension leaves a position with its counts. -/
theorem PosState.live_suspended (x : PosState) (c : Prop) [Decidable c] :
    (if x = .inService ∧ c then .suspended else x : PosState).live = x.live := by
  split
  · rename_i h
    rw [h.1]
    rfl
  · rfl

theorem GaugeResult.fails_eq (r : GaugeResult) : r.fails = decide (r ≠ .single) := by cases r <;> rfl

theorem Slot.takeResult_eq (threshold lowLevel : Nat) (r : GaugeResult) (x : Slot) :
    x.takeResult threshold lowLevel r =
      { x with
        count := x.count - r.removed,
        pickedOut := x.pickedOut - x.lowered (x.count - r.removed) + (x.count - (x.count - r.removed)),
        storedIn := x.storedIn - x.lowered (x.count - r.removed),
        totalPickedOut := if x.count - r.removed = x.count then x.totalPickedOut
          else min 65535 (x.totalPickedOut + (x.count - (x.count - r.removed))),
        overrun := if x.count < r.removed then min 255 (x.overrun + (r.removed - x.count)) else x.overrun,
        uncertain := x.uncertain || decide (r = .multiple ∨ x.count < r.removed),
        reviewed := x.reviewed && !decide (r = .multiple ∨ x.count < r.removed),
        window := (decide (r ≠ .single) :: x.window).take 8,
        state := if x.state = .inService ∧ threshold ≤ windowFails ((decide (r ≠ .single) :: x.window).take 8) then .suspended
          else x.state,
        missRun := if r = .miss then min 3 (x.missRun + 1) else 0,
        depleted := if r = .miss ∧ 3 ≤ x.missRun + 1 then .misses
          else if 0 < x.count ∧ x.count - r.removed = 0 then x.depleted.atZero else x.depleted,
        low := x.state.live && decide (x.count - r.removed ≤ lowLevel) } := by
  have zeroed (c : Prop) [Decidable c] (y : Slot) : (if c then { y with depleted := y.depleted.atZero } else y) =
      { y with depleted := if c then y.depleted.atZero else y.depleted } := by split <;> rfl
  unfold Slot.takeResult
  dsimp only
  rw [Slot.setUncertain_if, zeroed]
  simp only [Slot.countMiss_eq, Slot.judgeQuality_eq, Slot.addOutcome, Slot.formLow,
    Slot.removeNotes_eq, PosState.live_suspended, GaugeResult.fails_eq]

/-! ### The picker's next step leaves the Cassette Bank and the note in escrow (R73 to R77) -/

theorem State.picksOnly_startPick (p : Pos) : s.PicksOnly (s.startPick n p) := by
  unfold State.startPick
  split
  · split
    · exact State.picksOnly_decidePick n
    · exact ⟨rfl, rfl, fun _ => rfl⟩
  · exact ⟨rfl, rfl, fun _ => rfl⟩

theorem State.picksOnly_takeUp (n : Nat) : s.PicksOnly (s.takeUp n) := by
  have taken : s.PicksOnly { s with picker := { s.picker with ticket := some n } } := ⟨rfl, rfl, fun _ => rfl⟩
  refine taken.trans ?_
  unfold State.takeUp State.workPick
  split
  · exact ⟨rfl, rfl, fun _ => rfl⟩
  · split
    · exact .refl
    · split
      · exact .refl
      · split
        · exact State.picksOnly_haltPick _ _
        · exact State.picksOnly_startPick _

/-- What the next step touches beside staging: the ticket and the picker with its claim. -/
theorem State.nextStep_picksOnly (s : State) (n : Nat) (r : GaugeResult) :
    ∃ x : Staging, State.PicksOnly { s with staging := x } (s.nextStep n r) := by
  have claimed (x : Staging) (takenIn : DispenseState → Bool) (f : Dispense → Dispense) :
      State.PicksOnly { s with staging := x } { s.claim n takenIn f with staging := x } :=
    ⟨by rw [State.claim_frame], by rw [State.claim_frame], fun i => State.intake_claim takenIn f i⟩
  have same {t : State} (h : s.PicksOnly t) : ∃ x : Staging, State.PicksOnly { s with staging := x } t := ⟨s.staging, h⟩
  unfold State.nextStep
  split
  · split
    · split
      · exact ⟨{ s.staging with complete := true }, by
          have := claimed { s.staging with complete := true } (· = .picking) (Dispense.enter .staged)
          unfold State.completeBundle
          rwa [State.claim_frame] at this ⊢⟩
      · split
        · exact same (State.picksOnly_haltPick _ _)
        · exact same (State.picksOnly_takeUp _)
    · unfold State.finishVoid
      split
      · exact ⟨_, .refl⟩
      · exact ⟨_, claimed .empty _ _⟩
    all_goals exact same .refl
  · exact same .refl

/-- A change of the tickets, the picker, the gate, the note in escrow and staging, which are the records that the end of a pick
touches beside the Cassette Bank. -/
def State.EndsPick (s t : State) : Prop :=
  t = { s with tickets := t.tickets, changeSet := t.changeSet, reasons := t.reasons, picker := t.picker, gate := t.gate,
               intakeRec := t.intakeRec, headSent := t.headSent, staging := t.staging }

theorem State.EndsPick.trans (h : s.EndsPick t) (k : t.EndsPick u) : s.EndsPick u := by
  unfold State.EndsPick at *
  rw [k, h]

theorem State.nextStep_ends (s : State) (n : Nat) (r : GaugeResult) : s.EndsPick (s.nextStep n r) := by
  obtain ⟨x, only⟩ := s.nextStep_picksOnly n r
  unfold State.EndsPick
  rw [only.same]

theorem State.nextStep_sparesNote (s : State) (n : Nat) (r : GaugeResult) : s.SparesNote (s.nextStep n r) := by
  obtain ⟨x, only⟩ := s.nextStep_picksOnly n r
  exact only.sparesNote

/-! ### What a result leaves (R44, R55, R59, R72) -/

/-- The reject vault's figures with a result, before its full source is handed (R55). -/
def State.withRejects (s : State) (r : GaugeResult) : State :=
  { s with rejectVault := if 0 < r.rejected then s.rejectVault.addPicks r.rejected else s.rejectVault }

theorem State.countRejects_recalls (s : State) (r : GaugeResult) : (s.withRejects r).Recalls (s.countRejects r) := by
  unfold State.withRejects State.countRejects
  split
  · exact State.recalls_handVaults _
  · exact .refl

/-- A result at its ticket and in staging (R3, R72, R73). -/
def State.atTicket (s : State) (n : Nat) (r : GaugeResult) : State :=
  let t := s.adjust n (Dispense.takeResult r)
  { t with staging := t.staging.takeResult r t.picker.refs.value, sgate := t.sgate.turn r }

/-- The end of the grant of the D gate, and the picker stopped (R59, R73). -/
def State.endGrant (s : State) (p : Pos) : State :=
  let t := if p = .d then s.freeGate else s
  { t with picker := t.picker.stop }

theorem State.picked_eq (s : State) (n : Nat) (p : Pos) (r : GaugeResult) :
    s.picked n p r = ((((s.countSlot p r).countRejects r).recheckGate).atTicket n r).endGrant p := rfl

theorem State.recheckGate_ends (s : State) : s.EndsPick s.recheckGate := by
  unfold State.EndsPick
  rw [State.recheckGate_frame]

theorem State.atTicket_ends (s : State) (n : Nat) (r : GaugeResult) :
    State.EndsPick { s with sgate := s.sgate.turn r } (s.atTicket n r) := by
  unfold State.EndsPick State.atTicket
  rw [State.adjust_frame]

theorem State.endGrant_ends (s : State) (p : Pos) : s.EndsPick (s.endGrant p) := by
  unfold State.EndsPick State.endGrant
  dsimp only
  split
  · rw [State.freeGate_frame]
  · rfl

/-- The records of the Cassette Bank, the alarms and the staging gate as a result leaves them. -/
theorem State.result_ends (s : State) (n : Nat) (p : Pos) (r : GaugeResult) :
    let k := (s.countSlot p r).countRejects r
    State.EndsPick { k with sgate := k.sgate.turn r } ((s.picked n p r).nextStep n r) := by
  intro k
  have checked : State.EndsPick { k with sgate := k.sgate.turn r } { k.recheckGate with sgate := k.recheckGate.sgate.turn r } := by
    unfold State.EndsPick
    rw [k.recheckGate_ends]
  rw [State.picked_eq]
  exact (checked.trans (State.atTicket_ends _ n r)).trans ((State.endGrant_ends _ p).trans (State.nextStep_ends _ n r))

theorem State.atTicket_sparesNote (s : State) (n : Nat) (r : GaugeResult) : s.SparesNote (s.atTicket n r) := by
  unfold State.atTicket
  rw [State.adjust_frame]
  exact .of_same rfl rfl rfl

theorem State.endGrant_sparesNote (s : State) (p : Pos) : s.SparesNote (s.endGrant p) := by
  unfold State.endGrant
  dsimp only
  split
  · intro hi hw
    rw [State.freeGate_noStore hw]
    exact State.picksOnly_serveGatePicker.sparesNote (s := { s with gate := { s.gate with granted := none } }) hi hw
  · exact .of_same rfl rfl rfl

/-- A note whose claim is answered stays as it is to the end of the result. -/
theorem State.result_sparesNote (s : State) (n : Nat) (p : Pos) (r : GaugeResult) :
    ((s.countSlot p r).countRejects r).recheckGate.SparesNote ((s.picked n p r).nextStep n r) := by
  rw [State.picked_eq]
  exact ((State.atTicket_sparesNote _ n r).trans (State.endGrant_sparesNote _ p)).trans (State.nextStep_sparesNote _ n r)

/-- The records of the Cassette Bank after a result. -/
theorem State.result_bank (s : State) (n : Nat) (p : Pos) (r : GaugeResult) :
    let t := (s.picked n p r).nextStep n r
    let c := s.countSlot p r
    t.slots = c.slots ∧ t.retiring = c.retiring ∧ t.tagLink = c.tagLink ∧ t.countPoint = c.countPoint ∧ t.params = s.params
      ∧ t.rejectVault = (c.withRejects r).rejectVault ∧ t.sgate = s.sgate.turn r
      ∧ t.alarms = (c.countRejects r).alarms := by
  have rejected := ((s.countSlot p r).countRejects_recalls r).spares.same
  have params : (s.countSlot p r).params = s.params := by rw [State.countSlot_frame]
  have gate : (s.countSlot p r).sgate = s.sgate := by rw [State.countSlot_frame]
  have ends := s.result_ends n p r
  intro t c
  rw [show t = _ from ends]
  dsimp only
  rw [rejected, ← params, ← gate]
  exact ⟨rfl, rfl, rfl, rfl, rfl, rfl, rfl, rfl⟩

theorem Transfer.joins_markWrite {y : Transfer} (h : Transfer.joins ⟨.markWrite, p⟩ y = true) :
    y.position = p ∧ y.kind = .markWrite := by
  obtain ⟨kind, position⟩ := y
  unfold Transfer.joins at h
  rw [Bool.and_eq_true_iff, decide_eq_true_iff] at h
  obtain ⟨same, joins⟩ := h
  cases kind
  case markWrite => exact ⟨same.symm, rfl⟩
  all_goals cases joins

/-- A result at the cassette in the slot, and the mark write that is owed (R44, R48). -/
theorem State.countSlot_slot (h : s.picker.fedFrom = .slot) (p : Pos) (r : GaugeResult) :
    let x := (s.slot p).takeResult s.params.suspendThreshold (s.params.lowLevels.get p) r
    (s.countSlot p r).slots = s.slots.set p { x with markOwed := false }
      ∧ ((s.slot p).markOwed = true → ∃ y ∈ (s.countSlot p r).transfersOf p, y.kind = .markWrite)
      ∧ ((s.slot p).markOwed = false → (s.countSlot p r).tagLink = s.tagLink) := by
  intro x
  have owed : x.markOwed = (s.slot p).markOwed := by simp only [x, Slot.takeResult_eq]
  have counted : s.countSlot p r =
      if x.markOwed then (s.putSlot p { x with markOwed := false }).askTag .markWrite p else s.putSlot p x := by
    unfold State.countSlot
    rw [h]
  rw [counted, owed]
  cases hm : (s.slot p).markOwed
  · have clear : ({ x with markOwed := false } : Slot) = x := by rw [← owed.trans hm]
    rw [clear]
    exact ⟨rfl, nofun, fun _ => rfl⟩
  · rw [if_pos rfl]
    refine ⟨by rw [State.askTag_frame]; rfl, fun _ => ?_, nofun⟩
    rcases State.askTag_mem (s.putSlot p { x with markOwed := false }) .markWrite p with ⟨y, hy, hj⟩ | hy
    · obtain ⟨position, kind⟩ := Transfer.joins_markWrite hj
      exact ⟨y, State.mem_transfersOf.2 ⟨hy, position⟩, kind⟩
    · exact ⟨_, State.mem_transfersOf.2 ⟨hy, rfl⟩, rfl⟩

/-- The reject vault and its full source with a result (R55, R56). -/
theorem State.countRejects_full (s : State) (h : r.rejected ≠ 0) :
    (s.countRejects r).alarms.sources.rejectFull.active = (s.withRejects r).rejectVault.full := by
  unfold State.countRejects State.withRejects
  rw [if_pos (Nat.pos_of_ne_zero h), if_pos (Nat.pos_of_ne_zero h)]
  exact (State.handVaults_active _).1

theorem State.takesStores_iff : s.takesStores ↔ s.storeFit = true := by
  unfold State.takesStores State.storeFit
  cases (s.slot .d).identity <;> simp [and_assoc, and_left_comm, and_comm]

theorem State.countSlot_counting (s : State) (p : Pos) (r : GaugeResult) :
    (s.countSlot p r).countPoint.state = s.countPoint.state := by
  unfold State.countSlot
  split
  · dsimp only
    split
    · rw [State.askTag_frame]
      rfl
    · rfl
  · rfl
  · rfl

/-- With D fit for no store after a result the note of a store claim that waited is sent on (R60, R114). -/
theorem State.result_redecides (s : State) (n : Nat) (p : Pos) (r : GaugeResult) :
    let t := (s.picked n p r).nextStep n r
    t.storeFit = false → s.redecidesWaiting t (t.alarms.lockdown || decide (s.countPoint.state ≠ .idle)) := by
  intro t unfit
  let c := s.countSlot p r
  have recalls := c.countRejects_recalls r
  obtain ⟨slots, -, -, -, params, -, -, alarms⟩ := s.result_bank n p r
  have same : c.withRejects r = { s with
      slots := c.slots, tagLink := c.tagLink, retiring := c.retiring, countPoint := c.countPoint, reasons := c.reasons,
      rejectVault := (c.withRejects r).rejectVault } := by
    unfold State.withRejects
    simp only [c]
    rw [State.countSlot_frame]
  have fit : (c.countRejects r).storeFit = false := by
    rw [← unfit]
    refine State.storeFit_congr ?_ ?_
    · rw [slots, recalls.spares.same, same]
    · rw [params, recalls.spares.same, same]
  have pauses : (c.countRejects r).pausing = (t.alarms.lockdown || decide (s.countPoint.state ≠ .idle)) := by
    have point : (c.countRejects r).countPoint = c.countPoint := by rw [recalls.spares.same, same]
    unfold State.pausing State.counting
    rw [alarms, point, State.countSlot_counting]
  have sent := (recalls.redecides fit).spared (s.result_sparesNote n p r)
  rw [pauses] at sent
  exact State.redecidesWaiting_of_same sent (by rw [same]; rfl) fun _ => by rw [same]; rfl

/-- Settles O27. -/
theorem pickResultAtThePosition : Obligations.PickResultAtThePosition := by
  refine ⟨judgeNote_rows, fun i r n p s hi hf ht hp hfed => ?_, fun i r n p s hi hf ht hp => ?_,
    fun i r n p s hi hf ht hp => ?_, fun i n s hi hf ht hp => ?_⟩
  · intro x removed window count missRun emptied lowered
    have hr : removed = r.removed := by simp only [removed]; cases r <;> rfl
    obtain ⟨slots, -, tags, -, -, -, -, -⟩ := s.result_bank n p r
    obtain ⟨taken, owed, clear⟩ := State.countSlot_slot hfed p r
    refine ⟨_, State.exec_result hi hf ht hp, ?_, fun q hq => ?_, fun hm => ?_, fun hm => ?_⟩
    · rw [State.reform_slot, State.slot, slots, taken, PerPos_get_set_self, Slot.takeResult_eq]
      simp only [count, emptied, missRun, window, hr]
      rfl
    · rw [State.reform_slot, State.slot, slots, taken, PerPos_get_set_of_ne _ _ hq]
      rfl
    · obtain ⟨y, hy, kind⟩ := owed hm
      refine ⟨y, ?_, kind⟩
      rw [State.mem_transfersOf] at hy ⊢
      unfold State.transfers at hy ⊢
      rw [State.reform_tagLink, tags]
      exact hy
    · rw [State.reform_tagLink, tags, clear hm]
  · intro removed
    have hr : removed = r.removed := by simp only [removed]; cases r <;> rfl
    obtain ⟨slots, copies, -, point, -, -, -, -⟩ := s.result_bank n p r
    refine ⟨_, State.exec_result hi hf ht hp, fun hfed => ?_, fun hfed => ?_⟩
    · have counted : s.countSlot p r = s.changeCopy p (Slot.removeNotes r.removed) := by
        unfold State.countSlot
        rw [hfed]
      rw [counted] at slots copies point
      refine ⟨?_, point, fun c hc => ?_⟩
      · rw [State.reform_slot, State.slot, slots]
        rfl
      · intro count lowered
        rw [State.reform_retiring, copies, State.changeCopy, PerPos_get_set_self, hc, Option.map_some, Slot.removeNotes_eq]
        simp only [count, hr]
        rfl
    · have counted : s.countSlot p r = { s with countPoint :=
          { s.countPoint with writtenOff := s.countPoint.writtenOff.raise Config.max16 r.removed } } := by
        unfold State.countSlot
        rw [hfed]
      rw [counted] at slots copies point
      refine ⟨?_, copies, ?_⟩
      · rw [State.reform_slot, State.slot, slots]
        rfl
      · rw [State.reform_countPoint, point, hr]
        rfl
  · intro rejected
    have hr : rejected = r.rejected := by simp only [rejected]; cases r <;> rfl
    obtain ⟨-, -, -, -, -, vault, gate, alarms⟩ := s.result_bank n p r
    have before : (s.countSlot p r).rejectVault = s.rejectVault := by rw [State.countSlot_frame]
    refine ⟨_, State.exec_result hi hf ht hp, ?_, ?_, fun rejects => ?_⟩
    · rw [State.reform_sgate, gate]
      cases r <;> rfl
    · rw [State.reform_rejectVault, vault, State.withRejects, before, hr]
      by_cases zero : r.rejected = 0
      · rw [if_neg (by omega), if_pos zero]
      · rw [if_pos (by omega), if_neg zero]
        rfl
    · rw [State.reform_alarms, State.reform_rejectVault, alarms, vault, State.countRejects_full _ (hr ▸ rejects), Bool.eq_iff_iff,
        RejectVault.full_iff, decide_eq_true_iff]
  · have taken : ∃ r, i = .pickMissTimeout ∧ r = .miss
        ∨ ∃ thickness length, i = .gaugeResult thickness length ∧ r = judgeNote s.picker.refs thickness length := by
      rcases hi with rfl | ⟨thickness, length, rfl⟩
      · exact ⟨_, .inl ⟨rfl, rfl⟩⟩
      · exact ⟨_, .inr ⟨_, _, rfl, rfl⟩⟩
    obtain ⟨r, hr⟩ := taken
    refine ⟨_, State.exec_result hr hf ht hp, fun closed => ?_⟩
    rw [State.takesStores_iff, State.reform_storeFit, Bool.not_eq_true] at closed
    exact (s.result_redecides n .d r closed).spared (.of_same rfl rfl rfl)

end Sys2Proof.Machine
end

section
/-! PROOFS. The publish of a count point (R52, R161, R165, R168, R169), and the tag writes that lead to it (R40, R167). -/

namespace Sys2Proof.Machine

variable {s t u : State} {p q : Pos} {result : CountResult}

/-! ### The publish, record by record (R168) -/

/-- The count point record that a publish ends (R168). -/
def CountPoint.ended (c : CountPoint) : CountPoint :=
  { c with state := .idle, causes := .empty, number := nextCountNumber c.number, timer := none, writeBack := .empty,
           written := .empty, release := .empty, settled := 0, writtenOff := c.writtenOff.restart,
           storedAfter := c.storedAfter.restart }

/-- The count point record as the pending count point begins at once, if there is one (R161). -/
def CountPoint.begun (c : CountPoint) (timeout : Nat) : CountPoint :=
  if c.pending then
    { c with pending := false, pendingCauses := .empty, pendingRelease := .empty }.entersQuiescing timeout c.pendingCauses
      c.pendingRelease
  else c

/-- The slots after a publish (R52, R168, R169). -/
def State.publishedSlots (s : State) (result : CountResult) : PerPos Slot :=
  s.slots.mapWith fun p x => x.publish result (s.countPoint.written.get p) (s.countPoint.release.get p)

theorem State.publishSlots_frame (s : State) (result : CountResult) :
    Pos.all.foldl (State.publishSlot result) s =
      { s with slots := s.publishedSlots result, reasons := (Pos.all.foldl (State.publishSlot result) s).reasons } := rfl

/-- The publish before a pending count point begins (R168). -/
def State.completed (s : State) (result : CountResult) : State :=
  let t := (Pos.all.foldl (State.publishSlot result) s).publishRetiring
  State.place
    { t with
      rejectVault := t.rejectVault.publish, intakeVault := t.intakeVault.publish,
      balance := s.forming.map fun b =>
        { b with number := nextCountNumber s.countPoint.number, result := result, failures := s.countPoint.failures },
      forming := none,
      wall := if s.countPoint.causes.start then { t.wall with service := true, starting := false } else t.wall,
      countPoint := { t.countPoint.ended with number := nextCountNumber s.countPoint.number } } .balance

theorem State.completed_frame (s : State) (result : CountResult) :
    s.completed result = { s with
      slots := s.publishedSlots result, reasons := (Pos.all.foldl (State.publishSlot result) s).reasons.add .balance,
      picker := (s.completed result).picker, intakeRec := (s.completed result).intakeRec,
      retiring := s.retiring.mapWith fun _ c => c.filter fun r => !r.taken,
      carries := s.carries.mapWith fun _ c => c.restart,
      rejectVault := s.rejectVault.publish, intakeVault := s.intakeVault.publish,
      balance := s.forming.map fun b =>
        { b with number := nextCountNumber s.countPoint.number, result := result, failures := s.countPoint.failures },
      forming := none,
      wall := if s.countPoint.causes.start then { s.wall with service := true, starting := false } else s.wall,
      countPoint := s.countPoint.ended } := by
  unfold State.completed
  rw [State.publishSlots_frame]
  rfl

/-- A pending count point begins (R161). -/
def State.beginPending (s : State) : State :=
  if s.countPoint.pending then
    { s with countPoint := { s.countPoint with pending := false, pendingCauses := .empty, pendingRelease := .empty } }.enterQuiescing
      s.countPoint.pendingCauses s.countPoint.pendingRelease
  else s

theorem State.publish_eq (s : State) (result : CountResult) : s.publish result = (s.completed result).beginPending := rfl

/-- The start of a count point touches its record and the claims it recalls (R68, R115). -/
theorem State.beginPending_frame (s : State) :
    s.beginPending = { s with
      picker := s.beginPending.picker, gate := s.beginPending.gate, intakeRec := s.beginPending.intakeRec,
      headSent := s.beginPending.headSent, countPoint := s.countPoint.begun s.params.quiesceTimeout } := by
  unfold State.beginPending CountPoint.begun
  by_cases h : s.countPoint.pending = true
  · simp only [if_pos h]
    rw [State.enterQuiescing_frame]
  · simp only [if_neg h]

/-- A publish touches these records alone. -/
theorem State.publish_frame (s : State) (result : CountResult) :
    s.publish result = { s with
      slots := s.publishedSlots result, reasons := (Pos.all.foldl (State.publishSlot result) s).reasons.add .balance,
      picker := (s.publish result).picker, gate := (s.publish result).gate, intakeRec := (s.publish result).intakeRec,
      headSent := (s.publish result).headSent,
      retiring := s.retiring.mapWith fun _ c => c.filter fun r => !r.taken,
      carries := s.carries.mapWith fun _ c => c.restart,
      rejectVault := s.rejectVault.publish, intakeVault := s.intakeVault.publish,
      balance := s.forming.map fun b =>
        { b with number := nextCountNumber s.countPoint.number, result := result, failures := s.countPoint.failures },
      forming := none,
      wall := if s.countPoint.causes.start then { s.wall with service := true, starting := false } else s.wall,
      countPoint := s.countPoint.ended.begun s.params.quiesceTimeout } := by
  rw [State.publish_eq, State.beginPending_frame, State.completed_frame]

/-- A slot at a publish, by the table of R168 and R169. -/
theorem Slot.publish_rows (x : Slot) (result : CountResult) (written inRelease : Bool) (committed : Nat) :
    let decided := inRelease && decide (x.state = .releasePending)
    ({ x.publish result written inRelease with committed := committed } : Slot) =
      if x.state.live then
        { x with
          base := x.count, pickedOut := 0, storedIn := 0, unverified := x.unverified && !written,
          markOwed := x.markOwed || written, reviewed := x.reviewed || (x.uncertain && decide (result = .clean)),
          state := if decided then (if written then .unlocked else x.prior.getD .inService) else x.state,
          prior := if decided then none else x.prior, committed := committed }
      else { x with committed := committed } := by
  unfold Slot.publish
  simp only [Bool.and_eq_true_iff, decide_eq_true_iff]
  split <;> rfl

theorem CountPoint.begun_idle {c : CountPoint} (h : c.pending = false) (timeout : Nat) : c.begun timeout = c :=
  if_neg (by rw [h]; decide)

theorem CountPoint.begun_pending {c : CountPoint} (h : c.pending = true) (timeout : Nat) :
    c.begun timeout = { c with pending := false, pendingCauses := .empty, pendingRelease := .empty }.entersQuiescing timeout
      c.pendingCauses c.pendingRelease := if_pos h

/-- What neither the end of a count point nor the start of the next one changes in the record. -/
theorem CountPoint.ended_begun (c : CountPoint) (timeout : Nat) :
    let e := c.ended.begun timeout
    e.number = nextCountNumber c.number ∧ e.writeBack = .empty ∧ e.written = .empty ∧ e.settled = 0
      ∧ e.writtenOff = c.writtenOff.restart ∧ e.storedAfter = c.storedAfter.restart := by
  intro e
  simp only [e]
  unfold CountPoint.begun
  split <;> exact ⟨rfl, rfl, rfl, rfl, rfl, rfl⟩

theorem State.publish_slot (s : State) (result : CountResult) (q : Pos) :
    (s.publish result).reform.slot q =
      { (s.slot q).publish result (s.countPoint.written.get q) (s.countPoint.release.get q) with
        committed := (s.publish result).reform.committedAt q } := by
  have published : (s.publish result).slot q =
      (s.slot q).publish result (s.countPoint.written.get q) (s.countPoint.release.get q) := by
    rw [State.slot, State.publish_frame]
    exact PerPos_get_mapWith _ _ q
  rw [State.reform_slot, State.reform_committedAt, published]

/-- What a publish leaves (R168). -/
theorem State.publish_publishes {b : Balance} (hb : s.forming = some b) (result : CountResult) :
    s.publishes (s.publish result).reform s.slots b result s.countPoint.failures s.countPoint.written s.countPoint.release := by
  have frame := s.publish_frame result
  have point : (s.publish result).countPoint = s.countPoint.ended.begun s.params.quiesceTimeout := by rw [frame]
  have balance : (s.publish result).balance = some
      { b with number := nextCountNumber s.countPoint.number, result := result, failures := s.countPoint.failures } := by
    rw [frame, hb]
    rfl
  have forming : (s.publish result).forming = none := by rw [frame]
  have placed : (s.publish result).reasons.balance = true := by rw [frame]; rfl
  have wall : (s.publish result).wall = (if s.countPoint.causes.start then
      { s.wall with service := true, starting := false } else s.wall) := by rw [frame]
  obtain ⟨number, writeBack, written, settled, -, -⟩ := s.countPoint.ended_begun s.params.quiesceTimeout
  rw [← point] at number writeBack written settled
  refine ⟨balance, forming, number, writeBack, written, settled, placed, fun h => ?_, fun h => ?_, wall, fun q => ?_⟩
  · rw [State.reform_countPoint, point, CountPoint.begun_idle (c := s.countPoint.ended) h]
    exact ⟨rfl, rfl, rfl, rfl⟩
  · rw [State.reform_countPoint, point, CountPoint.begun_pending (c := s.countPoint.ended) h]
    exact ⟨rfl, rfl, rfl, rfl, rfl, rfl, rfl, rfl⟩
  · rw [State.publish_slot]
    exact Slot.publish_rows _ _ _ _ _

/-- The figures since the last publish restart (R168). -/
theorem State.publish_restarts (s : State) (result : CountResult) :
    s.restartsFigures (s.publish result).reform
      ∧ ∀ q, (s.publish result).reform.retiring.get q = (s.retiring.get q).filter (fun r => !r.taken)
        ∧ (s.publish result).reform.carries.get q = (s.carries.get q).restart := by
  have frame := s.publish_frame result
  obtain ⟨-, -, -, -, off, after⟩ := s.countPoint.ended_begun s.params.quiesceTimeout
  refine ⟨⟨?_, ?_, ?_, ?_⟩, fun q => ⟨?_, ?_⟩⟩
  · rw [State.reform_rejectVault, frame]; rfl
  · rw [State.reform_intakeVault, frame]; rfl
  · rw [State.reform_countPoint, frame]; exact off
  · rw [State.reform_countPoint, frame]; exact after
  · rw [State.reform_retiring, frame]; exact PerPos_get_mapWith _ _ q
  · rw [State.reform_carries, frame]; exact PerPos_get_mapWith _ _ q

/-- What a publish reads of the wall and of the count point that it ends. -/
def State.publishView (s : State) : Nat × Bool × CauseSet × CauseSet × PosSet × Params × Wall :=
  (s.countPoint.number, s.countPoint.pending, s.countPoint.causes, s.countPoint.pendingCauses, s.countPoint.pendingRelease,
    s.params, s.wall)

/-- A publish told from another state with the same count point and wall, and with the slots but for their committed notes. -/
theorem State.publishes_of_same {slots slots' : PerPos Slot} {b : Balance} {failures written release : PosSet}
    (h : t.publishes u slots b result failures written release) (hv : t.publishView = s.publishView)
    (hs : ∀ q, slots'.get q = { slots.get q with committed := (slots'.get q).committed }) :
    s.publishes u slots' b result failures written release := by
  simp only [State.publishView, Prod.mk.injEq] at hv
  obtain ⟨number, pending, causes, pendingCauses, pendingRelease, params, wall⟩ := hv
  unfold State.publishes at h ⊢
  rw [number, pending, causes, pendingCauses, pendingRelease, params, wall] at h
  obtain ⟨h1, h2, h3, h4, h5, h6, h7, h8, h9, h10, hq⟩ := h
  refine ⟨h1, h2, h3, h4, h5, h6, h7, h8, h9, h10, fun q => ?_⟩
  dsimp only
  rw [hs q]
  exact hq q

theorem State.restartsFigures_of_same (h : t.restartsFigures u) (hr : t.rejectVault = s.rejectVault)
    (hi : t.intakeVault = s.intakeVault) (ho : t.countPoint.writtenOff = s.countPoint.writtenOff)
    (ha : t.countPoint.storedAfter = s.countPoint.storedAfter) : s.restartsFigures u := by
  unfold State.restartsFigures at h ⊢
  rw [hr, hi, ho, ha] at h
  exact h

/-! ### The outcome of a count write-back (R167) -/

theorem PosSet.isEmpty_iff {x : PosSet} : x.isEmpty = true ↔ x = .empty := by
  obtain ⟨a, b, c, d⟩ := x
  unfold PosSet.isEmpty PosSet.empty PerPos.const
  simp [and_assoc]

theorem CountPoint.resultOf_eq (c : CountPoint) : c.resultOf = if c.failures = .empty then .clean else .tagWriteFailed := by
  unfold CountPoint.resultOf
  exact if_congr PosSet.isEmpty_iff rfl rfl

/-- The count point record with an outcome. -/
def CountPoint.takeOutcome (c : CountPoint) (p : Pos) (ok : Bool) : CountPoint :=
  { c with writeBack := c.writeBack.set p false, written := if ok then c.written.set p true else c.written,
           failures := if ok then c.failures else c.failures.set p true }

theorem State.handWriteBack_eq (s : State) (p : Pos) (ok : Bool) :
    s.handWriteBack p ok = State.publishIfWritten { s with countPoint := s.countPoint.takeOutcome p ok } := rfl

theorem State.publishIfWritten_empty (hs : s.countPoint.state = .balancing) (hw : s.countPoint.writeBack = .empty) :
    s.publishIfWritten = s.publish s.countPoint.resultOf :=
  if_pos ⟨hs, PosSet.isEmpty_iff.2 hw⟩

theorem State.publishIfWritten_more (hw : s.countPoint.writeBack.get q = true) : s.publishIfWritten = s := by
  refine if_neg fun h => ?_
  rw [PosSet.isEmpty_iff.1 h.2, PosSet.empty, PerPos_get_const] at hw
  cases hw

/-- An outcome with a further position to write back publishes nothing. -/
theorem State.handWriteBack_more (hq : q ≠ p) (hw : s.countPoint.writeBack.get q = true) (ok : Bool) :
    s.handWriteBack p ok = { s with countPoint := s.countPoint.takeOutcome p ok } := by
  rw [State.handWriteBack_eq]
  exact State.publishIfWritten_more (q := q) ((PerPos_get_set_of_ne _ _ hq).trans hw)

/-- With a failure the result is TAG_WRITE_FAILED. -/
theorem CountPoint.takeOutcome_failed (c : CountPoint) (p : Pos) : ¬ (c.takeOutcome p false).failures = .empty := by
  intro h
  have failed : (c.takeOutcome p false).failures.get p = true := PerPos_get_set_self _ _ _
  rw [h, PosSet.empty, PerPos_get_const] at failed
  cases failed

/-- The last outcome publishes. -/
theorem State.handWriteBack_last (hs : s.countPoint.state = .balancing) (hw : ∀ q, q ≠ p → s.countPoint.writeBack.get q = false)
    (ok : Bool) :
    s.handWriteBack p ok =
      State.publish { s with countPoint := s.countPoint.takeOutcome p ok }
        (if (s.countPoint.takeOutcome p ok).failures = .empty then .clean else .tagWriteFailed) := by
  rw [State.handWriteBack_eq, ← CountPoint.resultOf_eq]
  refine State.publishIfWritten_empty hs (PerPos_ext fun q => ?_)
  change (s.countPoint.writeBack.set p false).get q = (PerPos.const false).get q
  rw [PerPos_get_const]
  by_cases h : q = p
  · subst h
    exact PerPos_get_set_self _ _ _
  · rw [PerPos_get_set_of_ne _ _ h, hw q h]

/-! ### TAG_WRITE_END (R40) -/

/-- The slot and the line after a tag write. -/
def State.tagWritten (s : State) (p : Pos) (image : List Byte) (ok clears : Bool) : State :=
  (s.putSlot p ((s.slot p).afterWrite image ok clears)).endTransfer

section TagWritten
variable {image : List Byte} {ok : Bool} {tries : List TagTry}

theorem State.exec_markWritten (hf : s.tagLink.inFlight = some ⟨⟨.markWrite, p⟩, image⟩) (ho : writeOutcome image tries = some ok) :
    exec (.tagWriteEnd tries) s = .next (s.tagWritten p image ok false).reform := by
  change execTagWriteEnd tries s = _
  unfold execTagWriteEnd
  rw [hf]
  simp only [ho]
  rfl

theorem State.exec_countWritten {number : Nat} (hf : s.tagLink.inFlight = some ⟨⟨.countWriteBack number, p⟩, image⟩)
    (ho : writeOutcome image tries = some ok) :
    exec (.tagWriteEnd tries) s = .next ((s.tagWritten p image ok true).handWriteBack p ok).reform := by
  change execTagWriteEnd tries s = _
  unfold execTagWriteEnd
  rw [hf]
  simp only [ho]
  rfl

theorem State.tagWritten_frame (s : State) (p : Pos) (image : List Byte) (ok clears : Bool) :
    s.tagWritten p image ok clears = { s.putSlot p ((s.slot p).afterWrite image ok clears) with
      tagLink := (s.tagWritten p image ok clears).tagLink } := State.endTransfer_frame _

/-- The slot of a cassette with counts after a tag write (R40). -/
theorem Slot.afterWrite_live {x : Slot} {k : Identity} (hk : x.identity = some k) (hl : x.state.live = true) (clears : Bool) :
    x.afterWrite image ok clears =
      { x with identity := some (if ok then { k with image := image } else k),
               tagStale := if ok then x.tagStale && !clears else true } := by
  unfold Slot.afterWrite
  cases ok
  · rw [if_neg Bool.false_ne_true, if_neg Bool.false_ne_true, if_neg Bool.false_ne_true, hl, Bool.or_true, ← hk]
  · rw [if_pos rfl, hk]
    rfl

/-- What a tag write leaves, with the count point record that its requester makes of its outcome (R38, R40, R192). -/
theorem State.tagWritten_leaves {kind : TransferKind} (clears : Bool) (c : CountPoint) {k : Identity}
    (hk : (s.slot p).identity = some k) (hl : (s.slot p).state.live = true)
    (hclears : clears = !decide (kind = .markWrite)) :
    let t := State.reform { s.tagWritten p image ok clears with countPoint := c }
    t.tagLink.queue = s.tagLink.queue.tail ∧ t.tagLink.inFlight.map InFlight.transfer = s.tagLink.queue.head?
      ∧ t.slot p = { s.slot p with
          committed := s.committedAt p,
          identity := some (if ok then { k with image := image } else k),
          tagStale := if ok then (s.slot p).tagStale && decide (kind = .markWrite) else true }
      ∧ (∀ q, q ≠ p → t.slot q = { s.slot q with committed := s.committedAt q })
      ∧ ∀ x rest k', s.tagLink.queue = x :: rest → (t.slot x.position).identity = some k' →
          ∃ new, t.tagLink.inFlight = some ⟨x, new⟩ ∧ writesTag x.kind (t.slot x.position).count k'.image new := by
  intro t
  let u := s.putSlot p ((s.slot p).afterWrite image ok clears)
  have formed (q : Pos) : t.slot q = { u.slot q with committed := s.committedAt q } := by
    simp only [t]
    rw [State.reform_slot, State.tagWritten_frame]
    rfl
  obtain ⟨queue, flight⟩ := State.pumpTags_free (s := { u with tagLink := { u.tagLink with inFlight := none } }) rfl
  refine ⟨queue, flight, ?_, fun q hq => ?_, fun x rest k' hq hi => ?_⟩
  · rw [formed, State.putSlot_slot, Slot.afterWrite_live hk hl, hclears, Bool.not_not]
  · rw [formed, State.putSlot_slot_of_ne _ _ hq]
  · rw [formed] at hi ⊢
    exact ⟨_, State.pumpTags_image (s := { u with tagLink := { u.tagLink with inFlight := none } }) rfl hq hi,
      writesTag_writeImage _ _ _⟩

end TagWritten

/-! ### A removal that cuts a count write-back (R38, R167) -/

theorem State.exec_removal_cut (h : (s.slot p).state ≠ .absent) (hw : s.writeBackOf p = true) :
    exec (.cassetteRemoval p) s = .next ((s.remove p).handWriteBack p false).reform := by
  change execCassetteRemoval p s = _
  unfold execCassetteRemoval
  rw [if_neg h, if_pos hw]

/-- The count point record after a removal, which takes the position from its sets (log entry 24). -/
theorem State.remove_countPoint (s : State) (p : Pos) :
    (s.remove p).countPoint =
      { s.countPoint with release := s.countPoint.release.set p false,
                          pendingRelease := s.countPoint.pendingRelease.set p false,
                          written := s.countPoint.written.set p false } := by
  rw [State.remove_frame, State.drawnOut_frame]

theorem State.remove_slot (s : State) (p : Pos) : (s.remove p).slot p = { Slot.empty with committed := (s.slot p).committed } := by
  rw [State.remove_frame]
  exact s.drawnOut_slot p

theorem State.remove_slot_of_ne (s : State) (h : q ≠ p) : (s.remove p).slot q = s.slot q := by
  rw [State.remove_frame]
  exact s.drawnOut_slot_of_ne h

theorem State.remove_transfersOf (s : State) (p : Pos) : (s.remove p).transfersOf p = [] := by
  rw [State.remove_frame]
  exact State.cutTags_transfersOf _ _

/-- What a removal leaves of the records that a publish speaks of. -/
theorem State.remove_keeps (s : State) (p : Pos) :
    (s.remove p).forming = s.forming ∧ (s.remove p).params = s.params ∧ (s.remove p).wall = s.wall
      ∧ (s.remove p).rejectVault = s.rejectVault ∧ (s.remove p).intakeVault = s.intakeVault := by
  rw [State.remove_frame, State.drawnOut_frame]
  exact ⟨rfl, rfl, rfl, rfl, rfl⟩

/-- Settles O23. -/
theorem tagWriteEndSetsTheSlotAndPublishes : Obligations.TagWriteEndSetsTheSlotAndPublishes := by
  refine ⟨fun p kind tries image ok k s hf hn ho hk hl hm => ?_, fun p number tries image ok k b s hf ho hk hl hs hw hb => ?_,
    fun p s h hw hs => ?_⟩
  · cases kind with
    | identityRead => exact absurd rfl hn
    | markWrite =>
      obtain ⟨queue, flight, slot, others, new⟩ := State.tagWritten_leaves (s := s) (image := image) (ok := ok) (kind := .markWrite)
        false s.countPoint hk hl rfl
      have frame := s.tagWritten_frame p image ok false
      have same : ({ s.tagWritten p image ok false with countPoint := s.countPoint } : State) = s.tagWritten p image ok false := by
        rw [frame]
        rfl
      rw [same] at queue flight slot others new
      refine ⟨_, State.exec_markWritten hf ho, queue, flight, slot, others, ?_, new⟩
      rw [State.reform_countPoint, frame]
      rfl
    | countWriteBack number =>
      obtain ⟨q, hq, hw⟩ := hm number rfl
      have point : (s.tagWritten p image ok true).countPoint = s.countPoint := by rw [State.tagWritten_frame]; rfl
      obtain ⟨queue, flight, slot, others, new⟩ := State.tagWritten_leaves (s := s) (image := image) (ok := ok)
        (kind := .countWriteBack number) true (s.countPoint.takeOutcome p ok) hk hl rfl
      have run := State.exec_countWritten hf ho
      rw [State.handWriteBack_more hq (by rw [point]; exact hw), point] at run
      exact ⟨_, run, queue, flight, slot, others, rfl, new⟩
  · intro failures written x
    let v : State := { s.tagWritten p image ok true with countPoint := s.countPoint.takeOutcome p ok }
    let result : CountResult := if (s.countPoint.takeOutcome p ok).failures = .empty then .clean else .tagWriteFailed
    have frame := s.tagWritten_frame p image ok true
    have run : exec (.tagWriteEnd tries) s = .next (v.publish result).reform := by
      have point : (s.tagWritten p image ok true).countPoint = s.countPoint := by rw [frame]; rfl
      have last (q : Pos) (hq : q ≠ p) : (s.tagWritten p image ok true).countPoint.writeBack.get q = false := by
        rw [point, hw, PosSet.single, PerPos_get_set_of_ne _ _ hq]
        exact PerPos_get_const _ _
      rw [State.exec_countWritten hf ho, State.handWriteBack_last (by rw [point]; exact hs) last, point]
    have slots : v.slots = s.slots.set p x := by
      simp only [v]
      rw [frame, Slot.afterWrite_live hk hl]
      cases ok
      · rfl
      · exact congrArg (fun b => s.slots.set p { s.slot p with identity := _, tagStale := b }) (Bool.and_false _)
    have keeps : v.forming = s.forming ∧ v.publishView = s.publishView ∧ v.rejectVault = s.rejectVault
        ∧ v.intakeVault = s.intakeVault ∧ v.retiring = s.retiring ∧ v.carries = s.carries := by
      simp only [v]
      rw [frame]
      exact ⟨rfl, rfl, rfl, rfl, rfl, rfl⟩
    obtain ⟨forming, view, reject, intake, copies, carries⟩ := keeps
    have published := State.publish_publishes (forming.trans hb) result
    obtain ⟨restarts, taken⟩ := v.publish_restarts result
    refine ⟨_, run, State.publishes_of_same published view fun q => by rw [slots],
      State.restartsFigures_of_same restarts reject intake rfl rfl, fun q => ?_⟩
    obtain ⟨left, restarted⟩ := taken q
    rw [copies] at left
    rw [carries] at restarted
    exact ⟨left, restarted⟩
  · have point := s.remove_countPoint p
    have run := State.exec_removal_cut h hw
    by_cases more : ∃ q, q ≠ p ∧ s.countPoint.writeBack.get q = true
    · obtain ⟨q, hq, hwq⟩ := more
      rw [State.handWriteBack_more hq (by rw [point]; exact hwq), point] at run
      refine ⟨_, run, ?_, s.remove_transfersOf p, fun _ _ _ => ⟨hs, rfl, rfl, rfl, rfl⟩, fun b none _ => ?_⟩
      · rw [State.reform_slot]
        exact congrArg Slot.state (s.remove_slot p)
      · rw [none q hq] at hwq
        cases hwq
    · have last (q : Pos) (hq : q ≠ p) : (s.remove p).countPoint.writeBack.get q = false := by
        rw [point]
        exact Bool.eq_false_iff.2 fun hwq => more ⟨q, hq, hwq⟩
      let v : State := { s.remove p with countPoint := (s.remove p).countPoint.takeOutcome p false }
      have ended : exec (.cassetteRemoval p) s = .next (v.publish .tagWriteFailed).reform := by
        rw [run, State.handWriteBack_last (by rw [point]; exact hs) last, if_neg (CountPoint.takeOutcome_failed _ _)]
      obtain ⟨forming, params, wall, reject, intake⟩ := s.remove_keeps p
      have counted : v.countPoint =
          { s.countPoint with
            release := s.countPoint.release.set p false, pendingRelease := s.countPoint.pendingRelease.set p false,
            written := s.countPoint.written.set p false, writeBack := s.countPoint.writeBack.set p false,
            failures := s.countPoint.failures.set p true } := by
        simp only [v, point]
        rfl
      have slots (q : Pos) : (s.slots.set p Slot.empty).get q =
          { v.slots.get q with committed := ((s.slots.set p Slot.empty).get q).committed } := by
        have kept : v.slots.get q = (s.remove p).slot q := rfl
        rw [kept]
        by_cases hq : q = p
        · subst hq
          rw [s.remove_slot q, PerPos_get_set_self]
        · rw [s.remove_slot_of_ne hq, PerPos_get_set_of_ne _ _ hq]
          rfl
      have absent : ((v.publish .tagWriteFailed).reform.slot p).state = .absent := by
        have cleared : v.slot p = { Slot.empty with committed := (s.slot p).committed } := s.remove_slot p
        rw [State.publish_slot, cleared]
        rfl
      refine ⟨_, ended, absent, ?_, fun q hq hwq => absurd ⟨q, hq, hwq⟩ more, fun b _ hb => ?_⟩
      · rw [State.publish_frame]
        exact s.remove_transfersOf p
      · intro cut
        have published := State.publish_publishes (s := v) (forming.trans hb) .tagWriteFailed
        have restarts := (v.publish_restarts .tagWriteFailed).1
        rw [counted] at published
        refine ⟨State.publishes_of_same published ?_ slots, State.restartsFigures_of_same restarts reject intake ?_ ?_⟩
        · unfold State.publishView
          rw [counted]
          simp only [v, cut, params, wall]
        · rw [counted]
        · rw [counted]

end Sys2Proof.Machine
end

section
/-! PROOFS. The count point at quiet and at the end of its timer (R164 to R168): the balance record, the write-backs asked of the Tag
Link, and the publish without them. -/

namespace Sys2Proof.Machine

variable {s t u : State} {p q : Pos} {number : Nat}

/-! ### Quiet (R164) -/

theorem State.quiet_eq (s : State) :
    s.quiet =
      (decide (s.picker.state ≠ .feeding) && decide (s.picker.state ≠ .waitingGate) && decide (s.route = .free)
        && decide (s.staging.purge ≠ .running) && decide (s.gate.granted = none)
        && !(decide (s.intakeRec.state = .placing)
              && decide (s.intakeRec.destination = some .cassetteD ∨ s.intakeRec.destination = some .vault))) := by
  unfold State.quiet State.dispenseAtRest State.placingNote
  rw [Bool.decide_or]
  ac_rfl

/-! ### The write-backs asked (R166) -/

/-- What asking write-backs of the Tag Link touches. -/
theorem State.askWriteBacks_frame (s : State) (set : PosSet) (number : Nat) :
    s.askWriteBacks set number = { s with tagLink := (s.askWriteBacks set number).tagLink } := by
  have one (u : State) (p : Pos) : (if set.get p then u.askTag (.countWriteBack number) p else u) =
      { u with tagLink := (if set.get p then u.askTag (.countWriteBack number) p else u).tagLink } := by
    split
    · exact State.askTag_frame _ _ _
    · rfl
  have all (ps : List Pos) (u : State) :
      ps.foldl (fun u p => if set.get p then u.askTag (.countWriteBack number) p else u) u =
        { u with tagLink :=
            (ps.foldl (fun u p => if set.get p then u.askTag (.countWriteBack number) p else u) u).tagLink } := by
    induction ps generalizing u with
    | nil => rfl
    | cons p ps ih =>
      rw [List.foldl_cons, ih, one]
  exact all _ _

/-- Whether a transfer is a count write-back of a position. -/
def Transfer.writesBack (p : Pos) (x : Transfer) : Bool := Transfer.joins ⟨.countWriteBack 0, p⟩ x

theorem Transfer.joins_countWriteBack (x : Transfer) : Transfer.joins ⟨.countWriteBack number, p⟩ x = x.writesBack p := by
  obtain ⟨kind, position⟩ := x
  cases kind <;> rfl

theorem Transfer.writesBack_of_ne {x : Transfer} (h : x.position ≠ p) : x.writesBack p = false := by
  unfold Transfer.writesBack Transfer.joins
  rw [decide_eq_false (Ne.symm h), Bool.false_and]

/-- A position with no write-back waiting or in flight. -/
theorem State.writeBackOf_false (h : s.writeBackOf p = false) {x : Transfer} (hx : x ∈ s.transfers) : x.writesBack p = false := by
  by_cases hp : x.position = p
  · unfold State.writeBackOf at h
    have other := List.any_eq_false.1 h x (State.mem_transfersOf.2 ⟨hx, hp⟩)
    obtain ⟨kind, position⟩ := x
    cases kind
    case countWriteBack n => exact absurd rfl other
    all_goals
      unfold Transfer.writesBack Transfer.joins
      exact Bool.and_false _
  · exact Transfer.writesBack_of_ne hp

/-- The write-backs stand behind what waits, in the order A to D. -/
theorem State.askWriteBacks_transfers {set : PosSet} (h : ∀ p, s.writeBackOf p = false) :
    (s.askWriteBacks set number).transfers =
      s.transfers ++ (Pos.all.filter set.get).map fun p => ⟨.countWriteBack number, p⟩ := by
  have all (ps : List Pos) (hn : ps.Nodup) (u : State) (hu : ∀ p ∈ ps, ∀ x ∈ u.transfers, x.writesBack p = false) :
      (ps.foldl (fun u p => if set.get p then u.askTag (.countWriteBack number) p else u) u).transfers =
        u.transfers ++ (ps.filter set.get).map fun p => ⟨.countWriteBack number, p⟩ := by
    induction ps generalizing u with
    | nil => exact (List.append_nil _).symm
    | cons p ps ih =>
      obtain ⟨hp, hn⟩ := List.nodup_cons.1 hn
      rw [List.foldl_cons]
      by_cases hset : set.get p = true
      · have asked := (State.askTag_transfers (s := u) (kind := .countWriteBack number) (p := p)
          fun x hx => (Transfer.joins_countWriteBack x).trans (hu p List.mem_cons_self x hx)).2
        rw [if_pos hset, ih hn, asked, List.filter_cons_of_pos hset, List.map_cons, List.append_assoc]
        · rfl
        · intro q hq x hx
          rw [asked] at hx
          rcases List.mem_append.1 hx with hx | hx
          · exact hu q (List.mem_cons_of_mem _ hq) x hx
          · rw [List.mem_singleton.1 hx]
            exact Transfer.writesBack_of_ne fun e : p = q => hp (e ▸ hq)
      · rw [if_neg hset, List.filter_cons_of_neg hset]
        exact ih hn u fun q hq => hu q (List.mem_cons_of_mem _ hq)
  exact all Pos.all (by decide) s fun p _ x hx => State.writeBackOf_false (h p) hx

/-- The write on the line has the image of its position with its own bytes changed (R40, R192). -/
def State.imageRight (s : State) : Prop :=
  ∀ x new k, s.tagLink.inFlight = some ⟨x, new⟩ → (s.slot x.position).identity = some k →
    writesTag x.kind (s.slot x.position).count k.image new

theorem State.imageRight_pumpTags (h : s.imageRight) : s.pumpTags.imageRight := by
  intro x new k hf hk
  have same (r : Pos) : s.pumpTags.slot r = s.slot r := by rw [State.pumpTags_frame]; rfl
  rw [same] at hk ⊢
  cases hs : s.tagLink.inFlight with
  | some f =>
    rw [State.pumpTags_busy hs] at hf
    exact h x new k hf hk
  | none =>
    cases hq : s.tagLink.queue with
    | nil =>
      have idle := (State.pumpTags_free hs).2
      rw [hf, hq] at idle
      cases idle
    | cons y rest =>
      have next := (State.pumpTags_free hs).2
      rw [hf, hq] at next
      obtain rfl : x = y := Option.some.inj next
      rw [State.pumpTags_image hs hq hk] at hf
      cases hf
      exact writesTag_writeImage _ _ _

theorem State.imageRight_askTag (h : s.imageRight) (kind : TransferKind) (p : Pos) : (s.askTag kind p).imageRight := by
  unfold State.askTag
  dsimp only
  split
  · exact h
  · exact State.imageRight_pumpTags h

theorem State.imageRight_askWriteBacks (h : s.imageRight) (set : PosSet) (number : Nat) :
    (s.askWriteBacks set number).imageRight := by
  have all (ps : List Pos) (u : State) (hu : u.imageRight) :
      (ps.foldl (fun u p => if set.get p then u.askTag (.countWriteBack number) p else u) u).imageRight := by
    induction ps generalizing u with
    | nil => exact hu
    | cons p ps ih =>
      rw [List.foldl_cons]
      refine ih _ ?_
      split
      · exact State.imageRight_askTag hu _ _
      · exact hu
  exact all _ _ h

/-! ### The balance moment and the publish that is one (R166, R168) -/

/-- With a balance moment just before it a publish restarts every figure from 0. -/
theorem State.publish_startsPeriod {notAtRest : NotAtRest} {c : CountPoint} (result : CountResult)
    (hw : c.writtenOff = s.countPoint.writtenOff.markMoment) (ha : c.storedAfter = s.countPoint.storedAfter.markMoment) :
    s.startsPeriod (State.publish { s.balanceMoment notAtRest with countPoint := c } result).reform := by
  let v : State := { s.balanceMoment notAtRest with countPoint := c }
  obtain ⟨⟨reject, intake, off, after⟩, taken⟩ := v.publish_restarts result
  refine ⟨reject, intake, off.trans (by rw [hw]; rfl), after.trans (by rw [ha]; rfl), fun p => ?_, fun p => ?_⟩
  · refine (taken p).1.trans ?_
    have copies : v.retiring.get p = (s.retiring.get p).map fun r => { r with taken := true } := PerPos_get_mapWith _ _ p
    rw [copies]
    cases s.retiring.get p <;> rfl
  · refine (taken p).2.trans ?_
    have carries : v.carries.get p = (s.carries.get p).markMoment := PerPos_get_mapWith _ _ p
    rw [carries]
    rfl

/-! ### The count point at quiet and at its timer's expiry -/

theorem State.exec_quietFound (h : s.countPoint.state = .quiescing ∧ s.quiet = true) :
    exec .quietFound s =
      .next ((s.balanced.askWriteBacks s.writeBackSet (nextCountNumber s.countPoint.number)).publishIfWritten).reform := by
  change execQuietFound s = _
  unfold execQuietFound
  rw [if_pos h, State.enterBalancing_eq]

theorem State.writeBackSet_get (s : State) (p : Pos) :
    s.writeBackSet.get p =
      decide ((s.slot p).state = .inService ∨ (s.slot p).state = .suspended ∨ (s.slot p).state = .releasePending) :=
  PerPos_get_mapWith _ _ p

/-- With no position to write back nothing is asked. -/
theorem State.askWriteBacks_none {set : PosSet} (h : ∀ p, set.get p = false) : s.askWriteBacks set number = s := by
  unfold State.askWriteBacks
  simp only [h, Bool.false_eq_true, if_false]
  exact List.foldl_fixed _

/-- Settles O51. -/
theorem countPointBalancesOrTimesOut : Obligations.CountPointBalancesOrTimesOut := by
  refine ⟨fun s => ?_, fun s => ⟨fun h => ?_, fun h => ?_⟩⟩
  · intro rest
    have quiet : s.quiet = rest := s.quiet_eq
    refine ⟨fun h => ?_, fun hs hr q hq => ?_, fun hs hr none => ?_⟩
    · change execQuietFound s = _
      unfold execQuietFound
      refine if_neg fun both => ?_
      rcases h with h | h
      · exact h both.1
      · rw [quiet, h] at both
        cases both.2
    · have run := State.exec_quietFound ⟨hs, quiet.trans hr⟩
      let number := nextCountNumber s.countPoint.number
      let v := s.balanced.askWriteBacks s.writeBackSet number
      have frame : v = { s.balanced with tagLink := v.tagLink } := s.balanced.askWriteBacks_frame s.writeBackSet number
      have point : v.countPoint = s.balanced.countPoint := by rw [frame]
      have more : v.countPoint.writeBack.get q = true := by
        rw [point]
        exact (s.writeBackSet_get q).trans (decide_eq_true hq)
      rw [State.publishIfWritten_more more] at run
      have keeps : v.forming = s.balanced.forming ∧ v.balance = s.balance ∧ v.tickets = s.tickets ∧ v.slots = s.slots := by
        rw [frame]
        exact ⟨rfl, rfl, rfl, rfl⟩
      obtain ⟨forming, balance, tickets, slots⟩ := keeps
      refine ⟨v.reform, s.formBalance ⟨false, false, false, false⟩, run, congrArg CountPoint.state point,
        congrArg CountPoint.timer point, (congrArg CountPoint.failures point).trans rfl, fun p => ?_, forming, rfl, rfl, rfl, rfl, rfl, rfl, rfl,
        rfl, balance, tickets, (congrArg CountPoint.number point).trans rfl, ?_, fun x new k hf hi hq' hk => ?_⟩
      · rw [State.reform_countPoint, point]
        exact s.writeBackSet_get p
      · intro none
        have behind : v.transfers = _ := State.askWriteBacks_transfers (s := s.balanced) (set := s.writeBackSet) none
        rw [State.reform_countPoint, point]
        exact behind
      · have idle : s.balanced.imageRight := fun x new k hf => by
          have free : s.balanced.tagLink.inFlight = none := hi
          rw [free] at hf
          cases hf
        have right := State.imageRight_askWriteBacks idle s.writeBackSet number x new k hf
        change (v.slot x.position).identity = some k → writesTag x.kind (v.slot x.position).count k.image new at right
        rw [State.slot, slots] at right
        exact right hk
    · have empty : s.writeBackSet = .empty := PerPos_ext fun p => by
        obtain ⟨h1, h2, h3⟩ := none p
        rw [s.writeBackSet_get, PosSet.empty, PerPos_get_const]
        exact decide_eq_false (by simp [h1, h2, h3])
      have run := State.exec_quietFound ⟨hs, quiet.trans hr⟩
      rw [State.askWriteBacks_none (by rw [empty]; exact fun p => PerPos_get_const _ p),
        State.publishIfWritten_empty rfl empty, CountPoint.resultOf_eq] at run
      let result : CountResult := if s.countPoint.failures = .empty then .clean else .tagWriteFailed
      have published := State.publish_publishes (s := s.balanced) rfl result
      have starts : s.startsPeriod (s.balanced.publish result).reform := State.publish_startsPeriod result rfl rfl
      obtain ⟨reject, intake, -⟩ := id starts
      exact ⟨_, _, run, State.publishes_of_same published rfl fun q => rfl, starts, congrArg RejectVault.emptied reject,
        congrArg IntakeVault.emptied intake, rfl, rfl, rfl, rfl⟩
  · change execQuiesceTimerExpiry s = _
    unfold execQuiesceTimerExpiry
    exact if_neg h
  · let notAtRest : NotAtRest :=
      { picker := decide (s.picker.state = .feeding ∨ s.picker.state = .waitingGate), route := decide (s.route ≠ .free),
        purge := decide (s.staging.purge = .running), intake := s.placingNote }
    have run : exec .quiesceTimerExpiry s = .next ((s.balanceMoment notAtRest).publish .timedOut).reform := by
      change execQuiesceTimerExpiry s = _
      unfold execQuiesceTimerExpiry
      exact if_pos h
    have published := State.publish_publishes (s := s.balanceMoment notAtRest) rfl .timedOut
    have starts : s.startsPeriod ((s.balanceMoment notAtRest).publish .timedOut).reform :=
      State.publish_startsPeriod .timedOut rfl rfl
    obtain ⟨reject, intake, -⟩ := id starts
    have slot (p : Pos) : ((s.balanceMoment notAtRest).publish .timedOut).reform.slot p =
        { (s.slot p).publish .timedOut (s.countPoint.written.get p) (s.countPoint.release.get p) with
          committed := ((s.balanceMoment notAtRest).publish .timedOut).reform.committedAt p } :=
      State.publish_slot _ _ p
    refine ⟨_, _, run, State.publishes_of_same published rfl fun q => rfl, starts, congrArg RejectVault.emptied reject,
      congrArg IntakeVault.emptied intake, rfl, rfl, rfl, rfl, rfl, rfl, rfl, fun p live => ?_, fun p state release written => ?_⟩
    · rw [slot, Slot.publish, if_pos live]
      exact ⟨rfl, rfl, rfl, rfl⟩
    · have live : (s.slot p).state.live = true := by rw [state]; rfl
      rw [slot, Slot.publish, if_pos live, release, written]
      exact if_pos ⟨rfl, state⟩

end Sys2Proof.Machine
end

section
/-! PROOFS. CONFIGURE's checks, item by item (R181), the ranges of R182, and what an item in its range sets (R190). -/

namespace Sys2Proof.Machine

variable {s : State}

/-! ### The checks of R181 -/

/-- An item in its range, and allowed as the wall stands. -/
def Wall.allows (w : Wall) (x : ConfigItem) : Prop :=
  itemInRange x = true ∧ (setupOnly x = false ∨ w.service = false ∧ w.starting = false)

theorem Wall.checkItem_allowed {w : Wall} {x : ConfigItem} (h : w.allows x) : w.checkItem x = none := by
  obtain ⟨range, setup⟩ := h
  unfold Wall.checkItem
  rcases setup with setup | ⟨service, starting⟩
  · simp [range, setup]
  · simp [range, service, starting]

/-- The items that pass come to nothing, and the next one is checked. -/
theorem Wall.checkItems_append {w : Wall} {before : List ConfigItem} (h : ∀ y ∈ before, w.allows y) (after : List ConfigItem) :
    w.checkItems (before ++ after) = w.checkItems after := by
  induction before with
  | nil => rfl
  | cons y ys ih =>
    rw [List.cons_append, Wall.checkItems, Wall.checkItem_allowed (h y List.mem_cons_self)]
    exact ih fun z hz => h z (List.mem_cons_of_mem _ hz)

theorem Wall.checkItems_allowed {w : Wall} {items : List ConfigItem} (h : ∀ y ∈ items, w.allows y) : w.checkItems items = none := by
  rw [← List.append_nil items]
  exact Wall.checkItems_append h []

/-- CONFIGURE by its checks. -/
theorem State.configure_checks (h : s.frameBegun) {items : List ConfigItem} (hi : items ≠ []) :
    exec (.configure items) s =
      (s.wall.checkItems items).elim ((s.configured items).reform.answeredOk []) s.refusedWith := by
  refine (State.answer_respond h _).trans ?_
  rw [State.respond_need, if_pos (by simp [hi])]
  cases s.wall.checkItems items <;> rfl

/-- The first item that fails its check refuses the request. -/
theorem State.configure_refused (h : s.frameBegun) {before : List ConfigItem} (hb : ∀ y ∈ before, s.wall.allows y)
    {x : ConfigItem} {e : Status} (hx : s.wall.checkItem x = some e) (after : List ConfigItem) :
    exec (.configure (before ++ x :: after)) s = s.refusedWith e := by
  rw [State.configure_checks h (by simp), Wall.checkItems_append hb, Wall.checkItems, hx]
  rfl

/-! ### The ranges of R182 -/

theorem within_iff {low high n : Nat} : within low high n = true ↔ low ≤ n ∧ n ≤ high := decide_eq_true_iff

theorem AlarmClass.ofNat?_named (c : Nat) : (AlarmClass.ofNat? c).isSome = true ↔ c ≤ 4 := by
  by_cases h : c ≤ 4
  · interval_cases c <;> decide
  · obtain ⟨d, rfl⟩ : ∃ d, c = d + 5 := ⟨c - 5, by omega⟩
    exact ⟨nofun, fun k => absurd k h⟩

theorem classesNamed_iff {classes : List Nat} : classesNamed classes = true ↔ ∀ c ∈ classes, c ≤ 4 := by
  unfold classesNamed
  simp only [List.all_eq_true, AlarmClass.ofNat?_named]

theorem runWithin_iff {low high first k : Nat} :
    runWithin low high first k = true ↔ low ≤ first ∧ first ≤ high ∧ first + k ≤ high + 1 := by
  unfold runWithin
  rw [Bool.and_eq_true_iff, within_iff, decide_eq_true_iff, and_assoc]

/-- The items of SETUP alone. -/
theorem setupOnly_iff (x : ConfigItem) :
    setupOnly x = true ↔
      (∃ n, x = .laneCount n) ∨ (∃ n values, x = .denominations n values) ∨ (∃ n classes, x = .classTable n classes)
        ∨ ∃ n classes, x = .sourceClasses n classes := by
  cases x <;> simp [setupOnly]

/-! ### Runs of table entries (R181, R190) -/

section Run
variable {K T β : Type} {number : K → Nat} {f : T → Nat → List Nat → T} {put : T → K → Nat → T} {get : T → K → β}
  {entry : Nat → β} {inv : T → Prop} {low high : Nat}

/-- A run of entries put one after the other from a first one: each entry of the run is the value given for it, and every other
stays. -/
theorem get_run (nil : ∀ t n, f t n [] = t) (cons : ∀ t k v vs, f t (number k) (v :: vs) = f (put t k v) (number k + 1) vs)
    (keeps : ∀ t k v, inv t → inv (put t k v)) (self : ∀ t k v, inv t → get (put t k v) k = entry v)
    (other : ∀ t k j v, j ≠ k → get (put t k v) j = get t j) (inj : Function.Injective number)
    (named : ∀ n, low ≤ n → n ≤ high → ∃ k, number k = n) (values : List Nat) {n : Nat} {t : T} (h : inv t) (hl : low ≤ n)
    (hh : n + values.length ≤ high + 1) :
    inv (f t n values) ∧ ∀ j, get (f t n values) j =
      if n ≤ number j ∧ number j < n + values.length then entry (values.getD (number j - n) 0) else get t j := by
  induction values generalizing n t with
  | nil =>
    rw [nil]
    exact ⟨h, fun j => (if_neg (by simp)).symm⟩
  | cons v vs ih =>
    rw [List.length_cons] at hh
    obtain ⟨k, rfl⟩ := named n hl (by omega)
    obtain ⟨kept, rest⟩ := ih (keeps t k v h) (Nat.le_succ_of_le hl) (by omega)
    rw [cons]
    refine ⟨kept, fun j => ?_⟩
    rw [rest, List.length_cons]
    by_cases hj : j = k
    · subst hj
      rw [if_neg (by omega), if_pos (by omega), self t j v h, Nat.sub_self]
      rfl
    · have apart : number j ≠ number k := fun e => hj (inj e)
      by_cases inside : number k + 1 ≤ number j ∧ number j < number k + 1 + vs.length
      · have shift : number j - number k = (number j - (number k + 1)) + 1 := by omega
        rw [if_pos inside, if_pos (by omega), shift]
        rfl
      · rw [if_neg inside, if_neg (by omega), other t k j v hj]

end Run

theorem Code.number_injective : Function.Injective Code.number := fun c d h => by
  have := congrArg Code.ofNat? h
  rw [Code_ofNat_number, Code_ofNat_number] at this
  exact Option.some.inj this

theorem Code.exists_number {n : Nat} (h1 : 1 ≤ n) (h8 : n ≤ 8) : ∃ c : Code, c.number = n := by
  interval_cases n
  exacts [⟨.c1, rfl⟩, ⟨.c2, rfl⟩, ⟨.c3, rfl⟩, ⟨.c4, rfl⟩, ⟨.c5, rfl⟩, ⟨.c6, rfl⟩, ⟨.c7, rfl⟩, ⟨.c8, rfl⟩]

/-- The denomination table with a run of entries (R190). -/
theorem setDenominations_get (table : PerCode (Option Nat)) {n : Nat} {values : List Nat} (h1 : 1 ≤ n)
    (h9 : n + values.length ≤ 9) (c : Code) :
    (setDenominations table n values).get c =
      if n ≤ c.number ∧ c.number < n + values.length then
        (if values.getD (c.number - n) 0 = 0 then none else some (values.getD (c.number - n) 0))
      else table.get c :=
  (get_run (f := setDenominations) (put := fun t k v => t.set k (if v = 0 then none else some v)) (get := PerCode.get)
    (entry := fun v => if v = 0 then none else some v) (inv := fun _ => True) (fun _ _ => rfl)
    (fun t k v vs => by rw [setDenominations, Code_ofNat_number]) (fun _ _ _ _ => trivial)
    (fun t k v _ => PerCode_get_set_self t k _) (fun t k j v h => PerCode_get_set_of_ne t _ h) Code.number_injective
    (fun _ => Code.exists_number) values trivial h1 h9).2 c

theorem AlarmClass.rank_ofNat {c : Nat} (h : c ≤ 4) : ((AlarmClass.ofNat? c).getD .none).rank = c := by
  interval_cases c <;> rfl

/-- Every entry of a run of named classes is one of the five. -/
theorem rank_getD {classes : List Nat} (h : ∀ c ∈ classes, c ≤ 4) (i : Nat) :
    ((AlarmClass.ofNat? (classes.getD i 0)).getD .none).rank = classes.getD i 0 := by
  refine AlarmClass.rank_ofNat ?_
  by_cases hi : i < classes.length
  · rw [List.getD_eq_getElem _ _ hi]
    exact h _ (List.getElem_mem hi)
  · rw [List.getD_eq_default _ _ (not_lt.1 hi)]
    exact Nat.zero_le 4

/-- The class table with a run of entries. -/
theorem setClasses_get {table : List AlarmClass} (hl : table.length = 64) {n : Nat} {classes : List Nat}
    (h64 : n + classes.length ≤ 64) (hc : ∀ c ∈ classes, c ≤ 4) :
    (setClasses table n classes).length = 64
      ∧ ∀ i, i < 64 → ((setClasses table n classes).getD i .none).rank =
          if n ≤ i ∧ i < n + classes.length then classes.getD (i - n) 0 else (table.getD i .none).rank := by
  have run := get_run (K := Fin 64) (number := Fin.val) (f := setClasses) (low := 0) (high := 63)
    (put := fun t k v => t.set k ((AlarmClass.ofNat? v).getD .none)) (get := fun t k => (t.getD k .none).rank)
    (entry := fun v => ((AlarmClass.ofNat? v).getD .none).rank) (inv := fun t => t.length = 64) (fun _ _ => rfl)
    (fun _ _ _ _ => rfl) (fun t k v h => by rw [List.length_set, h])
    (fun t k v h => by simp [List.getD_eq_getElem?_getD, h])
    (fun t k j v h => by
      have apart : (k : Nat) ≠ j := fun e => h (Fin.ext e.symm)
      simp only [List.getD_eq_getElem?_getD, List.getElem?_set_ne apart])
    Fin.val_injective (fun n _ h => ⟨⟨n, by omega⟩, rfl⟩) classes hl (Nat.zero_le n) h64
  refine ⟨run.1, fun i hi => (run.2 ⟨i, hi⟩).trans ?_⟩
  rw [rank_getD hc]

theorem ownedOfNat_number (o : Owned) : ownedOfNat (AlarmSource.owned o).number = some o := by
  rcases o with l | l | p | _ | _
  · cases l <;> rfl
  · cases l <;> rfl
  · cases p <;> rfl
  · rfl
  · rfl

theorem Owned.number_injective : Function.Injective fun o : Owned => (AlarmSource.owned o).number := fun o k h => by
  have := congrArg ownedOfNat h
  simp only [ownedOfNat_number] at this
  exact Option.some.inj this

theorem Owned.exists_number {n : Nat} (h1 : 1 ≤ n) (h22 : n ≤ 22) : ∃ o : Owned, (AlarmSource.owned o).number = n := by
  interval_cases n
  exacts [⟨.laneTamper .l1, rfl⟩, ⟨.laneTamper .l2, rfl⟩, ⟨.laneTamper .l3, rfl⟩, ⟨.laneTamper .l4, rfl⟩,
    ⟨.laneTamper .l5, rfl⟩, ⟨.laneTamper .l6, rfl⟩, ⟨.laneTamper .l7, rfl⟩, ⟨.laneTamper .l8, rfl⟩,
    ⟨.lineFault .l1, rfl⟩, ⟨.lineFault .l2, rfl⟩, ⟨.lineFault .l3, rfl⟩, ⟨.lineFault .l4, rfl⟩,
    ⟨.lineFault .l5, rfl⟩, ⟨.lineFault .l6, rfl⟩, ⟨.lineFault .l7, rfl⟩, ⟨.lineFault .l8, rfl⟩,
    ⟨.cassetteTamper .a, rfl⟩, ⟨.cassetteTamper .b, rfl⟩, ⟨.cassetteTamper .c, rfl⟩, ⟨.cassetteTamper .d, rfl⟩,
    ⟨.rejectFull, rfl⟩, ⟨.intakeFull, rfl⟩]

/-- The source classes with a run of entries. -/
theorem setSources_get (table : PerOwned AlarmClass) {n : Nat} {classes : List Nat} (h1 : 1 ≤ n)
    (h23 : n + classes.length ≤ 23) (hc : ∀ c ∈ classes, c ≤ 4) (o : Owned) :
    ((setSources table n classes).get o).rank =
      if n ≤ (AlarmSource.owned o).number ∧ (AlarmSource.owned o).number < n + classes.length then
        classes.getD ((AlarmSource.owned o).number - n) 0
      else (table.get o).rank := by
  have run := get_run (number := fun o : Owned => (AlarmSource.owned o).number) (f := setSources)
    (put := fun t k v => t.set k ((AlarmClass.ofNat? v).getD .none)) (get := fun t k => (t.get k).rank)
    (entry := fun v => ((AlarmClass.ofNat? v).getD .none).rank) (inv := fun _ => True) (fun _ _ => rfl)
    (fun t k v vs => by rw [setSources, ownedOfNat_number]) (fun _ _ _ _ => trivial)
    (fun t k v _ => by rw [PerOwned_get_set_self]) (fun t k j v h => by rw [PerOwned_get_set_of_ne _ _ h])
    Owned.number_injective (fun _ => Owned.exists_number) classes (t := table) trivial h1 h23
  refine (run.2 o).trans ?_
  rw [rank_getD hc]

end Sys2Proof.Machine
end

section
/-! PROOFS. CONFIGURE of items that pass (R181, R182): the positions judged again (R43), the slots under a changed threshold and low
level (R46, R49), the LOCAL source under a changed class table (R157), and the claims that wait for D (R60). -/

namespace Sys2Proof.Machine

variable {s t u : State} {p q : Pos}

/-! ### The steps of CONFIGURE -/

/-- The parameters with every item in place, and the lane count's mark (R181, R182). -/
def State.withItems (s : State) (items : List ConfigItem) : State :=
  ({ s with params := items.foldl Params.apply s.params }).announceLanes items

/-- The positions judged again where the denomination table is another (R43). -/
def State.rejudged (s : State) (before : Params) : State :=
  if s.params.denominations = before.denominations then s else Pos.all.foldl State.rejudge s

/-- The LOCAL source under the class table where that is another (R157). -/
def State.reclassed (s : State) (before : Params) : State :=
  if s.params.classTable = before.classTable then s else s.reclassInputs s.alarms.pattern

/-- The slots under the suspend threshold and the low levels (R46, R49). -/
def State.reslotted (s : State) (before : Params) : State :=
  Pos.all.foldl (State.reslot (decide (s.params.suspendThreshold ≠ before.suspendThreshold))) s

theorem State.withItems_frame (s : State) (items : List ConfigItem) :
    s.withItems items = { s with
      params := items.foldl Params.apply s.params,
      wall := { s.wall with laneCountSet := s.wall.laneCountSet || items.any namesLaneCount },
      ring := { s.ring with pendingCount := if items.any namesLaneCount then some (items.foldl Params.apply s.params).laneCount
                              else s.ring.pendingCount } } := by
  unfold State.withItems State.announceLanes
  cases items.any namesLaneCount
  · simp only [Bool.or_false, Bool.false_eq_true, if_false]
  · simp only [Bool.or_true, if_true]

/-! ### A step for each position (R43, R46) -/

theorem Pos.all_split (q : Pos) : ∃ xs ys, Pos.all = xs ++ q :: ys ∧ q ∉ xs ∧ q ∉ ys := by
  cases q
  exacts [⟨[], [.b, .c, .d], rfl, by decide, by decide⟩, ⟨[.a], [.c, .d], rfl, by decide, by decide⟩,
    ⟨[.a, .b], [.d], rfl, by decide, by decide⟩, ⟨[.a, .b, .c], [], rfl, by decide, by decide⟩]

/-- A fold over the positions changes what is seen of one of them by its own step alone. -/
theorem foldl_pos_view {α : Type} {f : State → Pos → State} (view : State → α) (q : Pos)
    (other : ∀ s p, p ≠ q → view (f s p) = view s) (s : State) :
    ∃ t, view t = view s ∧ view (Pos.all.foldl f s) = view (f t q) := by
  have kept (ps : List Pos) (hq : q ∉ ps) (u : State) : view (ps.foldl f u) = view u := by
    induction ps generalizing u with
    | nil => rfl
    | cons p ps ih =>
      obtain ⟨hp, hps⟩ := not_or.1 (List.mem_cons.not.1 hq)
      rw [List.foldl_cons, ih hps, other u p (Ne.symm hp)]
  obtain ⟨xs, ys, all, hx, hy⟩ := Pos.all_split q
  refine ⟨xs.foldl f s, kept xs hx s, ?_⟩
  rw [all, List.foldl_append, List.foldl_cons, kept ys hy]

/-- What a fold over the positions keeps at every step. -/
theorem foldl_pos_keeps {α : Type} {f : State → Pos → State} (view : State → α) (keeps : ∀ s p, view (f s p) = view s)
    (s : State) : view (Pos.all.foldl f s) = view s := by
  have kept (ps : List Pos) (u : State) : view (ps.foldl f u) = view u := by
    induction ps generalizing u with
    | nil => rfl
    | cons p ps ih => rw [List.foldl_cons, ih, keeps]
  exact kept _ _

/-! ### What the steps leave of the wall's settings -/

/-- The parameters, the marks of the wall, the ring and the count point. -/
def State.settings (s : State) : Params × Wall × Ring × CountPoint := (s.params, s.wall, s.ring, s.countPoint)

theorem State.Handed.settings (h : s.Handed t) : t.settings = s.settings := by
  unfold State.settings
  rw [h.spares.same]

theorem State.Handed.slot (h : s.Handed t) (q : Pos) : t.slot q = s.slot q := by
  unfold State.slot
  rw [h.spares.same]

/-! ### A position judged again (R43) -/

/-- A position judged again: its slot rewritten, or its cassette judged by R42. -/
theorem State.rejudge_cases (s : State) (p : Pos) :
    (∃ x, s.rejudge p = s.putSlot p x) ∨ s.rejudge p = s
      ∨ ∃ x, s.rejudge p = (s.putSlot p x).hand (.cassetteTamper p) false := by
  have judged (k : Identity) : (∃ x, s.judgeCassette p k = s.putSlot p x)
      ∨ ∃ x, s.judgeCassette p k = (s.putSlot p x).hand (.cassetteTamper p) false := by
    unfold State.judgeCassette
    split
    · exact .inl ⟨_, rfl⟩
    · exact .inr ⟨_, rfl⟩
  unfold State.rejudge
  dsimp only
  split
  · exact .inr (.inl rfl)
  · split
    iterate 3
      split
      · exact .inl ⟨_, rfl⟩
      · exact .inl ⟨_, rfl⟩
    · split
      · exact (judged _).imp id .inr
      · exact .inr (.inl rfl)
    all_goals exact .inr (.inl rfl)

theorem State.rejudge_settings (s : State) (p : Pos) : (s.rejudge p).settings = s.settings := by
  rcases s.rejudge_cases p with ⟨x, h⟩ | h | ⟨x, h⟩ <;> rw [h]
  · rfl
  · exact (State.handed_hand _ _ _).settings

/-- A position judged again leaves the others, their slots and their tamper sources. -/
theorem State.rejudge_of_ne (s : State) (h : p ≠ q) :
    (s.rejudge p).slot q = s.slot q
      ∧ (s.rejudge p).alarms.sources.cassetteTamper.get q = s.alarms.sources.cassetteTamper.get q := by
  have slot (x : Slot) : (s.putSlot p x).slot q = s.slot q := State.putSlot_slot_of_ne _ _ (Ne.symm h)
  rcases s.rejudge_cases p with ⟨x, hx⟩ | hx | ⟨x, hx⟩ <;> rw [hx]
  · exact ⟨slot x, rfl⟩
  · exact ⟨rfl, rfl⟩
  · refine ⟨((State.handed_hand _ _ _).slot q).trans (slot x), ?_⟩
    exact State.hand_source_of_ne (s.putSlot p x) (k := .cassetteTamper q) false fun e => h (Owned.cassetteTamper.inj e).symm

/-- The slot of a position judged again, by the table of R43. -/
def State.rejudgedSlot (s : State) (p : Pos) : Slot :=
  match (s.slot p).identity with
  | none => s.slot p
  | some k =>
    match (s.slot p).state with
    | .inService | .suspended | .unlocked =>
      if s.denominationFits (Identity.ofTag k.image) then
        { s.slot p with identity := some { k with noteValue := (Identity.ofTag k.image).noteValue } }
      else Slot.refusedAs .denomination (some (Identity.ofTag k.image)) (s.slot p).committed
    | .refused =>
      if (s.slot p).refused = some .denomination ∧ s.denominationFits (Identity.ofTag k.image) then
        match s.judgeIdentity (Identity.ofTag k.image) with
        | some why => Slot.refusedAs why (some (Identity.ofTag k.image)) (s.slot p).committed
        | none => Slot.accepted (Identity.ofTag k.image) (s.params.lowLevels.get p) (s.slot p).committed
      else s.slot p
    | .absent | .identifying | .releasePending => s.slot p

theorem State.rejudge_slot (s : State) (p : Pos) : (s.rejudge p).slot p = s.rejudgedSlot p := by
  have judged (k : Identity) : (s.judgeCassette p k).slot p =
      match s.judgeIdentity k with
      | some why => Slot.refusedAs why (some k) (s.slot p).committed
      | none => Slot.accepted k (s.params.lowLevels.get p) (s.slot p).committed := by
    cases h : s.judgeIdentity k with
    | some why => rw [State.judgeCassette_refused h, State.putSlot_slot]
    | none => rw [State.judgeCassette_accepted h, (State.handed_hand _ _ _).slot, State.putSlot_slot]
  unfold State.rejudge State.rejudgedSlot
  dsimp only
  cases (s.slot p).identity with
  | none => rfl
  | some k =>
    cases (s.slot p).state
    case refused =>
      dsimp only
      split
      · exact judged _
      · rfl
    case inService | suspended | unlocked =>
      dsimp only
      split <;> exact State.putSlot_slot _ _ _
    all_goals rfl

/-- It follows the slot and the parameters alone. -/
theorem State.rejudgedSlot_congr (hs : t.slot p = s.slot p) (hp : t.params = s.params) : t.rejudgedSlot p = s.rejudgedSlot p := by
  unfold State.rejudgedSlot State.judgeIdentity State.denominationFits
  rw [hs, hp]

/-- A cassette accepted anew has its tamper source inactive (R54). -/
theorem State.rejudge_accepted {k : Identity} (hk : (s.slot p).identity = some k) (hr : (s.slot p).state = .refused)
    (hd : (s.slot p).refused = some .denomination) (hf : s.judgeIdentity (Identity.ofTag k.image) = none) :
    ((s.rejudge p).alarms.sources.cassetteTamper.get p).active = false := by
  have fits : s.denominationFits (Identity.ofTag k.image) = true := by
    by_contra no
    rw [State.judgeIdentity, if_pos no] at hf
    cases hf
  have judged : s.rejudge p = s.judgeCassette p (Identity.ofTag k.image) := by
    unfold State.rejudge
    dsimp only
    rw [hk, hr]
    exact if_pos ⟨hd, fits⟩
  rw [judged, State.judgeCassette_accepted hf]
  exact State.hand_active _ (.cassetteTamper p) false

/-! ### A slot under the suspend threshold and the low level (R46, R49) -/

theorem State.reslot_slot (s : State) (b : Bool) (p : Pos) :
    (s.reslot b p).slot p =
      { s.slot p with
        state := if (s.slot p).state = .inService ∧ b = true ∧ s.params.suspendThreshold ≤ windowFails (s.slot p).window then
            .suspended else (s.slot p).state,
        low := (s.slot p).state.live && decide ((s.slot p).count ≤ s.params.lowLevels.get p) } := by
  refine (State.putSlot_slot _ _ _).trans ?_
  cases b
  · simp only [Bool.false_eq_true, false_and, and_false, if_false]
    rfl
  · simp only [if_true, true_and, Slot.judgeQuality_eq, Slot.formLow, PosState.live_suspended]

theorem State.reslot_slot_of_ne (s : State) (b : Bool) (h : p ≠ q) : (s.reslot b p).slot q = s.slot q :=
  State.putSlot_slot_of_ne _ _ (Ne.symm h)

/-! ### The LOCAL source (R144, R146 to R148, R157) -/

/-- The pattern and the inputs as they are set before the table follows. -/
def State.setInputs (s : State) (pattern : BitVec 6) (now : AlarmClass) : State :=
  { s with alarms := { s.alarms with pattern := pattern, inputs := ⟨decide (now ≠ AlarmClass.none), now⟩ } }

/-- The LOCAL record as its class goes from one to another (R146 to R148). -/
def State.followLocal (s : State) (pattern : BitVec 6) (was now : AlarmClass) : State :=
  if was = .none then s.sourceUp .inputs now (some pattern.toNat)
  else if now = .none then s.sourceDown .inputs
  else
    match s.alarmRecord 0 with
    | none => s
    | some r =>
      s.setRecords (putByKey AlarmRecord.key (r.reclass now pattern.toNat) s.alarms.records)
        (decide (now = AlarmClass.lockdown) && !r.classes.lockdown)

theorem State.reclassInputs_eq (s : State) (pattern : BitVec 6) :
    s.reclassInputs pattern =
      let t := (s.setInputs pattern (s.localClass pattern)).followLocal pattern s.alarms.inputs.current (s.localClass pattern)
      if s.alarms.duress ∧ t.alarms.duress then
        t.markTicketsOf fun p => duressInput pattern p && !duressInput s.alarms.pattern p
      else t := rfl

theorem State.handed_followLocal (s : State) (pattern : BitVec 6) (was now : AlarmClass) :
    s.Handed (s.followLocal pattern was now) ∧ s.Recalls (s.followLocal pattern was now) := by
  unfold State.followLocal
  split
  · exact ⟨s.handed_sourceUp _ _ _, s.recalls_sourceUp _ _ _⟩
  · split
    · exact ⟨s.handed_sourceDown _, s.recalls_sourceDown _⟩
    · split
      · exact ⟨.refl, .refl⟩
      · exact ⟨s.handed_setRecords _ _, s.recalls_setRecords _ _⟩

theorem State.handed_reclassInputs (s : State) (pattern : BitVec 6) :
    s.Handed (s.reclassInputs pattern) ∧ s.Recalls (s.reclassInputs pattern) := by
  have set : s.Handed (s.setInputs pattern (s.localClass pattern)) ∧ s.Recalls (s.setInputs pattern (s.localClass pattern)) :=
    ⟨.of_calm rfl (.of_eq rfl) id, .of_same (.of_calm rfl (.of_eq rfl) id) ⟨rfl, rfl, rfl⟩⟩
  have marked (t : State) (c : Prop) [Decidable c] (who : Teller → Bool) :
      t.Handed (if c then t.markTicketsOf who else t) ∧ t.Recalls (if c then t.markTicketsOf who else t) := by
    have handed : t.Handed (if c then t.markTicketsOf who else t) := State.handed_marked rfl c who id
    exact ⟨handed, handed.recalls (by rw [State.alarms_marked])⟩
  obtain ⟨handed, recalls⟩ := (s.setInputs pattern (s.localClass pattern)).handed_followLocal pattern
    s.alarms.inputs.current (s.localClass pattern)
  rw [State.reclassInputs_eq]
  exact ⟨(set.1.trans handed).trans (marked _ _ _).1, (set.2.trans recalls).trans (marked _ _ _).2⟩

theorem State.onLockdown_reasons (s : State) : s.onLockdown.reasons = s.reasons := by
  unfold State.onLockdown
  rw [State.recallWaitingNote_frame, State.pauseWaitingPick_frame, State.askCloseAll_frame]

theorem State.reasons_marked (c : Prop) [Decidable c] (who : Teller → Bool) :
    (if c then s.markTicketsOf who else s).reasons = s.reasons := by
  split
  · rw [State.markTicketsOf_frame]
  · rfl

/-- A change of what R151 names of the records places ALARM. -/
theorem State.setRecords_places {records : List AlarmRecord}
    (h : records.map AlarmRecord.attended ≠ s.alarms.records.map AlarmRecord.attended) (takes : Bool) :
    (s.setRecords records takes).reasons.alarm = true := by
  have changed (b : Bool) : (decide (records.map AlarmRecord.attended ≠ s.alarms.records.map AlarmRecord.attended) || b) = true := by
    rw [decide_eq_true h, Bool.true_or]
  unfold State.setRecords
  simp only [Bool.or_assoc, changed]
  split
  · rw [State.onLockdown_reasons, State.reasons_marked]
    rfl
  · rw [State.reasons_marked]
    rfl

/-- The LOCAL record, of the least key, put in a table that holds none, or one that R151 tells from it. -/
theorem attended_putByKey {x : AlarmRecord} {xs : List AlarmRecord} (hx : x.key = 0)
    (h : ∀ r, findByKey AlarmRecord.key 0 xs = some r → r.attended ≠ x.attended) :
    (putByKey AlarmRecord.key x xs).map AlarmRecord.attended ≠ xs.map AlarmRecord.attended := by
  cases xs with
  | nil => exact List.cons_ne_nil _ _
  | cons y ys =>
    by_cases first : y.key = 0
    · have found : findByKey AlarmRecord.key 0 (y :: ys) = some y := List.find?_cons_of_pos (beq_iff_eq.2 first)
      rw [putByKey, hx, first, if_neg (lt_irrefl 0), if_pos rfl]
      exact fun e => h y found (List.head_eq_of_cons_eq e).symm
    · rw [putByKey, hx, if_pos (Nat.pos_of_ne_zero first)]
      intro e
      have := congrArg List.length e
      simp at this

/-- A class other than NONE is above every class of a record when it is above the highest. -/
theorem ClassSet.highest_lt_iff (c : ClassSet) {now : AlarmClass} (h : now ≠ .none) :
    c.highest.rank < now.rank ↔ ∀ k, c.has k = true → k.rank < now.rank := by
  obtain ⟨notice, hold, lockdown, duress⟩ := c
  have all (P : AlarmClass → Prop) : (∀ k, P k) ↔ P .none ∧ P .notice ∧ P .hold ∧ P .lockdown ∧ P .duress :=
    ⟨fun h => ⟨h _, h _, h _, h _, h _⟩, fun ⟨h0, h1, h2, h3, h4⟩ k => by cases k <;> assumption⟩
  rw [all]
  cases now
  case none => exact absurd rfl h
  all_goals revert notice hold lockdown duress; decide

section FollowLocal
variable {pattern : BitVec 6} {was now : AlarmClass}

theorem State.followLocal_quiet (hw : was = .none) (hn : now = .none) : s.followLocal pattern was now = s := by
  unfold State.followLocal State.sourceUp
  rw [if_pos hw, if_pos hn]

theorem State.followLocal_up (hw : was = .none) (hn : now ≠ .none) :
    s.followLocal pattern was now =
      s.setRecords (putByKey AlarmRecord.key (raiseRecord (s.alarmRecord 0) .inputs now (some pattern.toNat)) s.alarms.records)
        (decide (now = .lockdown)) := by
  unfold State.followLocal State.sourceUp
  rw [if_pos hw, if_neg hn]
  rfl

theorem State.followLocal_down (hw : was ≠ .none) (hn : now = .none) {r : AlarmRecord} (hr : s.alarmRecord 0 = some r) :
    s.followLocal pattern was now =
      match r.state with
      | .raised => s.setRecords (putByKey AlarmRecord.key { r with state := .standing, current := .none } s.alarms.records) false
      | .acked => s.setRecords (dropKey AlarmRecord.key 0 s.alarms.records) false
      | .standing => s := by
  have found : s.alarmRecord AlarmSource.inputs.number = some r := hr
  unfold State.followLocal State.sourceDown
  rw [if_neg hw, if_pos hn, found]
  rfl

theorem State.followLocal_reclass (hw : was ≠ .none) (hn : now ≠ .none) {r : AlarmRecord} (hr : s.alarmRecord 0 = some r) :
    s.followLocal pattern was now =
      s.setRecords (putByKey AlarmRecord.key (r.reclass now pattern.toNat) s.alarms.records)
        (decide (now = .lockdown) && !r.classes.lockdown) := by
  unfold State.followLocal
  rw [if_neg hw, if_neg hn, hr]

/-- The pattern and the inputs stay while the table follows them. -/
theorem State.followLocal_inputs (s : State) (pattern : BitVec 6) (was now : AlarmClass) :
    (s.followLocal pattern was now).alarms.pattern = s.alarms.pattern
      ∧ (s.followLocal pattern was now).alarms.inputs = s.alarms.inputs := by
  have put (records : List AlarmRecord) (takes : Bool) : (s.setRecords records takes).alarms.pattern = s.alarms.pattern
      ∧ (s.setRecords records takes).alarms.inputs = s.alarms.inputs := by
    rw [State.setRecords_alarms]
    exact ⟨rfl, rfl⟩
  unfold State.followLocal
  split
  · unfold State.sourceUp
    split
    · exact ⟨rfl, rfl⟩
    · exact put _ _
  · split
    · unfold State.sourceDown
      split
      · exact ⟨rfl, rfl⟩
      · split
        · exact put _ _
        · exact put _ _
        · exact ⟨rfl, rfl⟩
    · split
      · exact ⟨rfl, rfl⟩
      · exact put _ _

/-- The class added is not among the classes when it is above the highest. -/
theorem AlarmRecord.reclass_eq (r : AlarmRecord) (hn : now ≠ .none) (n : Nat) :
    r.reclass now n =
      { r with state := if r.state = .acked ∧ r.classes.highest.rank < now.rank then .raised else r.state,
               classes := r.classes.add now, current := now, pattern := some n } := by
  have above : (r.state = .acked ∧ r.highest.rank < now.rank ∧ ¬ r.classes.has now = true)
      ↔ (r.state = .acked ∧ r.classes.highest.rank < now.rank) := by
    refine and_congr_right fun _ => and_iff_left_of_imp fun h has => ?_
    exact absurd ((ClassSet.highest_lt_iff _ hn).1 h now has) (lt_irrefl _)
  unfold AlarmRecord.reclass
  simp only [above]

end FollowLocal

/-- The LOCAL source takes the class of the pattern (R144, R146 to R148). -/
theorem State.reclassInputs_follows (s : State) (pattern : BitVec 6) :
    s.localFollows (s.reclassInputs pattern) pattern (s.localClass pattern) := by
  generalize hnow : s.localClass pattern = now
  let t := s.setInputs pattern now
  let v := t.followLocal pattern s.alarms.inputs.current now
  have alarms : (s.reclassInputs pattern).alarms = v.alarms := by
    rw [State.reclassInputs_eq, hnow]
    exact State.alarms_marked _ _
  have reasons : (s.reclassInputs pattern).reasons = v.reasons := by
    rw [State.reclassInputs_eq, hnow]
    exact State.reasons_marked _ _
  obtain ⟨followed, inputs⟩ := t.followLocal_inputs pattern s.alarms.inputs.current now
  unfold State.localFollows
  rw [alarms, reasons]
  refine ⟨followed, inputs, fun hw hn => ?_, fun hw hn hr => ?_, fun hw hn => ?_, fun hw hn ho => ?_, fun r hw hn ho hr => ?_,
    fun r hw hn ho => ?_, fun r hw hn ho => ?_⟩
  · have same : v = t := State.followLocal_quiet hw hn
    rw [same]
    rfl
  · have up : v = _ := State.followLocal_up (s := t) hw hn
    rw [up]
    refine State.setRecords_places (attended_putByKey ?_ fun r found e => ?_) _
    · cases old : t.alarmRecord 0 with
      | none => rfl
      | some r => exact (findByKey_some old).2
    · have held : t.alarmRecord 0 = some r := found
      have standing : r.state = .standing := hr r found
      rw [held] at e
      have raised : r.state = .raised := congrArg (fun x => x.2.1) e
      rw [standing] at raised
      cases raised
  · have up : v = _ := State.followLocal_up (s := t) hw hn
    rw [up, State.setRecords_alarms]
    rfl
  · have up : v = _ := State.followLocal_up (s := t) hw hn
    have fresh : t.alarmRecord 0 = none := ho
    rw [up, State.setRecords_alarms, fresh]
    rfl
  · have up : v = _ := State.followLocal_up (s := t) hw hn
    have stood : t.alarmRecord 0 = some r := ho
    rw [up, State.setRecords_alarms, stood]
    rfl
  · have above := State.followLocal_reclass (s := t) (pattern := pattern) hw hn ho
    have put : v = _ := above
    rw [put, State.setRecords_alarms, AlarmRecord.reclass_eq r hn]
    exact ⟨rfl, ClassSet.highest_lt_iff _ hn, rfl⟩
  · have down : v = _ := State.followLocal_down (s := t) hw hn ho
    rw [down]
    cases hs : r.state with
    | raised => exact ⟨by rw [State.setRecords_alarms]; exact Bool.or_false _, fun _ => by rw [State.setRecords_alarms]; rfl, nofun⟩
    | acked => exact ⟨by rw [State.setRecords_alarms]; exact Bool.or_false _, nofun, fun _ => by rw [State.setRecords_alarms]; rfl⟩
    | standing => exact ⟨rfl, nofun, nofun⟩

/-- The same told of states with the same alarms, where ALARM stays placed. -/
theorem State.localFollows_of_same {v w : State} {pattern : BitVec 6} {now : AlarmClass} (h : t.localFollows u pattern now)
    (ht : t.alarms = v.alarms) (hu : w.alarms = u.alarms) (hr : u.reasons.alarm = true → w.reasons.alarm = true) :
    v.localFollows w pattern now := by
  have records (k : Nat) : t.alarmRecord k = v.alarmRecord k := by
    unfold State.alarmRecord
    rw [ht]
  unfold State.localFollows at h ⊢
  rw [records, ht, ← hu] at h
  obtain ⟨h1, h2, h3, h4, rest⟩ := h
  exact ⟨h1, h2, h3, fun a b c => hr (h4 a b c), rest⟩

/-! ### The claims that wait for D while the items act (R60, R115, R153) -/

/-- What the items change of the claims that wait: none, but that a source handed by them enters LOCKDOWN. -/
structure State.BearsClaims (s t : State) : Prop where
  lockdown : s.alarms.lockdown = true → t.alarms.lockdown = true
  pick : t.alarms.lockdown = s.alarms.lockdown →
    t.gate.waitPicker = s.gate.waitPicker ∧ t.picker.ticket = s.picker.ticket ∧ ∀ n, t.dispense n = s.dispense n
  note : (t.noteView = s.noteView ∧ ∀ n, t.intake n = s.intake n) ∨ t.alarms.lockdown = true ∧ s.redecidesWaiting t true
  sparesNote : s.SparesNote t

namespace State.BearsClaims

theorem of_same (ht : t.tickets = s.tickets) (hp : t.picker = s.picker) (hg : t.gate = s.gate) (hr : t.intakeRec = s.intakeRec)
    (hh : t.headSent = s.headSent) (hv : t.intakeVault = s.intakeVault) (ha : t.alarms = s.alarms) : s.BearsClaims t where
  lockdown h := by rw [ha]; exact h
  pick _ := ⟨by rw [hg], by rw [hp], fun n => by simp only [State.dispense, State.ticket, ht]⟩
  note := .inl ⟨by simp only [State.noteView, hg, hr, hh, hv], fun n => by simp only [State.intake, State.ticket, ht]⟩
  sparesNote := .of_same hr hh (by rw [hg])

theorem of_handed (h : s.Handed t) (k : s.Recalls t) : s.BearsClaims t where
  lockdown := h.spares.lockdown
  pick hl := by
    refine ⟨?_, ?_, h.spares.marks.dispense⟩ <;> rw [h.calm hl]
  note := k.note.imp (fun same => by
    obtain ⟨waits, record, head⟩ := same
    have vault : t.intakeVault = s.intakeVault := by rw [h.spares.same]
    exact ⟨by simp only [State.noteView, waits, record, head, vault], h.spares.marks.intake⟩) id
  sparesNote := h.spares.sparesNote

theorem trans (h : s.BearsClaims t) (k : t.BearsClaims u) : s.BearsClaims u where
  lockdown hs := k.lockdown (h.lockdown hs)
  pick hu := by
    have ht : t.alarms.lockdown = s.alarms.lockdown := by
      cases hs : s.alarms.lockdown
      · rw [hs] at hu
        exact Bool.eq_false_iff.2 fun ht => Bool.false_ne_true (hu.symm.trans (k.lockdown ht))
      · exact h.lockdown hs
    obtain ⟨h1, h2, h3⟩ := h.pick ht
    obtain ⟨k1, k2, k3⟩ := k.pick (hu.trans ht.symm)
    exact ⟨k1.trans h1, k2.trans h2, fun n => (k3 n).trans (h3 n)⟩
  note := by
    rcases h.note with ⟨view, held⟩ | ⟨locked, sent⟩
    · rcases k.note with ⟨view', held'⟩ | ⟨locked, sent⟩
      · exact .inl ⟨view'.trans view, fun n => (held' n).trans (held n)⟩
      · exact .inr ⟨locked, State.redecidesWaiting_of_same sent view held⟩
    · exact .inr ⟨k.lockdown locked, sent.spared k.sparesNote⟩
  sparesNote := h.sparesNote.trans k.sparesNote

theorem foldl {f : State → Pos → State} (h : ∀ (s : State) p, s.BearsClaims (f s p)) (ps : List Pos) (s : State) :
    s.BearsClaims (ps.foldl f s) := by
  induction ps generalizing s with
  | nil => exact .of_same rfl rfl rfl rfl rfl rfl rfl
  | cons p ps ih => exact (h s p).trans (ih _)

/-- With D fit for no store the note of a store claim is sent on as the claims are checked (R60). -/
theorem redecides (h : s.BearsClaims t) (hs : t.storeFit = false) : s.redecidesWaiting t.recheckGate t.pausing := by
  rcases h.note with ⟨view, held⟩ | ⟨locked, sent⟩
  · exact State.redecidesWaiting_of_same (State.recheckGate_redecides hs) view held
  · rw [State.pausing_iff.2 (.inl locked)]
    exact sent.spared State.recheckGate_sparesNote

/-- A pick claim that no LOCKDOWN has withdrawn is halted when D is not fit for it. -/
theorem halts (h : s.BearsClaims t) (hl : t.alarms.lockdown = s.alarms.lockdown) {why : HaltReason}
    (hu : (t.slot .d).pickUnfit = some why) : s.haltsWaiting t.recheckGate why := by
  obtain ⟨waits, ticket, held⟩ := h.pick hl
  exact State.haltsWaiting_of_same (State.recheckGate_halts hu) waits ticket held

end State.BearsClaims

theorem State.bears_rejudge (s : State) (p : Pos) : s.BearsClaims (s.rejudge p) := by
  have put (x : Slot) : s.BearsClaims (s.putSlot p x) := .of_same rfl rfl rfl rfl rfl rfl rfl
  rcases s.rejudge_cases p with ⟨x, h⟩ | h | ⟨x, h⟩ <;> rw [h]
  · exact put x
  · exact .of_same rfl rfl rfl rfl rfl rfl rfl
  · exact (put x).trans (.of_handed (State.handed_hand _ _ _) (State.recalls_hand _ _ _))

/-- The items' acts up to the check of the waiting claims. -/
def State.itemsActed (s : State) (items : List ConfigItem) : State :=
  (((s.withItems items).rejudged s.params).reclassed s.params).reslotted s.params

theorem State.configured_eq (s : State) (items : List ConfigItem) :
    s.configured items = (s.itemsActed items).recheckGate.recountPeriodic s.params.periodicCount := rfl

theorem State.bears_itemsActed (s : State) (items : List ConfigItem) : s.BearsClaims (s.itemsActed items) := by
  have placed : s.BearsClaims (s.withItems items) := by
    rw [State.withItems_frame]
    exact .of_same rfl rfl rfl rfl rfl rfl rfl
  have refl (t : State) : t.BearsClaims t := .of_same rfl rfl rfl rfl rfl rfl rfl
  have judged (t : State) : t.BearsClaims (t.rejudged s.params) := by
    unfold State.rejudged
    split
    · exact refl t
    · exact .foldl State.bears_rejudge _ t
  have reclassed (t : State) : t.BearsClaims (t.reclassed s.params) := by
    unfold State.reclassed
    split
    · exact refl t
    · obtain ⟨handed, recalls⟩ := t.handed_reclassInputs t.alarms.pattern
      exact .of_handed handed recalls
  have reslotted (t : State) : t.BearsClaims (t.reslotted s.params) :=
    .foldl (f := State.reslot _) (fun _ _ => .of_same rfl rfl rfl rfl rfl rfl rfl) _ t
  exact ((placed.trans (judged _)).trans (reclassed _)).trans (reslotted _)

/-! ### What the items leave (R181, R182) -/

/-- The settings after the items' acts are those with the items in place. -/
theorem State.itemsActed_settings (s : State) (items : List ConfigItem) :
    (s.itemsActed items).settings = (s.withItems items).settings := by
  have judged (t : State) : (t.rejudged s.params).settings = t.settings := by
    unfold State.rejudged
    split
    · rfl
    · exact foldl_pos_keeps State.settings State.rejudge_settings t
  have reclassed (t : State) : (t.reclassed s.params).settings = t.settings := by
    unfold State.reclassed
    split
    · rfl
    · exact (t.handed_reclassInputs _).1.settings
  have reslotted (t : State) : (t.reslotted s.params).settings = t.settings :=
    foldl_pos_keeps State.settings (fun _ _ => rfl) t
  exact (reslotted _).trans ((reclassed _).trans (judged _))

/-- A slot before the threshold and the low level act: judged again where the denomination table is another (R43). -/
def State.slotJudged (s : State) (items : List ConfigItem) (p : Pos) : Slot :=
  if (items.foldl Params.apply s.params).denominations = s.params.denominations then s.slot p
  else (s.withItems items).rejudgedSlot p

theorem State.itemsActed_slot (s : State) (items : List ConfigItem) (p : Pos) :
    let x := s.slotJudged items p
    let q := items.foldl Params.apply s.params
    (s.itemsActed items).slot p =
      { x with
        state := if x.state = .inService ∧ q.suspendThreshold ≠ s.params.suspendThreshold
            ∧ q.suspendThreshold ≤ windowFails x.window then .suspended else x.state,
        low := x.state.live && decide (x.count ≤ q.lowLevels.get p) } := by
  intro x q
  have params : (s.withItems items).params = q := by rw [State.withItems_frame]
  have judged : ((s.withItems items).rejudged s.params).slot p = x ∧ ((s.withItems items).rejudged s.params).params = q := by
    have held : (s.withItems items).slot p = s.slot p := by rw [State.withItems_frame]; rfl
    simp only [x]
    unfold State.rejudged State.slotJudged
    rw [params]
    split
    · exact ⟨held, params⟩
    · obtain ⟨t, same, seen⟩ := foldl_pos_view (f := State.rejudge) (fun t : State => (t.slot p, t.params)) p
        (fun t r hr => Prod.ext (t.rejudge_of_ne hr).1 (congrArg Prod.fst (t.rejudge_settings r))) (s.withItems items)
      obtain ⟨slot, params'⟩ := Prod.mk.inj same
      obtain ⟨slot', params''⟩ := Prod.mk.inj seen
      refine ⟨slot'.trans ((t.rejudge_slot p).trans (State.rejudgedSlot_congr slot params')), ?_⟩
      exact params''.trans ((congrArg Prod.fst (t.rejudge_settings p)).trans (params'.trans params))
  have reclassed (t : State) : (t.reclassed s.params).slot p = t.slot p ∧ (t.reclassed s.params).params = t.params := by
    unfold State.reclassed
    split
    · exact ⟨rfl, rfl⟩
    · obtain ⟨handed, -⟩ := t.handed_reclassInputs t.alarms.pattern
      exact ⟨handed.slot p, congrArg Prod.fst handed.settings⟩
  let v := ((s.withItems items).rejudged s.params).reclassed s.params
  have before : v.slot p = x ∧ v.params = q :=
    ⟨(reclassed _).1.trans judged.1, (reclassed _).2.trans judged.2⟩
  obtain ⟨t, same, seen⟩ := foldl_pos_view
    (f := State.reslot (decide (v.params.suspendThreshold ≠ s.params.suspendThreshold)))
    (fun t : State => (t.slot p, t.params)) p
    (fun t r hr => Prod.ext (t.reslot_slot_of_ne _ hr) rfl) v
  obtain ⟨slot, params'⟩ := Prod.mk.inj same
  obtain ⟨slot', -⟩ := Prod.mk.inj seen
  have acted : (s.itemsActed items).slot p = _ := slot'.trans (t.reslot_slot _ p)
  rw [acted, slot, params', before.1, before.2]
  simp only [decide_eq_true_iff]

/-! ### What is asked at the end of the items' acts (R60, R162) -/

theorem PosSet.union_empty (x : PosSet) : x.union .empty = x := by
  refine PerPos_ext fun q => ?_
  unfold PosSet.union PosSet.empty
  rw [PerPos_get_mapWith, PerPos_get_const, Bool.or_false]

/-- Whether a changed periodic count is reached already, in SERVICE (R162). -/
def State.reachesPeriodic (s : State) (before : Nat) : Prop :=
  s.wall.service = true ∧ s.params.periodicCount ≠ before ∧ 1 ≤ s.params.periodicCount
    ∧ s.params.periodicCount ≤ s.countPoint.settled

theorem State.recountPeriodic_reached {before : Nat} (h : s.reachesPeriodic before) :
    s.recountPeriodic before = s.requestCount .periodic .empty := if_pos h

theorem State.recountPeriodic_below {before : Nat} (h : ¬ s.reachesPeriodic before) : s.recountPeriodic before = s := if_neg h

theorem State.recountPeriodic_frame (s : State) (before : Nat) :
    s.recountPeriodic before = { s with
      countPoint := (s.recountPeriodic before).countPoint, picker := (s.recountPeriodic before).picker,
      gate := (s.recountPeriodic before).gate, intakeRec := (s.recountPeriodic before).intakeRec,
      headSent := (s.recountPeriodic before).headSent } := by
  unfold State.recountPeriodic
  split
  · rw [State.requestCount_frame]
  · rfl

theorem State.recountPeriodic_spares (s : State) (before : Nat) :
    s.SparesHalt (s.recountPeriodic before) ∧ s.SparesNote (s.recountPeriodic before) := by
  unfold State.recountPeriodic
  split
  · exact s.requestCount_spares _ _
  · exact ⟨.of_same rfl rfl rfl, .of_same rfl rfl rfl⟩

theorem State.recheckGate_alarm (s : State) : s.recheckGate.reasons.alarm = s.reasons.alarm := by
  rcases s.recheckGate_reasons with h | h <;> rw [h]
  rfl

theorem State.configured_frame (s : State) (items : List ConfigItem) :
    s.configured items = { s.itemsActed items with
      tickets := (s.configured items).tickets, changeSet := (s.configured items).changeSet,
      reasons := (s.itemsActed items).recheckGate.reasons, picker := (s.configured items).picker,
      gate := (s.configured items).gate, intakeRec := (s.configured items).intakeRec,
      headSent := (s.configured items).headSent, countPoint := (s.configured items).countPoint } := by
  rw [State.configured_eq, State.recountPeriodic_frame, State.recheckGate_frame]

theorem State.configured_params (s : State) (items : List ConfigItem) :
    (s.configured items).params = items.foldl Params.apply s.params := by
  have acted : (s.itemsActed items).params = (s.withItems items).params := congrArg Prod.fst (s.itemsActed_settings items)
  rw [State.configured_frame, acted, State.withItems_frame]

theorem State.configured_slot (s : State) (items : List ConfigItem) (p : Pos) :
    (s.configured items).reform.slot p =
      { (s.itemsActed items).slot p with committed := (s.configured items).reform.committedAt p } := by
  rw [State.reform_slot, State.reform_committedAt]
  exact congrArg (fun t : State => { t.slot p with committed := (s.configured items).committedAt p }) (s.configured_frame items)

/-- The count point as the items leave it: PERIODIC asked where the changed periodic count is reached (R162). -/
theorem State.configured_countPoint (s : State) (items : List ConfigItem) :
    let q := items.foldl Params.apply s.params
    let periodic : Prop := s.wall.service = true ∧ q.periodicCount ≠ s.params.periodicCount ∧ 1 ≤ q.periodicCount
      ∧ q.periodicCount ≤ s.countPoint.settled
    (¬ periodic → (s.configured items).countPoint = s.countPoint)
      ∧ (periodic → (s.configured items).countPoint = s.countPoint.requested q.quiesceTimeout .periodic .empty) := by
  intro q periodic
  have settings : (s.itemsActed items).recheckGate.settings = (s.withItems items).settings := by
    rw [← s.itemsActed_settings items, State.recheckGate_frame]
    rfl
  rw [State.withItems_frame] at settings
  simp only [State.settings, Prod.mk.injEq] at settings
  obtain ⟨params, wall, -, point⟩ := settings
  have reached : (s.itemsActed items).recheckGate.reachesPeriodic s.params.periodicCount ↔ periodic := by
    unfold State.reachesPeriodic
    rw [params, wall, point]
  rw [State.configured_eq]
  refine ⟨fun h => ?_, fun h => ?_⟩
  · rw [State.recountPeriodic_below (mt reached.1 h), point]
  · rw [State.recountPeriodic_reached (reached.2 h), State.requestCount_frame, params, point]

/-- What becomes of the claims that wait for D (R60). -/
theorem State.configured_redecides (s : State) (items : List ConfigItem) (h : (s.itemsActed items).storeFit = false) :
    s.redecidesWaiting (s.configured items).reform
      ((s.itemsActed items).alarms.lockdown || decide (s.countPoint.state ≠ .idle)) := by
  have point : (s.itemsActed items).countPoint = s.countPoint := by
    refine (congrArg (·.2.2.2) (s.itemsActed_settings items)).trans ?_
    rw [State.withItems_frame]
    rfl
  have sent := (s.bears_itemsActed items).redecides h
  unfold State.pausing State.counting at sent
  rw [point] at sent
  exact (sent.spared (State.recountPeriodic_spares _ s.params.periodicCount).2).spared (.of_same rfl rfl rfl)

theorem State.configured_halts (s : State) (items : List ConfigItem) {why : HaltReason}
    (hl : (s.itemsActed items).alarms.lockdown = s.alarms.lockdown)
    (hu : ((s.itemsActed items).slot .d).pickUnfit = some why) : s.haltsWaiting (s.configured items).reform why :=
  (((s.bears_itemsActed items).halts hl hu).spared (State.recountPeriodic_spares _ s.params.periodicCount).1).spared
    (.of_same rfl rfl rfl)

/-! ### The alarms under the items (R54, R157) -/

theorem State.putSlot_alarm (s : State) (p : Pos) (x : Slot) : (s.putSlot p x).reasons.alarm = s.reasons.alarm := by
  rw [State.putSlot_reasons]
  split <;> rfl

theorem State.reslotted_alarms (s : State) (before : Params) :
    (s.reslotted before).alarms = s.alarms ∧ (s.reslotted before).reasons.alarm = s.reasons.alarm := by
  have kept := foldl_pos_keeps (f := State.reslot (decide (s.params.suspendThreshold ≠ before.suspendThreshold)))
    (fun t => (t.alarms, t.reasons.alarm)) (fun t p => Prod.ext rfl (t.putSlot_alarm p _)) s
  exact Prod.mk.inj kept

theorem State.reclassInputs_sources (s : State) (pattern : BitVec 6) :
    (s.reclassInputs pattern).alarms.sources = s.alarms.sources := by
  have followed (t : State) (was now : AlarmClass) : (t.followLocal pattern was now).alarms.sources = t.alarms.sources := by
    unfold State.followLocal
    split
    · exact State.sourceUp_sources _ _ _ _
    · split
      · exact State.sourceDown_sources _ _
      · split
        · rfl
        · rw [State.setRecords_alarms]
  rw [State.reclassInputs_eq]
  dsimp only
  rw [State.alarms_marked, followed]
  rfl

/-- With the denomination table as it was, the alarms follow the class table alone. -/
theorem State.itemsActed_alarms (s : State) (items : List ConfigItem)
    (hd : (items.foldl Params.apply s.params).denominations = s.params.denominations) :
    let q := items.foldl Params.apply s.params
    (q.classTable = s.params.classTable → (s.itemsActed items).alarms = s.alarms)
      ∧ (q.classTable ≠ s.params.classTable →
        s.localFollows (s.configured items).reform s.alarms.pattern (q.classTable.getD s.alarms.pattern.toNat .none)) := by
  intro q
  have params : (s.withItems items).params = q := by rw [State.withItems_frame]
  have same : (s.withItems items).alarms = s.alarms := by rw [State.withItems_frame]
  have judged : (s.withItems items).rejudged s.params = s.withItems items := by
    unfold State.rejudged
    rw [params, if_pos hd]
  have acted : s.itemsActed items = ((s.withItems items).reclassed s.params).reslotted s.params := by
    unfold State.itemsActed
    rw [judged]
  obtain ⟨alarms, placed⟩ := ((s.withItems items).reclassed s.params).reslotted_alarms s.params
  rw [← acted] at alarms placed
  refine ⟨fun hc => ?_, fun hc => ?_⟩
  · have kept : (s.withItems items).reclassed s.params = s.withItems items := by
      unfold State.reclassed
      rw [params, if_pos hc]
    rw [alarms, kept, same]
  · have reclassed : (s.withItems items).reclassed s.params = (s.withItems items).reclassInputs s.alarms.pattern := by
      unfold State.reclassed
      rw [params, if_neg hc, same]
    have follows := (s.withItems items).reclassInputs_follows s.alarms.pattern
    unfold State.localClass at follows
    rw [params, ← reclassed] at follows
    refine State.localFollows_of_same follows same ?_ fun placed' => ?_
    · rw [State.reform_alarms, State.configured_frame, alarms]
    · rw [State.reform_reasons, State.configured_frame]
      exact (State.recheckGate_alarm _).trans (placed.trans placed')

/-- A cassette accepted anew leaves CONFIGURE with its tamper source inactive (R54). -/
theorem State.itemsActed_accepted (s : State) (items : List ConfigItem) {k : Identity}
    (hd : (items.foldl Params.apply s.params).denominations ≠ s.params.denominations)
    (hk : (s.slot p).identity = some k) (hr : (s.slot p).state = .refused) (hw : (s.slot p).refused = some .denomination)
    (hf : (s.withItems items).judgeIdentity (Identity.ofTag k.image) = none) :
    ((s.itemsActed items).alarms.sources.cassetteTamper.get p).active = false := by
  have params : (s.withItems items).params = items.foldl Params.apply s.params := by rw [State.withItems_frame]
  have held : (s.withItems items).slot p = s.slot p := by rw [State.withItems_frame]; rfl
  have judged : (((s.withItems items).rejudged s.params).alarms.sources.cassetteTamper.get p).active = false := by
    unfold State.rejudged
    rw [params, if_neg hd]
    obtain ⟨t, same, seen⟩ := foldl_pos_view (f := State.rejudge)
      (fun t : State => (t.slot p, t.params, t.alarms.sources.cassetteTamper.get p)) p
      (fun t r hr => by
        obtain ⟨slot, source⟩ := t.rejudge_of_ne hr
        have params : (t.rejudge r).params = t.params := congrArg Prod.fst (t.rejudge_settings r)
        rw [slot, source, params]) (s.withItems items)
    simp only [Prod.mk.injEq] at same seen
    obtain ⟨slot, params', -⟩ := same
    rw [held] at slot
    rw [seen.2.2]
    refine State.rejudge_accepted (by rw [slot]; exact hk) (by rw [slot]; exact hr) (by rw [slot]; exact hw) ?_
    unfold State.judgeIdentity State.denominationFits at hf ⊢
    rw [params']
    exact hf
  have reclassed (t : State) : (t.reclassed s.params).alarms.sources = t.alarms.sources := by
    unfold State.reclassed
    split
    · rfl
    · exact t.reclassInputs_sources _
  unfold State.itemsActed
  rw [(State.reslotted_alarms _ _).1, reclassed]
  exact judged

section RejudgedSlot
variable {k : Identity}

theorem State.rejudgedSlot_none (h : (s.slot p).identity = none) : s.rejudgedSlot p = s.slot p := by
  unfold State.rejudgedSlot
  rw [h]

/-- A position that R43 does not judge again. -/
theorem State.rejudgedSlot_kept
    (h : (s.slot p).state = .absent ∨ (s.slot p).state = .identifying ∨ (s.slot p).state = .releasePending) :
    s.rejudgedSlot p = s.slot p := by
  unfold State.rejudgedSlot
  rcases h with h | h | h <;> rw [h] <;> cases (s.slot p).identity <;> rfl

/-- A cassette in service judged again. -/
theorem State.rejudgedSlot_service (hk : (s.slot p).identity = some k)
    (h : (s.slot p).state = .inService ∨ (s.slot p).state = .suspended ∨ (s.slot p).state = .unlocked) :
    s.rejudgedSlot p =
      if s.denominationFits (Identity.ofTag k.image) then
        { s.slot p with identity := some { k with noteValue := (Identity.ofTag k.image).noteValue } }
      else Slot.refusedAs .denomination (some (Identity.ofTag k.image)) (s.slot p).committed := by
  unfold State.rejudgedSlot
  rw [hk]
  dsimp only
  split <;> rename_i hs
  case h_4 => simp [hs] at h
  case h_5 | h_6 | h_7 => simp [hs] at h
  all_goals rfl

theorem State.rejudgedSlot_refused (hk : (s.slot p).identity = some k) (h : (s.slot p).state = .refused) :
    s.rejudgedSlot p =
      if (s.slot p).refused = some .denomination ∧ s.denominationFits (Identity.ofTag k.image) then
        match s.judgeIdentity (Identity.ofTag k.image) with
        | some why => Slot.refusedAs why (some (Identity.ofTag k.image)) (s.slot p).committed
        | none => Slot.accepted (Identity.ofTag k.image) (s.params.lowLevels.get p) (s.slot p).committed
      else s.slot p := by
  unfold State.rejudgedSlot
  rw [hk, h]

end RejudgedSlot

/-- A cassette with an identity in a state that R43 judges again. -/
theorem PosState.judged_iff (x : PosState) :
    x = .inService ∨ x = .suspended ∨ x = .unlocked ↔
      x ≠ .absent ∧ x ≠ .identifying ∧ x ≠ .releasePending ∧ x ≠ .refused := by
  cases x <;> decide

theorem State.configured_plain (s : State) (items : List ConfigItem) (p : Pos)
    (hd : (items.foldl Params.apply s.params).denominations = s.params.denominations) :
    let q := items.foldl Params.apply s.params
    (s.configured items).reform.slot p =
      { s.slot p with
        state := if (s.slot p).state = .inService ∧ q.suspendThreshold ≠ s.params.suspendThreshold
            ∧ q.suspendThreshold ≤ windowFails (s.slot p).window then .suspended else (s.slot p).state,
        low := (s.slot p).state.live && decide ((s.slot p).count ≤ q.lowLevels.get p),
        committed := (s.configured items).reform.committedAt p } := by
  intro q
  have slot := s.itemsActed_slot items p
  unfold State.slotJudged at slot
  rw [if_pos hd] at slot
  rw [State.configured_slot, slot]

theorem State.configured_alarms (s : State) (items : List ConfigItem) : (s.configured items).alarms = (s.itemsActed items).alarms := by
  rw [State.configured_frame]

/-- The marks of the wall and the lane count that waits (R138, R181). -/
theorem State.configured_marks (s : State) (items : List ConfigItem) :
    (s.configured items).wall = { s.wall with laneCountSet := s.wall.laneCountSet || items.any namesLaneCount }
      ∧ (s.configured items).ring = { s.ring with
          pendingCount := if items.any namesLaneCount then some (items.foldl Params.apply s.params).laneCount
                          else s.ring.pendingCount } := by
  have settings := s.itemsActed_settings items
  rw [State.withItems_frame] at settings
  simp only [State.settings, Prod.mk.injEq] at settings
  rw [State.configured_frame]
  exact ⟨settings.2.1, settings.2.2.1⟩

/-- A slot with its low flag formed anew and its committed notes (R17, R46). -/
def Slot.relowed (x : Slot) (level committed : Nat) : Slot :=
  { x with low := x.state.live && decide (x.count ≤ level), committed := committed }

/-- The positions as CONFIGURE with another denomination table leaves them (R43, R46). -/
theorem State.configured_judged (s : State) (items : List ConfigItem) (p : Pos)
    (hd : (items.foldl Params.apply s.params).denominations ≠ s.params.denominations)
    (ht : (items.foldl Params.apply s.params).suspendThreshold = s.params.suspendThreshold) :
    (s.configured items).reform.slot p =
      ((s.withItems items).rejudgedSlot p).relowed ((items.foldl Params.apply s.params).lowLevels.get p)
        ((s.configured items).reform.committedAt p) := by
  have slot := s.itemsActed_slot items p
  unfold State.slotJudged at slot
  rw [if_neg hd] at slot
  rw [State.configured_slot, slot]
  simp only [ht, ne_eq, not_true_eq_false, false_and, and_false, if_false]
  rfl

theorem State.denominationFits_congr {k : Identity} (hp : t.params = s.params) :
    t.denominationFits k = s.denominationFits k := by
  unfold State.denominationFits
  rw [hp]

section RelowedRows
variable {k : Identity} (level committed : Nat)

/-- A cassette in service that the new table lists keeps its slot, with the tag's note value. -/
theorem State.relowed_listed (hk : (s.slot p).identity = some k)
    (hx : (s.slot p).state = .inService ∨ (s.slot p).state = .suspended ∨ (s.slot p).state = .unlocked)
    (hf : s.denominationFits (Identity.ofTag k.image) = true) :
    (s.rejudgedSlot p).relowed level committed =
      { s.slot p with
        identity := some { k with noteValue := (Identity.ofTag k.image).noteValue },
        low := (s.slot p).state.live && decide ((s.slot p).count ≤ level), committed := committed } := by
  rw [State.rejudgedSlot_service hk hx, if_pos hf]
  rfl

theorem State.relowed_unlisted (hk : (s.slot p).identity = some k)
    (hx : (s.slot p).state = .inService ∨ (s.slot p).state = .suspended ∨ (s.slot p).state = .unlocked)
    (hf : s.denominationFits (Identity.ofTag k.image) = false) :
    (s.rejudgedSlot p).relowed level committed =
      Slot.refusedAs .denomination (some (Identity.ofTag k.image)) committed := by
  rw [State.rejudgedSlot_service hk hx, if_neg (by rw [hf]; exact Bool.false_ne_true)]
  rfl

/-- A refused cassette that R43 does not judge again. -/
theorem State.relowed_refused (hk : (s.slot p).identity = some k) (hx : (s.slot p).state = .refused)
    (h : (s.slot p).refused ≠ some .denomination ∨ s.denominationFits (Identity.ofTag k.image) = false) :
    (s.rejudgedSlot p).relowed level committed = { s.slot p with low := false, committed := committed } := by
  have same : s.rejudgedSlot p = s.slot p := by
    refine (State.rejudgedSlot_refused hk hx).trans (if_neg fun ⟨why, fits⟩ => ?_)
    exact h.elim (· why) fun no => Bool.false_ne_true (no.symm.trans fits)
  have low : ((s.slot p).state.live && decide ((s.slot p).count ≤ level)) = false := by
    rw [hx]
    rfl
  rw [same, Slot.relowed, low]

/-- A tag that the table lists is judged by R42's two other checks. -/
theorem State.judgeIdentity_listed (hf : s.denominationFits (Identity.ofTag k.image) = true) :
    let tag := Identity.ofTag k.image
    s.judgeIdentity tag =
      if tag.capacity < 100 ∨ 3000 < tag.capacity ∨ tag.capacity < tagBalance k.image then some .capacity
      else if tag.thickness < 50 ∨ 250 < tag.thickness ∨ tag.length < 100 ∨ 200 < tag.length then some .gaugeReference
      else none :=
  (s.judgeIdentity_rows _).trans (if_neg (not_not.2 hf))

/-- A cassette refused for its denomination that the new table lists is judged by R42's other checks. -/
theorem State.relowed_rejudged (hk : (s.slot p).identity = some k) (hx : (s.slot p).state = .refused)
    (hr : (s.slot p).refused = some .denomination) (hf : s.denominationFits (Identity.ofTag k.image) = true) :
    let tag := Identity.ofTag k.image
    (s.rejudgedSlot p).relowed (s.params.lowLevels.get p) committed =
      if tag.capacity < 100 ∨ 3000 < tag.capacity ∨ tag.capacity < tagBalance k.image then
        Slot.refusedAs .capacity (some tag) committed
      else if tag.thickness < 50 ∨ 250 < tag.thickness ∨ tag.length < 100 ∨ 200 < tag.length then
        Slot.refusedAs .gaugeReference (some tag) committed
      else Slot.accepted tag (s.params.lowLevels.get p) committed := by
  intro tag
  rw [State.rejudgedSlot_refused hk hx, if_pos ⟨hr, hf⟩, State.judgeIdentity_listed hf]
  by_cases capacity : tag.capacity < 100 ∨ 3000 < tag.capacity ∨ tag.capacity < tagBalance k.image
  · rw [if_pos capacity, if_pos capacity]
    rfl
  · rw [if_neg capacity, if_neg capacity]
    by_cases gauge : tag.thickness < 50 ∨ 250 < tag.thickness ∨ tag.length < 100 ∨ 200 < tag.length
    · rw [if_pos gauge, if_pos gauge]
      rfl
    · rw [if_neg gauge, if_neg gauge]
      rfl

end RelowedRows

/-- Whether D takes a store follows the slot of D and the parameters, whatever notes are committed. -/
theorem State.configured_storeFit (s : State) (items : List ConfigItem) :
    (s.configured items).reform.storeFit = (s.itemsActed items).storeFit := by
  rw [State.reform_storeFit]
  refine State.storeFit_congr ?_ ?_ <;> rw [State.configured_frame]

/-- A pick claim that waits is halted by the state in which the items leave D (R60). -/
theorem State.configured_halted (s : State) (items : List ConfigItem) (hl : (s.configured items).alarms.lockdown = s.alarms.lockdown) :
    (((s.configured items).reform.slot .d).state = .suspended → s.haltsWaiting (s.configured items).reform .suspended)
      ∧ (((s.configured items).reform.slot .d).state = .refused → s.haltsWaiting (s.configured items).reform .notReady) := by
  have state : ((s.configured items).reform.slot .d).state = ((s.itemsActed items).slot .d).state := by
    rw [State.configured_slot]
  rw [State.configured_alarms] at hl
  rw [state]
  refine ⟨fun h => s.configured_halts items hl ?_, fun h => s.configured_halts items hl ?_⟩ <;> rw [Slot.pickUnfit, h]

/-- Settles O52: the checks item by item (a), what the items leave (b), and the ranges and effects of each item (c, d). -/
theorem configureChecksThenApplies : Obligations.ConfigureChecksThenApplies := by
  refine ⟨fun before after x s h hb => ⟨fun hr => ?_, fun hr hs hw => ?_, fun hr hs hw hst => ?_⟩, fun items s h hi hb => ?_,
    ⟨fun n => ?_, setupOnly_iff⟩, fun q n => ?_⟩
  · refine State.configure_refused h hb ?_ after
    simp [Wall.checkItem, hr]
  · refine State.configure_refused h hb ?_ after
    simp [Wall.checkItem, hr, hs, hw]
  · refine State.configure_refused h hb ?_ after
    simp [Wall.checkItem, hr, hs, hw, hst]
  · have run : exec (.configure items) s = .next ((s.configured items).reform.hold ⟨.ok, []⟩) := by
      rw [State.configure_checks h hi, Wall.checkItems_allowed hb]
      rfl
    have params : (s.configured items).reform.params = items.foldl Params.apply s.params := s.configured_params items
    obtain ⟨wall, ring⟩ := s.configured_marks items
    have plain (p : Pos) := s.configured_plain items p
    have judged (p : Pos) := s.configured_judged items p
    have fits (k : Identity) : (s.withItems items).denominationFits k = (s.configured items).reform.denominationFits k :=
      State.denominationFits_congr (by rw [params, State.withItems_frame])
    have held (p : Pos) : (s.withItems items).slot p = s.slot p := by rw [State.withItems_frame]; rfl
    have placed : (s.withItems items).params = (s.configured items).reform.params := by rw [params, State.withItems_frame]
    have alarms := s.configured_alarms items
    have follows := s.itemsActed_alarms items
    have accepted (p : Pos) (k : Identity) := s.itemsActed_accepted (p := p) (k := k) items
    have redecides := s.configured_redecides items
    have fit := s.configured_storeFit items
    have halted := s.configured_halted items
    have points := s.configured_countPoint items
    rw [← State.reform_wall] at wall
    rw [← State.reform_ring] at ring
    rw [← State.reform_alarms] at alarms halted
    rw [← State.reform_countPoint (s := s.configured items)] at points
    rw [← params] at plain judged follows accepted points ring
    rw [← alarms] at accepted follows redecides
    rw [← fit] at redecides
    generalize (s.configured items).reform = v at *
    refine ⟨v.hold ⟨.ok, []⟩, run, rfl, params, congrArg Wall.laneCountSet wall, congrArg Ring.pendingCount ring,
      (congrArg Wall.service wall).trans rfl, (congrArg Wall.starting wall).trans rfl,
      fun p => ⟨fun hd => ?_, fun hd => ⟨fun k hk ha hi hp ht => ⟨fun hr hf => ?_, fun hr hf => ?_, fun hr hf => ?_,
        fun hr hw hf => ?_⟩, fun hx ht => ?_⟩⟩, fun hd => ⟨fun hc => ?_, fun hc => ?_⟩, fun hs => ?_, fun hl => ?_,
        fun hp => ?_, fun hp hc => ?_, fun hp hc => ?_, fun hp hc => ?_⟩
    · exact (plain p hd).trans rfl
    · refine (judged p hd ht).trans ((State.relowed_listed _ _ (by rw [held, hk]) ?_ ((fits _).trans hf)).trans ?_)
      · rw [held]
        exact (PosState.judged_iff _).2 ⟨ha, hi, hp, hr⟩
      · rw [held]
        rfl
    · refine (judged p hd ht).trans ((State.relowed_unlisted _ _ (by rw [held, hk]) ?_ ((fits _).trans hf)).trans rfl)
      rw [held]
      exact (PosState.judged_iff _).2 ⟨ha, hi, hp, hr⟩
    · refine (judged p hd ht).trans ((State.relowed_refused _ _ (by rw [held, hk]) (by rw [held, hr]) ?_).trans ?_)
      · rw [held]
        exact hf.imp id (fits _).trans
      · rw [held]
        rfl
    · have listed := (fits (Identity.ofTag k.image)).trans hf
      have slot := (judged p hd ht).trans
        (placed ▸ State.relowed_rejudged _ (by rw [held, hk]) (by rw [held, hr]) (by rw [held, hw]) listed)
      have good := State.judgeIdentity_listed listed
      split
      · exact slot.trans (if_pos ‹_›)
      · split
        · exact slot.trans ((if_neg ‹_›).trans (if_pos ‹_›))
        · exact ⟨accepted p k hd hk hr hw (good.trans ((if_neg ‹_›).trans (if_neg ‹_›))),
            slot.trans ((if_neg ‹_›).trans (if_neg ‹_›))⟩
    · have same : (s.withItems items).rejudgedSlot p = s.slot p := by
        rw [← held]
        rw [← held] at hx
        exact hx.elim State.rejudgedSlot_none State.rejudgedSlot_kept
      refine (judged p hd ht).trans ?_
      rw [same]
      rfl
    · exact (follows hd).1 hc
    · exact (follows hd).2 hc
    · rw [State.takesStores_iff] at hs
      exact (redecides (Bool.eq_false_iff.2 hs))
    · exact halted hl
    · exact points.1 hp
    · exact (points.2 hp).trans ((CountPoint.requested_idle hc).trans rfl)
    · refine (points.2 hp).trans ((CountPoint.requested_quiescing hc).trans ?_)
      rw [PosSet.union_empty]
    · refine (points.2 hp).trans ((CountPoint.requested_balancing hc).trans ?_)
      rw [PosSet.union_empty]
  · refine ⟨within_iff, decide_eq_true_iff, within_iff, within_iff, within_iff, within_iff, decide_eq_true_iff, within_iff,
      within_iff, within_iff, decide_eq_true_iff, decide_eq_true_iff, rfl, fun p => ?_, fun values => ?_, fun classes => ?_,
      fun classes => ?_⟩
    · simp only [itemInRange, Bool.and_eq_true, within_iff, decide_eq_true_iff, and_assoc]
    · simp only [itemInRange, Bool.and_eq_true, runWithin_iff, List.all_eq_true, decide_eq_true_iff, and_assoc]
    · simp only [itemInRange, Bool.and_eq_true, runWithin_iff, classesNamed_iff, Bool.or_eq_true, decide_eq_true_iff, and_assoc,
        Nat.zero_le, true_and, imp_iff_not_or]
    · simp only [itemInRange, Bool.and_eq_true, runWithin_iff, classesNamed_iff, and_assoc]
  · refine ⟨rfl, rfl, rfl, rfl, rfl, rfl, rfl, rfl, rfl, rfl, rfl, rfl, fun p => ?_, fun values h => ?_, fun classes h hl => ?_,
      fun classes h => ?_⟩
    · rw [Params.apply, Pos_ofNat_number]
    · simp only [itemInRange, Bool.and_eq_true, runWithin_iff] at h
      obtain ⟨⟨first, -, last⟩, -⟩ := h
      exact ⟨_, rfl, setDenominations_get q.denominations first last⟩
    · simp only [itemInRange, Bool.and_eq_true, runWithin_iff, classesNamed_iff] at h
      obtain ⟨⟨⟨-, -, last⟩, named⟩, -⟩ := h
      obtain ⟨length, ranks⟩ := setClasses_get hl last named
      exact ⟨_, rfl, length, ranks⟩
    · simp only [itemInRange, Bool.and_eq_true, runWithin_iff, classesNamed_iff] at h
      obtain ⟨⟨first, -, last⟩, named⟩ := h
      exact ⟨_, rfl, setSources_get q.sourceClasses first last named⟩

end Sys2Proof.Machine
end

section
/-! PROOFS. One retract for a lane at most, in the list or in flight (R65, R83). `State.KeepsRetracts` is the relation in which every
operation stands. Few operations touch the list or the route: a retract asked, promoted, granted or ended, and a delivery or a
sweep that takes or frees the route; the others stand in the relation by their frames. -/

namespace Sys2Proof.Machine

/-! ### What keeps one retract for a lane -/

/-- The lanes of the retract list, oldest retract first. -/
def State.retractLanes (s : State) : List Lane := s.retracts.map Retract.lane

theorem State.retractsOnce_iff {s : State} :
    s.retractsOnce ↔ s.retractLanes.Nodup ∧ ∀ l ∈ s.retractLanes, s.retractingFrom l = false := by
  simp only [State.retractsOnce, State.retractLanes, List.forall_mem_map]

/-- The records that the retracts stand in. -/
def State.drawing (s : State) : List Retract × Route := (s.retracts, s.route)

/-- An operation that keeps one retract for a lane at most (R65, R83). -/
def State.KeepsRetracts (s t : State) : Prop := s.retractsOnce → t.retractsOnce

namespace State.KeepsRetracts
variable {s t u : State} {c : Prop} [Decidable c]

theorem refl : s.KeepsRetracts s := id

theorem trans (h : s.KeepsRetracts t) (k : t.KeepsRetracts u) : s.KeepsRetracts u := k ∘ h

/-- Lanes that leave the list keep it, and so does a route that no retract has newly taken. -/
theorem of_sublist (hl : t.retractLanes.Sublist s.retractLanes)
    (hr : ∀ l, t.retractingFrom l = true → s.retractingFrom l = true) : s.KeepsRetracts t := fun h => by
  obtain ⟨once, free⟩ := State.retractsOnce_iff.1 h
  refine State.retractsOnce_iff.2 ⟨once.sublist hl, fun l hm => Bool.eq_false_iff.2 fun ht => ?_⟩
  exact Bool.false_ne_true ((free l (hl.subset hm)).symm.trans (hr l ht))

/-- The records as they were. -/
theorem same (h : t.drawing = s.drawing) : s.KeepsRetracts t := by
  obtain ⟨hl, hr⟩ := Prod.mk.inj h
  refine .of_sublist (by rw [State.retractLanes, hl]; exact .refl _) fun l => ?_
  rw [State.retractingFrom, hr]
  exact id

/-- A route that no retract takes. -/
theorem routed (hl : t.retractLanes = s.retractLanes) (hr : ∀ l, t.retractingFrom l = false) : s.KeepsRetracts t :=
  .of_sublist (hl ▸ .refl _) fun l h => absurd h (Bool.eq_false_iff.1 (hr l))

/-- An operation made from a state that is itself reached by one. -/
theorem since (k : t.KeepsRetracts u) (h : s.KeepsRetracts t) : s.KeepsRetracts u := h.trans k

/-- An operation made from a state with the records of the one before. -/
theorem after (k : t.KeepsRetracts u) (h : t.drawing = s.drawing := by rfl) : s.KeepsRetracts u := (same h).trans k

theorem ite (h : s.KeepsRetracts t) (k : s.KeepsRetracts u) : s.KeepsRetracts (if c then t else u) := by split <;> assumption

/-- An operation that follows only under a condition. -/
theorem thenIf (h : s.KeepsRetracts t) (k : t.KeepsRetracts u) : s.KeepsRetracts (if c then u else t) := .ite (h.trans k) h

/-- An operation made for each of several places. -/
theorem foldl {α : Type} {f : State → α → State} (hf : ∀ (s : State) (x : α), s.KeepsRetracts (f s x)) (xs : List α) (s : State) :
    s.KeepsRetracts (xs.foldl f s) := by
  induction xs generalizing s with
  | nil => exact .refl
  | cons x xs ih => exact (hf s x).trans (ih _)

end State.KeepsRetracts

variable (s : State)

/-! ### Retracts asked, promoted, granted and ended (R65, R80, R83, R84) -/

/-- A retract asked joins the list of a lane that has none (R83). -/
theorem State.retracts_askRetract (e : Retract) : s.KeepsRetracts (s.askRetract e) := fun h => by
  rcases State.askRetract_cases (s := s) e with ⟨free, he⟩ | ⟨-, he⟩ <;> rw [he]
  · obtain ⟨once, away⟩ := State.retractsOnce_iff.1 h
    obtain ⟨absent, flight⟩ := Bool.or_eq_false_iff.1 free
    have new : e.lane ∉ s.retractLanes := fun hm => by
      obtain ⟨x, hx, hl⟩ := List.mem_map.1 hm
      exact List.any_eq_false.1 absent x hx (decide_eq_true hl)
    have lanes : State.retractLanes { s with retracts := s.retracts ++ [e] } = s.retractLanes ++ [e.lane] := List.map_append
    refine State.retractsOnce_iff.2 (lanes ▸ ⟨?_, fun l hl => ?_⟩)
    · exact List.concat_eq_append ▸ once.concat new
    · rcases List.mem_append.1 hl with hl | hl
      · exact away l hl
      · exact List.mem_singleton.1 hl ▸ flight
  · exact h

theorem lanes_claimFirst (xs : List Retract) : (claimFirst xs).map Retract.lane = xs.map Retract.lane := by
  induction xs with
  | nil => rfl
  | cons x xs ih =>
    unfold claimFirst
    split
    · rfl
    · rw [List.map_cons, List.map_cons, ih]

/-- A promotion changes the stage of an entry, not its lane (R65). -/
theorem State.retracts_promote (e : Retract) : s.KeepsRetracts (s.promote e) := by
  have claimed : s.KeepsRetracts { s with retracts := claimFirst s.retracts } :=
    .of_sublist (by rw [State.retractLanes, lanes_claimFirst]; exact .refl _) fun _ => id
  unfold State.promote
  dsimp only
  split
  · exact claimed.trans (.same (by rw [State.claim_frame]; rfl))
  · exact claimed

/-- The entry granted goes from the list to the route (R80, R84). -/
theorem State.retracts_granted {e : Retract} (h : e ∈ s.retracts) :
    s.KeepsRetracts { s with retracts := s.retracts.erase e, route := .retracting e.lane e.holder e.kind e.expected } := by
  intro hs
  obtain ⟨once, -⟩ := State.retractsOnce_iff.1 hs
  have lanes : (e.lane :: (s.retracts.erase e).map Retract.lane).Nodup :=
    ((List.perm_cons_erase h).map Retract.lane).nodup once
  obtain ⟨gone, rest⟩ := List.nodup_cons.1 lanes
  exact State.retractsOnce_iff.2 ⟨rest, fun l hl => decide_eq_false fun hel => gone (hel ▸ hl)⟩

end Sys2Proof.Machine
end

section
/-! PROOFS. The shared operations and the movements of the engines keep one retract for a lane (R65, R83), in the order of the
definitions they speak of. -/

namespace Sys2Proof.Machine

variable (s : State)

/-! ### Tickets -/

section Tickets
variable (n : Nat)

theorem State.retracts_rewrite (b : TicketBody) : s.KeepsRetracts (s.rewrite n b) := .same (by rw [State.rewrite_frame]; rfl)

theorem State.retracts_move (b : TicketBody) : s.KeepsRetracts (s.move n b) := .same (by rw [State.move_frame]; rfl)

theorem State.retracts_claim (takenIn : DispenseState → Bool) (f : Dispense → Dispense) :
    s.KeepsRetracts (s.claim n takenIn f) := .same (by rw [State.claim_frame]; rfl)

theorem State.retracts_adjust (f : Dispense → Dispense) : s.KeepsRetracts (s.adjust n f) :=
  .same (by rw [State.adjust_frame]; rfl)

theorem State.retracts_joinQueue : s.KeepsRetracts (s.joinQueue n) := (s.retracts_adjust n _).trans (.same rfl)

theorem State.retracts_envelopeClaim (takenIn : EnvelopeState) (f : Envelope → Envelope) :
    s.KeepsRetracts (s.envelopeClaim n takenIn f) := by
  unfold State.envelopeClaim
  split
  · exact .ite (s.retracts_move n _) .refl
  · exact .refl

theorem State.retracts_intakeClaim (takenIn next : IntakeState) : s.KeepsRetracts (s.intakeClaim n takenIn next) := by
  unfold State.intakeClaim
  split
  · exact .ite (s.retracts_move n _) .refl
  · exact .refl

theorem State.retracts_markTicket (teller : Teller) : s.KeepsRetracts (s.markTicket n teller) := by
  unfold State.markTicket
  split
  · exact .same rfl
  · exact .refl

theorem State.retracts_applyAmend (d : Dispense) (who : Teller) (amount : Nat) (plan : List Segment) :
    s.KeepsRetracts (s.applyAmend n d who amount plan) := by
  have moved (b : TicketBody) : s.KeepsRetracts (((s.leaveQueue n).markTicket n who).move n b) :=
    (State.retracts_move _ _ _).since (State.retracts_markTicket _ _ _).after
  exact .ite (s.retracts_rewrite n _) (.ite (moved _) ((State.retracts_joinQueue _ _).since (moved _)))

theorem State.retracts_askClose (l : Lane) : s.KeepsRetracts (s.askClose l) := by
  rcases State.askClose_cases (s := s) l with ⟨p, -, h⟩ | ⟨-, h⟩ <;> rw [h]
  · exact .same rfl
  · exact .refl

theorem State.retracts_endPicked (d : Dispense) : s.KeepsRetracts (s.endPicked n d) :=
  .ite ((s.retracts_move n _).trans (.same rfl)) ((s.retracts_move n _).trans (.same rfl))

/-- A VOID taken moves its ticket, purges staging or asks the drawer to close (R25 to R27). -/
theorem State.retracts_voidTicket {t : Ticket} {u : State} (h : s.voidTicket t = some u) : s.KeepsRetracts u := by
  have letGo : s.KeepsRetracts (s.letGo t.number) := .thenIf .refl (.same rfl)
  unfold State.voidTicket State.voidDispense at h
  split at h
  · split at h <;> try split at h
    all_goals cases h
    · exact s.retracts_move _ _
    · exact (State.retracts_move _ _ _).after
    · exact s.retracts_move _ _
    · exact (State.retracts_endPicked _ _ _).since letGo
    · exact s.retracts_endPicked _ _
    · exact (s.retracts_move _ _).trans (.same rfl)
    · exact .refl
    · exact (State.retracts_askClose _ _).since (s.retracts_rewrite _ _)
  · split at h <;> cases h
    exact s.retracts_move _ _
  · split at h <;> cases h
    exact s.retracts_move _ _

theorem State.retracts_takeUp : s.KeepsRetracts (s.takeUp n) := .same (by rw [State.takeUp_frame]; rfl)

theorem State.retracts_select : s.KeepsRetracts (s.select n) :=
  (State.retracts_takeUp _ n).since (.trans (State.retracts_claim _ n _ _).after (.same rfl))

theorem State.retracts_takeExpired : s.KeepsRetracts (s.takeExpired n) := by
  unfold State.takeExpired
  split
  · exact .ite ((State.retracts_askClose _ _).since (s.retracts_rewrite _ _)) .refl
  · exact .refl

end Tickets

/-! ### Claims on the D gate and sources of the Alarm Unit -/

theorem State.PicksOnly.retracts {s t : State} (h : s.PicksOnly t) : s.KeepsRetracts t := .same (by rw [h.same]; rfl)

theorem State.Spares.retracts {s t : State} (h : s.Spares t) : s.KeepsRetracts t := .same (by rw [h.same]; rfl)

theorem State.retracts_hand (o : Owned) (active : Bool) : s.KeepsRetracts (s.hand o active) :=
  (s.handed_hand o active).spares.retracts

theorem State.retracts_handVaults : s.KeepsRetracts s.handVaults := s.handed_handVaults.spares.retracts

theorem State.retracts_changeRejectVault (f : RejectVault → RejectVault) : s.KeepsRetracts (s.changeRejectVault f) :=
  (State.retracts_handVaults _).after

theorem State.retracts_reclassInputs (pattern : BitVec 6) : s.KeepsRetracts (s.reclassInputs pattern) :=
  (s.handed_reclassInputs pattern).1.spares.retracts

theorem State.retracts_sample (levels : BitVec 6) : s.KeepsRetracts (s.sample levels) := by
  unfold State.sample
  dsimp only
  split
  · exact .ite (.same rfl) (State.retracts_reclassInputs _ _).after
  · exact .same rfl

theorem State.retracts_acknowledge (r : AlarmRecord) : s.KeepsRetracts (s.acknowledge r) := by
  unfold State.acknowledge
  split
  · exact (State.handed_setRecords _ _ _).spares.retracts
  · exact (State.handed_setRecords _ _ _).spares.retracts
  · exact .refl

/-! ### Cassettes and count points -/

theorem State.retracts_endTransfer : s.KeepsRetracts s.endTransfer := .same (by rw [State.endTransfer_frame]; rfl)

theorem State.retracts_judgeCassette (p : Pos) (k : Identity) : s.KeepsRetracts (s.judgeCassette p k) := by
  unfold State.judgeCassette
  split
  · exact .same rfl
  · exact (State.retracts_hand _ _ _).after

theorem State.retracts_endRead (p : Pos) (tries : List TagTry) : s.KeepsRetracts (s.endRead p tries) := by
  unfold State.endRead
  split
  · exact (State.retracts_endTransfer _).since (s.retracts_judgeCassette _ _)
  · exact (State.retracts_endTransfer _).after
  · exact .refl

theorem State.retracts_remove (p : Pos) : s.KeepsRetracts (s.remove p) :=
  .same (by rw [State.remove_frame, State.drawnOut_frame]; rfl)

theorem State.retracts_requestCount (c : Cause) (release : PosSet) : s.KeepsRetracts (s.requestCount c release) :=
  .same (by rw [State.requestCount_frame]; rfl)

theorem State.retracts_publish (result : CountResult) : s.KeepsRetracts (s.publish result) :=
  .same (by rw [State.publish_frame]; rfl)

theorem State.retracts_handWriteBack (p : Pos) (ok : Bool) : s.KeepsRetracts (s.handWriteBack p ok) := by
  rw [State.handWriteBack_eq]
  exact .after (.thenIf .refl (State.retracts_publish _ _))

theorem State.retracts_enterBalancing : s.KeepsRetracts s.enterBalancing := by
  rw [State.enterBalancing_eq, State.askWriteBacks_frame]
  exact .after (.thenIf .refl (State.retracts_publish _ _))

theorem State.retracts_settle (t : Ticket) : s.KeepsRetracts (s.settle t) := by
  have counted (u : State) : u.KeepsRetracts u.countSettlement := .thenIf (.same rfl) (State.retracts_requestCount _ _ _)
  unfold State.settle
  split
  · exact (counted _).after
  · exact (counted _).after
  · exact .same rfl

theorem State.retracts_configured (items : List ConfigItem) : s.KeepsRetracts (s.configured items) := by
  have placed : s.KeepsRetracts (s.withItems items) := .same (by rw [State.withItems_frame]; rfl)
  have judged (u : State) : u.KeepsRetracts (u.rejudged s.params) := by
    refine .ite .refl (.foldl (fun v p => ?_) _ u)
    rcases v.rejudge_cases p with ⟨x, h⟩ | h | ⟨x, h⟩ <;> rw [h]
    · exact .same rfl
    · exact .refl
    · exact (State.retracts_hand _ _ _).after
  have reclassed (u : State) : u.KeepsRetracts (u.reclassed s.params) := .ite .refl (u.retracts_reclassInputs _)
  have reslotted (u : State) : u.KeepsRetracts (u.reslotted s.params) :=
    .foldl (f := State.reslot _) (fun _ _ => .same rfl) _ u
  have asked (u : State) : u.KeepsRetracts (u.recheckGate.recountPeriodic s.params.periodicCount) :=
    .same (by rw [State.recountPeriodic_frame, State.recheckGate_frame]; rfl)
  rw [State.configured_eq]
  exact (asked _).since ((reslotted _).since ((reclassed _).since ((judged _).since placed)))

/-! ### Picks and purges -/

theorem State.retracts_countPick (p : Pos) (r : GaugeResult) : s.KeepsRetracts (s.countPick p r) := by
  have taken : s.KeepsRetracts (s.countSlot p r) := .same (by rw [State.countSlot_frame]; rfl)
  rw [State.countPick_eq, State.recheckGate_frame]
  exact .trans (.thenIf taken (State.retracts_changeRejectVault _ _)) (.same rfl)

theorem State.retracts_nextStep (n : Nat) (r : GaugeResult) : s.KeepsRetracts (s.nextStep n r) := by
  unfold State.nextStep
  split
  · split
    · exact .ite ((s.retracts_claim n _ _).trans (.same rfl))
        (.ite (State.picksOnly_haltPick _ _).retracts (s.retracts_takeUp n))
    · exact .ite (.same rfl) ((s.retracts_claim n _ _).trans (.same rfl))
    all_goals exact .refl
  · exact .refl

theorem State.retracts_pickResult (n : Nat) (p : Pos) (r : GaugeResult) : s.KeepsRetracts (s.pickResult n p r) := by
  have counted : s.KeepsRetracts ((s.countPick p r).adjust n (Dispense.takeResult r)) :=
    (State.retracts_adjust _ _ _).since (s.retracts_countPick p r)
  have freed (u : State) : u.KeepsRetracts u.freeGate := .same (by rw [State.freeGate_frame]; rfl)
  have next (u : State) (hu : s.KeepsRetracts u) : s.KeepsRetracts ({ u with picker := u.picker.stop }.nextStep n r) :=
    (State.retracts_nextStep _ n r).since (hu.trans (.same rfl))
  exact next _ (.thenIf (counted.trans (.same rfl)) (freed _))

theorem State.retracts_takeGauge (r : GaugeResult) : s.KeepsRetracts (s.takeGauge r) := by
  have formed (u : State) : u.KeepsRetracts u.reform := .same rfl
  unfold State.takeGauge
  split
  · exact (formed _).since (s.retracts_pickResult _ _ _)
  · exact .refl

theorem State.retracts_endPurge (count : Nat) : s.KeepsRetracts (s.endPurge count) := by
  have emptied (u : State) (hu : s.KeepsRetracts u) : s.KeepsRetracts { u with staging := .empty } := hu.trans (.same rfl)
  unfold State.endPurge
  dsimp only
  split
  · exact emptied _ ((State.retracts_claim _ _ _ _).since (s.retracts_changeRejectVault _))
  · exact emptied _ (s.retracts_changeRejectVault _)

/-! ### Deliveries, disputes and sweeps -/

theorem State.retracts_deliver (n : Nat) (l : Lane) : s.KeepsRetracts (s.deliver n l) :=
  (s.retracts_claim n _ _).trans (.routed rfl fun _ => rfl)

theorem State.retracts_dispute (n : Nat) (l : Lane) : s.KeepsRetracts (s.dispute n l) := by
  unfold State.dispute
  split
  · exact .ite ((s.retracts_move n _).trans (.same rfl)) .refl
  · exact .refl

theorem State.retracts_arrive (l : Lane) (n : Nat) : s.KeepsRetracts (s.arrive l n) := by
  have freed : s.KeepsRetracts { s.putLane l { s.lane l with holder := some (.ticket n) } with route := .free } :=
    .routed rfl fun _ => rfl
  have presented (u : State) (p : Option Presentation) (hu : s.KeepsRetracts u) : s.KeepsRetracts (u.putPresentation l p) :=
    hu.trans (.same rfl)
  exact .thenIf (.thenIf (presented _ _ ((State.retracts_claim _ n _ _).since freed)) (State.retracts_askRetract _ _))
    (State.retracts_dispute _ n l)

theorem State.retracts_endRetract (l : Lane) (holder : Holder) (kind : RetractKind) (c : Nat) :
    s.KeepsRetracts (s.endRetract l holder kind c) := by
  have freed : s.KeepsRetracts { s.putLane l { s.lane l with holder := none } with route := .free } := .routed rfl fun _ => rfl
  have handed (u : State) : u.KeepsRetracts (u.handRetract holder kind c) := by
    unfold State.handRetract
    split
    · exact (State.retracts_changeRejectVault _ _).since (u.retracts_claim _ _ _)
    · exact (State.retracts_changeRejectVault _ _).after
    · exact u.retracts_changeRejectVault _
  exact ((handed _).since freed).trans (.same rfl)

theorem State.retracts_decideDrawer (l : Lane) : s.KeepsRetracts (s.decideDrawer l) := by
  unfold State.decideDrawer
  dsimp only
  split
  · exact .ite (State.retracts_askRetract _ _).after .refl
  · split
    · exact .ite (.ite (s.retracts_askRetract _) (.ite .refl (.same rfl))) .refl
    · exact .refl
  · exact .refl

theorem State.retracts_endSweep (count : Nat) : s.KeepsRetracts (s.endSweep count) := by
  have freed (u : State) (hu : s.KeepsRetracts u) : s.KeepsRetracts { u with route := .free, sweepDone := true } :=
    hu.trans (.routed rfl fun _ => rfl)
  unfold State.endSweep
  dsimp only
  refine (State.retracts_requestCount _ _ _).since (.since
    (.foldl (fun u l => .thenIf .refl (u.retracts_decideDrawer l)) _ _) ?_)
  exact freed _ (s.retracts_changeRejectVault _)

/-! ### Envelopes and intake runs -/

theorem State.retracts_beginCapture (l : Lane) (n : Nat) : s.KeepsRetracts (s.beginCapture l n) :=
  (s.retracts_envelopeClaim _ _ _).trans (.same rfl)

theorem State.retracts_raiseBin (l : Lane) : s.KeepsRetracts (s.raiseBin l) := .thenIf (.same rfl) (.same rfl)

theorem State.retracts_jam (l : Lane) (why : JamCause) : s.KeepsRetracts (s.jam l why) := by
  unfold State.jam
  dsimp only
  split
  · exact (s.retracts_envelopeClaim _ _ _).trans (.same rfl)
  · exact .refl

theorem State.retracts_takeEvent (l : Lane) (kind : EventKind) : s.KeepsRetracts (s.takeEvent l kind) := by
  cases kind with
  | insert =>
    change s.KeepsRetracts (s.insertEvent l)
    unfold State.insertEvent State.acceptInsert
    split
    · split
      · exact .same rfl
      · split
        · exact s.retracts_beginCapture _ _
        · exact (State.retracts_beginCapture _ _ _).after
    all_goals exact .refl
  | captureDone =>
    change s.KeepsRetracts (s.captureDone l)
    unfold State.captureDone
    dsimp only
    split
    · exact .trans ((State.retracts_envelopeClaim _ _ _ _).since (s.retracts_raiseBin l)) (.same rfl)
    · exact .refl
  | captureJam => exact s.retracts_jam l _
  | returnDone =>
    change s.KeepsRetracts (s.returnDone l)
    unfold State.returnDone
    split
    · exact s.retracts_jam _ _
    · exact .same rfl
    all_goals exact .refl

theorem State.retracts_decideHandling (l : Lane) (x : SlotValue) : s.KeepsRetracts (s.decideHandling l x) := by
  unfold State.decideHandling
  split
  · exact .ite .refl (s.retracts_jam _ _)
  · exact .ite .refl (.same rfl)
  all_goals exact .refl

theorem State.retracts_clearedJam (n : Nat) (l : Lane) (captured : Bool) : s.KeepsRetracts (s.clearedJam n l captured) :=
  .ite (.trans ((State.retracts_envelopeClaim _ _ _ _).since (s.retracts_raiseBin l)) (.same rfl))
    ((s.retracts_envelopeClaim _ _ _).trans (.same rfl))

theorem State.retracts_beginIntake (n : Nat) : s.KeepsRetracts (s.beginIntake n) :=
  .ite ((s.retracts_intakeClaim n _ _).trans (.same rfl)) ((s.retracts_intakeClaim n _ _).trans (.same rfl))

theorem State.retracts_endRun (n : Nat) : s.KeepsRetracts (s.endRun n) := (s.retracts_intakeClaim n _ _).trans (.same rfl)

theorem State.retracts_finishIntake (n : Nat) : s.KeepsRetracts (s.finishIntake n) := by
  unfold State.finishIntake
  split
  · exact .refl
  · dsimp only
    split
    · exact (State.retracts_endRun _ n).after
    all_goals exact .same rfl

theorem State.retracts_notePlaced (n : Nat) (x : Destination) (e : Escrow) : s.KeepsRetracts (s.notePlaced n x e) := by
  have bank : s.KeepsRetracts (s.bankNote x e) := by
    unfold State.bankNote
    split
    · exact .same (by rw [State.freeGate_frame, State.countStore_eq, State.recheckGate_frame, State.storedNote_frame]; rfl)
    · exact (State.retracts_handVaults _).after
    · exact .refl
    · exact .refl
  have counted (u : State) (f : Intake → Intake) : u.KeepsRetracts (u.intakeCount n f) := by
    unfold State.intakeCount
    split
    · exact .ite (u.retracts_rewrite n _) .refl
    · exact .refl
  have leave (u : State) : u.KeepsRetracts (u.leavePlacing n) := .ite (u.retracts_endRun n) (.same rfl)
  exact (leave _).since ((counted _ _).since bank)

/-! ### The Lane Ring -/

theorem State.retracts_changeLane (l : Lane) (r : LaneRec) : s.KeepsRetracts (s.changeLane l r) :=
  .thenIf (.same rfl) (.same rfl)

theorem State.retracts_applyLaneCount : s.KeepsRetracts s.applyLaneCount := by
  have one (count : Nat) (u : State) (l : Lane) : u.KeepsRetracts (State.applyCountTo count u l) :=
    .ite (u.retracts_changeLane _ _)
      (.ite .refl ((State.retracts_hand _ _ _).since ((State.retracts_hand _ _ _).since (u.retracts_changeLane _ _))))
  unfold State.applyLaneCount
  split
  · exact .after (.foldl (one _) _ _)
  · exact .refl

theorem State.retracts_leftOnline (l : Lane) : s.KeepsRetracts (s.leftOnline l) := by
  unfold State.leftOnline
  split
  · exact .thenIf (.ite (s.retracts_adjust _ _) ((s.retracts_adjust _ _).trans (.same rfl))) (State.retracts_askClose _ _)
  · exact .refl

theorem State.retracts_applyFault (l : Lane) : s.KeepsRetracts (s.applyFault l) :=
  .ite (.ite (.ite ((State.retracts_hand _ _ _).since (.thenIf (s.retracts_changeLane _ _) (State.retracts_leftOnline _ _)))
    (.same rfl)) (.same rfl)) .refl

theorem State.retracts_judgeLane (l : Lane) : s.KeepsRetracts (s.judgeLane l) := by
  unfold State.judgeLane
  dsimp only
  split
  · exact .thenIf (s.retracts_changeLane _ _) (State.retracts_leftOnline _ _)
  · exact .refl

theorem State.retracts_decideClose (l : Lane) (p : Presentation) (notes : Bool) : s.KeepsRetracts (s.decideClose l p notes) :=
  .ite ((State.retracts_askRetract _ _).since ((s.retracts_adjust p.ticket _).trans (.same rfl)))
    ((s.retracts_claim p.ticket _ _).trans (.same rfl))

theorem State.retracts_drawerReport (l : Lane) (x : DrawerReport) (notes fault : Bool) :
    s.KeepsRetracts (s.drawerReport l x notes fault) := by
  have present (p : Presentation) : s.KeepsRetracts (s.presentReport l p x notes fault) :=
    .ite (.same rfl) (.ite .refl (.ite (s.retracts_decideClose _ _ _) (.ite (s.retracts_adjust _ _) .refl)))
  have lost (p : Presentation) : s.KeepsRetracts (s.lostReport l p x notes fault) :=
    .ite .refl (.ite (s.retracts_askClose l)
      (.ite ((State.retracts_askRetract _ _).since ((s.retracts_adjust p.ticket _).trans (.same rfl)))
        ((s.retracts_dispute p.ticket l).trans (.same rfl))))
  unfold State.drawerReport
  split
  · split
    · exact .ite (present _) (.ite (lost _) .refl)
    · exact .refl
  · exact .refl

theorem State.retracts_recordReply (l : Lane) (online : Bool) (w : Uplink) : s.KeepsRetracts (s.recordReply l online w) := by
  have recorded (r : LaneRec) (c : Bool) : s.KeepsRetracts ((s.putLane l r).placeIf c .lane) := .thenIf (.same rfl) (.same rfl)
  unfold State.recordReply
  dsimp only
  split
  · exact (State.retracts_hand _ _ _).since (recorded _ _)
  all_goals exact recorded _ _

theorem State.retracts_enterOnline (l : Lane) : s.KeepsRetracts (s.enterOnline l) := by
  unfold State.enterOnline
  dsimp only
  refine .thenIf ?_ (State.retracts_decideDrawer _ _)
  split
  · refine (State.retracts_decideHandling _ _ _).since ?_
    split
    · exact (State.retracts_drawerReport _ _ _ _ _).after
    · exact .same rfl
  · split
    · exact (State.retracts_drawerReport _ _ _ _ _).after
    · exact .same rfl

theorem State.retracts_handOn (l : Lane) (before : LaneRec) : s.KeepsRetracts (s.handOn l before) := by
  have report (u : State) (last : Option Nat) (w : Uplink) : u.KeepsRetracts (u.handReport l last w) := by
    unfold State.handReport
    split
    · exact (State.retracts_drawerReport _ _ _ _ _).after
    · exact .refl
    · exact .ite (u.retracts_takeEvent _ _) .refl
  unfold State.handOn
  dsimp only
  split
  · exact .ite (s.retracts_recordReply _ _ _) (.ite ((report _ _ _).since (s.retracts_recordReply _ _ _))
      ((State.retracts_enterOnline _ _).since (s.retracts_recordReply _ _ _)))
  · exact .refl

theorem State.retracts_endFrame : s.KeepsRetracts s.endFrame :=
  .trans (.since (.foldl (fun u l => u.retracts_handOn l _) _ _)
      (.since (.foldl State.retracts_judgeLane _ _) (.foldl State.retracts_applyFault _ s)))
    (.same rfl)

theorem State.retracts_lostExpired (l : Lane) : s.KeepsRetracts (s.lostExpired l) := by
  unfold State.lostExpired
  split
  · split
    · exact .ite (s.retracts_dispute _ _) (.same rfl)
    · exact .refl
  · exact .same rfl

theorem State.retracts_resolve (n : Nat) (l : Lane) (d : Dispense) (delivered : Nat) :
    s.KeepsRetracts (s.resolve n l d delivered) :=
  .thenIf ((s.retracts_move n _).trans (.same rfl)) (.same rfl)

end Sys2Proof.Machine
end

section
/-! PROOFS. Every command, and every step, keeps one retract for a lane (R65, R83). -/

namespace Sys2Proof.Machine

variable {s t : State}

/-! ### Requests and outcomes -/

theorem State.retracts_beginFrame (s : State) : s.KeepsRetracts s.beginFrame := by
  have back : s.KeepsRetracts (if s.port.read then s
      else ({ s with reasons := s.reasons.union s.port.readOutReasons }.putBackNumbers s.port.readOutNumbers).place .port) :=
    .ite .refl (.same rfl)
  unfold State.beginFrame
  split
  · exact .same rfl
  · exact back.trans (.same rfl)
  · exact .refl
  · exact .same rfl

theorem State.retracts_takeFrame (s : State) : s.KeepsRetracts s.takeFrame := by
  unfold State.takeFrame
  split
  case h_1 | h_2 => exact s.retracts_beginFrame
  case h_3 | h_4 => exact .refl

/-- The outcome of a command, when it has one, keeps one retract for a lane. -/
def State.RetractsBy (s : State) (o : Host.Outcome State Fault Refusal) : Prop := ∀ t, o = .next t → s.KeepsRetracts t

namespace State.RetractsBy

theorem next (h : s.KeepsRetracts t) : s.RetractsBy (.next t) := fun u hu => by
  cases hu; exact h

/-- A command that leaves the state as it was. -/
theorem idle : s.RetractsBy (.next s) := .next .refl

theorem ite {c : Prop} [Decidable c] {o p : Host.Outcome State Fault Refusal} (h : s.RetractsBy o) (k : s.RetractsBy p) :
    s.RetractsBy (if c then o else p) := by split <;> assumption

/-- A command that is a request, by what its checks and its effect grant. -/
theorem request {act : State → Except Status (State × List Byte)} (h : ∀ s : State, Grants s.KeepsRetracts (act s)) :
    s.RetractsBy (.next (s.answer act)) := by
  refine .next ?_
  rcases State.answer_cases (s := s) act with ⟨t, payload, ht, he⟩ | ⟨e, -, he⟩ <;> rw [he]
  · exact ((s.retracts_takeFrame).trans (h _ _ _ ht)).trans (.same rfl)
  · exact (s.retracts_takeFrame).trans (.same rfl)

end State.RetractsBy

/-- The formed values close a command that keeps one retract for a lane. -/
theorem State.KeepsRetracts.reform (h : s.KeepsRetracts t) : s.KeepsRetracts t.reform := h.trans (.same rfl)

/-- An approval of a dual request (R177) keeps one retract for a lane when its effect does. -/
theorem State.retracts_approveDual {x : HeldTarget} {delivered : Option Nat} {teller : Teller} {effect : State → State}
    (h : ∀ u : State, u.KeepsRetracts (effect u)) : Grants s.KeepsRetracts (s.approveDual x delivered teller effect) := by
  unfold State.approveDual
  dsimp only
  split
  · exact .ok (.same rfl)
  · exact .ok (h _).after
  · exact .error

/-! ### The requests -/

theorem State.retractsBy_amend (ticket teller amount : Nat) (segments : List SegmentArg) :
    s.RetractsBy (execAmend ticket teller amount segments s) := by
  refine .request fun s => .need fun _ => .need fun _ => .named fun _ _ => .named fun _ _ => .named fun _ _ => .need fun _ =>
    .named fun k _ => ?_
  split
  · split
    case h_1 | h_2 => exact .need fun _ => .need fun _ => .need fun _ => .need fun _ => .ok (s.retracts_applyAmend _ _ _ _ _).reform
    case h_3 =>
      exact .need fun _ => .need fun _ => .need fun _ => .need fun _ => .need fun _ => .need fun _ => .need fun _ =>
        .ok ((State.retracts_takeUp _ _).since (s.retracts_move _ _)).reform
    all_goals exact .error
  · exact .need fun _ => .named fun _ _ => .ok (s.retracts_rewrite _ _).reform
  · exact .error

theorem State.retractsBy_approve (ticket teller : Nat) : s.RetractsBy (execApprove ticket teller s) := by
  refine .request fun s => .need fun _ => .need fun _ => .named fun _ _ => .named fun _ _ => ?_
  split
  · exact .need fun _ => .need fun _ => .ok
      ((State.retracts_joinQueue _ _).since ((State.retracts_move _ _ _).since (s.retracts_markTicket _ _))).reform
  · exact .error
  · exact .error

theorem State.retractsBy_configure (items : List ConfigItem) : s.RetractsBy (execConfigure items s) := by
  refine .request fun s => .need fun _ => ?_
  split
  · exact .error
  · exact .ok (s.retracts_configured items).reform

theorem State.retractsBy_openDispense (teller lane amount : Nat) (segments : List SegmentArg) :
    s.RetractsBy (execOpenDispense teller lane amount segments s) := by
  have opened (u : State) (who : Teller) (l : Lane) (n : Nat) (plan : List Segment) :
      u.KeepsRetracts (u.openDispenseTicket who l n plan) := .ite (.same rfl) (State.retracts_joinQueue _ _).after
  exact .request fun s => .need fun _ => .named fun _ _ => .named fun _ _ => .need fun _ => .named fun _ _ => .need fun _ =>
    .need fun _ => .need fun _ => .need fun _ => .ok (.reform (opened s _ _ _ _))

theorem State.retractsBy_positionReinstate (position : Nat) : s.RetractsBy (execPositionReinstate position s) :=
  .request fun _ => .named fun _ _ => .need fun _ => .need fun _ => .ok (.reform (.same rfl))

theorem State.retractsBy_positionRelease (position teller : Nat) : s.RetractsBy (execPositionRelease position teller s) := by
  refine .request fun s => .need fun _ => .named fun p _ => .named fun who _ => .need fun _ => .need fun _ => .need fun _ => ?_
  unfold State.approveRelease
  split
  · exact .ok (.same rfl)
  · exact .ok (.reform (.same (by rw [State.releasePosition_frame]; rfl)))
  · exact .error

/-! ### The events -/

theorem State.retractsBy_badFrame (partByte : Bool) (bytes : List Byte) : s.RetractsBy (execBadFrame partByte bytes s) := by
  unfold execBadFrame
  refine .ite ?_ .idle
  split
  · exact .request fun _ => .error
  · exact .idle

theorem State.retractsBy_dualApprovalExpiry (target : DualTarget) : s.RetractsBy (execDualApprovalExpiry target s) := by
  refine .next ?_
  split <;> exact .same rfl

theorem State.retractsBy_ticketSelection : s.RetractsBy (execTicketSelection s) := by
  unfold execTicketSelection
  split
  · exact .next (s.retracts_select _).reform
  · exact .idle

theorem State.retracts_workPick (n : Nat) : s.KeepsRetracts (s.workPick n) := by
  have started (p : Pos) : s.KeepsRetracts (s.startPick n p) := (State.picksOnly_startPick p).retracts
  unfold State.workPick
  split
  · exact .same rfl
  · split
    · exact .refl
    · split
      · exact .refl
      · split
        · exact (State.picksOnly_haltPick n _).retracts
        · exact started _

theorem State.retractsBy_pickerResume : s.RetractsBy (execPickerResume s) := by
  unfold execPickerResume
  split
  · exact .ite (.next (s.retracts_workPick _).reform) .idle
  · exact .idle

theorem State.retractsBy_retractPromotion : s.RetractsBy (execRetractPromotion s) := by
  unfold execRetractPromotion
  split
  · exact .ite (.next (s.retracts_promote _).reform) .idle
  · exact .idle

theorem State.retractsBy_deliveryGrant : s.RetractsBy (execDeliveryGrant s) := by
  unfold execDeliveryGrant
  split
  · exact .next (s.retracts_deliver _ _).reform
  · exact .idle

theorem State.retractsBy_deliveryArrival : s.RetractsBy (execDeliveryArrival s) := by
  unfold execDeliveryArrival
  split
  · exact .next (s.retracts_arrive _ _).reform
  all_goals exact .idle

theorem State.mem_of_grantableRetract {e : Retract} (h : s.grantableRetract = some e) : e ∈ s.retracts := by
  unfold State.grantableRetract at h
  split at h
  · exact List.mem_of_find?_eq_some h
  · cases h

theorem State.retractsBy_retractGrant : s.RetractsBy (execRetractGrant s) := by
  unfold execRetractGrant
  split
  case h_1 e h => exact .next (.reform (s.retracts_granted (State.mem_of_grantableRetract h)))
  case h_2 => exact .idle

theorem State.retractsBy_retractCompletion (count : Nat) : s.RetractsBy (execRetractCompletion count s) := by
  unfold execRetractCompletion
  split
  · exact .next (s.retracts_endRetract _ _ _ _).reform
  all_goals exact .idle

theorem State.retractsBy_cassetteRemoval (p : Pos) : s.RetractsBy (execCassetteRemoval p s) :=
  .ite .idle (.ite (.next ((State.retracts_handWriteBack _ _ _).since (s.retracts_remove p)).reform)
    (.next (s.retracts_remove p).reform))

theorem State.retractsBy_identityReadEnd (tries : List TagTry) : s.RetractsBy (execIdentityReadEnd tries s) := by
  unfold execIdentityReadEnd
  split
  · exact .next (s.retracts_endRead _ _).reform
  all_goals exact .idle

theorem State.retractsBy_tagWriteEnd (tries : List TagTry) : s.RetractsBy (execTagWriteEnd tries s) := by
  have written (p : Pos) (image : List Byte) (ok clears : Bool) :
      s.KeepsRetracts (s.putSlot p ((s.slot p).afterWrite image ok clears)).endTransfer :=
    (State.retracts_endTransfer _).since (.same rfl)
  unfold execTagWriteEnd
  split
  · exact .idle
  · exact .idle
  · split
    · exact .next (written _ _ _ _).reform
    · exact .idle
  · split
    · exact .next ((State.retracts_handWriteBack _ _ _).since (written _ _ _ _)).reform
    · exact .idle

theorem State.retractsBy_vaultPresenceChange (v : Vault) (present : Bool) : s.RetractsBy (execVaultPresenceChange v present s) := by
  have set : s.KeepsRetracts (s.setPresent v present) := by cases v <;> exact .same rfl
  exact .next ((State.retracts_handVaults _).since set).reform

theorem State.retractsBy_escrowEvent (code : Option Code) : s.RetractsBy (execEscrowEvent code s) := by
  unfold execEscrowEvent
  split
  · exact .next (.reform (.same rfl))
  · exact .next (.reform (.same (by rw [State.decideNote_frame]; rfl)))
  all_goals exact .idle

theorem State.retractsBy_notePlaced : s.RetractsBy (execNotePlaced s) := by
  have stray : s.KeepsRetracts s.strayPlaced := .ite (.same rfl) (.same rfl)
  unfold execNotePlaced
  split
  · split
    · exact .next (s.retracts_notePlaced _ _ _).reform
    · exact .idle
  case h_4 | h_5 => exact .idle
  all_goals exact .ite (.next stray.reform) .idle

theorem State.retractsBy_laneSlot (l : Lane) (heard : RingWord) (reply : Reply) : s.RetractsBy (execLaneSlot l heard reply s) := by
  unfold execLaneSlot
  split
  · exact .next (.same rfl)
  · exact .ite (.next (.same rfl)) .idle

/-- A full reset leaves no retract, whatever stood before (R185). -/
theorem State.retractsBy_fullReset (prsA prsB prsC prsD rejectPresent intakePresent : Bool) :
    s.RetractsBy (execFullReset prsA prsB prsC prsD rejectPresent intakePresent s) := by
  have none : ({ State.afterReset prsA prsB prsC prsD rejectPresent intakePresent with pending := s.pending } : State).retracts
      = [] := by
    rw [State.afterReset_eq, State.seePositions_frame, State.seesVaults_frame]
    rfl
  refine .next fun _ => State.retractsOnce_iff.2 ?_
  rw [State.retractLanes, none]
  exact ⟨List.nodup_nil, fun l h => absurd h List.not_mem_nil⟩

/-! ### Every command, and every step -/

theorem State.retractsBy_exec (i : Instr) (s : State) : s.RetractsBy (exec i s) := by
  have emptied (u : State) (v : Vault) : u.KeepsRetracts (u.emptyVault v) := by
    have shown (t : State) (ht : u.KeepsRetracts t) : u.KeepsRetracts (t.place .position).reform := ht.trans (.same rfl)
    cases v <;> exact shown _ (State.retracts_handVaults _).after
  cases i with
  | fullReset => exact State.retractsBy_fullReset _ _ _ _ _ _
  | requestFrameBegin => exact .next s.retracts_beginFrame
  | frameWhileActing => exact .next (.same rfl)
  | badFrame => exact State.retractsBy_badFrame _ _
  | responseRead => exact .ite .idle (.next (.same rfl))
  | alarmAck => exact .request fun s => .need fun _ => .named fun _ _ => .need fun _ => .ok (s.retracts_acknowledge _).reform
  | alarmList => exact .request fun _ => .need fun _ => .ok .refl
  | amend => exact State.retractsBy_amend _ _ _ _
  | approve => exact State.retractsBy_approve _ _
  | balanceRead => exact .request fun _ => .ok .refl
  | binEmptied =>
    exact .request fun _ => .named fun _ _ => .named fun _ _ => .need fun _ =>
      State.retracts_approveDual fun _ => .reform (.same rfl)
  | binSet => exact .request fun _ => .named fun _ _ => .need fun _ => .need fun _ => .ok (.reform (.same rfl))
  | clearJam =>
    exact .request fun s => .need fun _ => .need fun _ => .named fun _ _ => .named fun _ _ => .named fun _ _ => .need fun _ =>
      .ok (s.retracts_clearedJam _ _ _).reform
  | configRead => exact .request fun _ => .ok .refl
  | configure => exact State.retractsBy_configure _
  | countPoint => exact .request fun s => .need fun _ => .ok (s.retracts_requestCount _ _).reform
  | enterSetup =>
    exact .request fun _ => .need fun _ => .need fun _ => .need fun _ => .need fun _ => .need fun _ => .ok (.reform (.same rfl))
  | identify => exact .request fun _ => .ok .refl
  | intakeBegin =>
    exact .request fun s => .need fun _ => .need fun _ => .named fun _ _ => .named fun _ _ => .need fun _ => .need fun _ =>
      .need fun _ => .ok (s.retracts_beginIntake _).reform
  | intakeFinish =>
    exact .request fun s => .need fun _ => .need fun _ => .named fun _ _ => .named fun _ _ => .need fun _ =>
      .ok (s.retracts_finishIntake _).reform
  | laneQuery => exact .request fun _ => .named fun _ _ => .ok .refl
  | laneRestart =>
    exact .request fun s => .named fun _ _ => .need fun _ =>
      .ok ((State.retracts_hand _ _ _).since (s.retracts_changeLane _ _)).reform
  | list => exact .request fun _ => .need fun _ => .ok .refl
  | lookup => exact .request fun _ => .need fun _ => .named fun _ _ => .ok .refl
  | openDispense => exact State.retractsBy_openDispense _ _ _ _
  | openEnvelope =>
    exact .request fun _ => .need fun _ => .named fun _ _ => .named fun _ _ => .need fun _ => .ok (.reform (.same rfl))
  | openIntake =>
    exact .request fun _ => .need fun _ => .named fun _ _ => .named fun _ _ => .need fun _ => .ok (.reform (.same rfl))
  | positionQuery => exact .request fun _ => .named fun _ _ => .ok .refl
  | positionReinstate => exact State.retractsBy_positionReinstate _
  | positionRelease => exact State.retractsBy_positionRelease _ _
  | readAttention => exact .request fun _ => .ok (.same rfl)
  | resolve =>
    exact .request fun _ => .need fun _ => .named fun _ _ => .need fun _ => .named fun _ _ => .named fun _ _ => .need fun _ =>
      .need fun _ => .need fun _ => State.retracts_approveDual fun u => (u.retracts_resolve _ _ _ _).reform
  | resume => exact .request fun _ => .need fun _ => .need fun _ => .ok (.reform (.same rfl))
  | settle =>
    exact .request fun s => .need fun _ => .need fun _ => .named fun _ _ => .need fun _ => .ok (s.retracts_settle _).reform
  | startWall => exact .request fun _ => .need fun _ => .need fun _ => .need fun _ => .ok (.same rfl)
  | vaultEmptied =>
    exact .request fun _ => .named fun _ _ => .named fun _ _ => .need fun _ => .need fun _ =>
      State.retracts_approveDual fun u => emptied u _
  | void =>
    exact .request fun s => .need fun _ => .need fun _ => .named fun _ _ => .named fun _ hu =>
      .ok (s.retracts_voidTicket hu).reform
  | dualApprovalExpiry => exact State.retractsBy_dualApprovalExpiry _
  | approvalWindowExpiry => exact .next (s.retracts_claim _ _ _).reform
  | takeTimerExpiry => exact .next (s.retracts_takeExpired _).reform
  | lostLaneTimerExpiry => exact .ite (.next (s.retracts_lostExpired _).reform) .idle
  | quiesceTimerExpiry => exact .ite (.next (.reform ((State.retracts_publish _ _).after))) .idle
  | ticketSelection => exact State.retractsBy_ticketSelection
  | pickerResume => exact State.retractsBy_pickerResume
  | gaugeResult => exact .next (s.retracts_takeGauge _)
  | pickMissTimeout => exact .next (s.retracts_takeGauge _)
  | purgeBegin => exact .ite (.next (.same rfl)) .idle
  | purgeCompletion => exact .ite (.next (s.retracts_endPurge _).reform) .idle
  | retractPromotion => exact State.retractsBy_retractPromotion
  | deliveryGrant => exact State.retractsBy_deliveryGrant
  | deliveryArrival => exact State.retractsBy_deliveryArrival
  | retractGrant => exact State.retractsBy_retractGrant
  | retractCompletion => exact State.retractsBy_retractCompletion _
  | sweepBegin => exact .ite (.next (.reform (.routed rfl fun _ => rfl))) .idle
  | sweepCompletion => exact .ite (.next (s.retracts_endSweep _).reform) .idle
  | quietFound => exact .ite (.next s.retracts_enterBalancing.reform) .idle
  | cassetteInsertion => exact .ite (.next (.reform (.same (by rw [State.insertCassette_frame]; rfl)))) .idle
  | cassetteRemoval => exact State.retractsBy_cassetteRemoval _
  | identityReadEnd => exact State.retractsBy_identityReadEnd _
  | tagWriteEnd => exact State.retractsBy_tagWriteEnd _
  | vaultPresenceChange => exact State.retractsBy_vaultPresenceChange _ _
  | escrowEvent => exact State.retractsBy_escrowEvent _
  | notePlaced => exact State.retractsBy_notePlaced
  | inputSample => exact .next (s.retracts_sample _).reform
  | syncSlot => exact .next (.reform (State.retracts_applyLaneCount _).after)
  | laneSlot => exact State.retractsBy_laneSlot _ _ _
  | frameEnd => exact .next s.retracts_endFrame.reform

/-- Every step keeps one retract for a lane: the command at the front of the queue does, and so does a second of idling. -/
theorem State.retracts_step (h : step s = .next t) : s.KeepsRetracts t := by
  unfold step at h
  split at h
  · exact .after (State.retractsBy_exec _ _ t h)
  · cases h
    exact .same rfl

/-- Settles O57. -/
theorem stepKeepsOneRetractPerLane : Obligations.StepKeepsOneRetractPerLane := fun _ _ hs h => State.retracts_step h hs

end Sys2Proof.Machine
end

section
/-! PROOFS. START WALL and ENTER SETUP by their checks (R183, R184), and COUNT POINT by the state of the count point (R160, R161). -/

namespace Sys2Proof.Machine

variable {s : State}

/-- Step 4 of R184: a ticket's notes, a movement or an item at a drawer or the intake. -/
theorem State.nothingHeld_iff :
    s.nothingHeld = true ↔
      ¬ (s.staging.owner ≠ none ∨ s.route ≠ .free ∨ s.retracts ≠ [] ∨ Lane.all.any (fun l => (s.lane l).holder.isSome)
          ∨ s.intakeRec.state ≠ .idle ∨ s.intakeRec.stray = true
          ∨ Lane.all.any (fun l => decide ((s.handlings.get l).state ≠ .idle))) := by
  have drawers : s.lanes.toList.all (fun r => decide (r.holder = none)) = true
      ↔ ¬ Lane.all.any (fun l => (s.lane l).holder.isSome) = true :=
    all_iff_not_any (xs := Lane.all) (p := fun l => decide ((s.lane l).holder = none)) fun l _ => by
      cases (s.lane l).holder <;> rfl
  have captures : s.handlings.toList.all (fun h => decide (h.state = .idle)) = true
      ↔ ¬ Lane.all.any (fun l => decide ((s.handlings.get l).state ≠ .idle)) = true :=
    all_iff_not_any (xs := Lane.all) (p := fun l => decide ((s.handlings.get l).state = .idle)) fun l _ => by
      cases (s.handlings.get l).state <;> rfl
  simp only [State.nothingHeld, Bool.and_eq_true, drawers, captures, decide_eq_true_eq, List.isEmpty_iff, Bool.not_eq_true',
    not_or, not_not, Bool.not_eq_true, and_assoc]

/-- Step 5 of R184: a position whose cassette has moved since it was balanced. -/
theorem State.allBalanced_iff :
    s.allBalanced = true ↔
      ¬ Pos.all.any (fun p => (s.slot p).state.live && decide (0 < (s.slot p).pickedOut ∨ 0 < (s.slot p).storedIn)) = true :=
  all_iff_not_any (xs := Pos.all)
    (p := fun p => !(s.slot p).state.live || decide ((s.slot p).pickedOut = 0 ∧ (s.slot p).storedIn = 0)) fun p _ => by
      rw [Bool.not_and, ← decide_not]
      refine congrArg _ (decide_eq_decide.2 ?_)
      omega

theorem State.exec_startWall (h : s.frameBegun) :
    exec .startWall s =
      if s.wall.service then s.refusedWith .badState
      else if s.wall.starting then s.refusedWith .busy
      else if ¬ s.wall.laneCountSet then s.refusedWith .badState
      else State.answeredOk { s with wall := { s.wall with starting := true }, sweepPending := true } [0, 1] := by
  refine (State.answer_respond h _).trans ?_
  rw [State.respond_need_of (p := s.wall.service = true) (by simp), State.respond_need_of (p := s.wall.starting = true) (by simp),
    State.respond_need_of (p := ¬ s.wall.laneCountSet = true) (by simp)]
  rfl

theorem State.exec_enterSetup (h : s.frameBegun) :
    exec .enterSetup s =
      if ¬ s.wall.service then s.refusedWith .badState
      else if s.tickets ≠ [] then s.refusedWith .badState
      else if s.countPoint.state ≠ .idle then s.refusedWith .busy
      else if s.staging.owner ≠ none ∨ s.route ≠ .free ∨ s.retracts ≠ [] ∨ Lane.all.any (fun l => (s.lane l).holder.isSome)
          ∨ s.intakeRec.state ≠ .idle ∨ s.intakeRec.stray
          ∨ Lane.all.any (fun l => decide ((s.handlings.get l).state ≠ .idle)) then s.refusedWith .busy
      else if Pos.all.any (fun p =>
          (s.slot p).state.live && decide (0 < (s.slot p).pickedOut ∨ 0 < (s.slot p).storedIn)) then s.refusedWith .busy
      else State.answeredOk (State.reform { s with wall := { s.wall with service := false } }) [] := by
  refine (State.answer_respond h _).trans ?_
  rw [State.respond_need_of (p := ¬ s.wall.service = true) (by simp), State.respond_need_of (p := s.tickets ≠ []) (by simp),
    State.respond_need_of (p := s.countPoint.state ≠ .idle) (by cases hc : s.countPoint.state <;> simp [State.counting, hc]),
    State.respond_need_of State.nothingHeld_iff, State.respond_need_of State.allBalanced_iff]
  rfl

/-- Settles O10. -/
theorem wallStateRequestsCheckInOrder : Obligations.WallStateRequestsCheckInOrder :=
  ⟨fun _ => State.exec_startWall, fun _ => State.exec_enterSetup⟩

/-! ### The claims that wait for the D gate as the wall pauses -/

theorem State.pauseWaitingPick_waiting (h : s.picker.state = .waitingGate) :
    s.pauseWaitingPick = { s with gate := { s.gate with waitPicker := false }, picker := s.picker.pause } := if_pos h

theorem State.pauseWaitingPick_other (h : s.picker.state ≠ .waitingGate) : s.pauseWaitingPick = s := if_neg h

theorem State.recallWaitingNote_waiting {e : Escrow} (hp : s.pausing = true) (hw : s.intakeRec.state = .waitingGate)
    (he : s.intakeRec.escrow = some e) :
    s.recallWaitingNote =
      { s with gate := { s.gate with waitDeposit := false },
               intakeRec := { s.intakeRec with state := .placing, destination := some .tray, storedTo := .slot },
               headSent := s.headSent ++ [.place .tray] } := by
  have decided := State.decideNote_of_pausing (s := { s with gate := { s.gate with waitDeposit := false } }) hp e
  unfold State.recallWaitingNote
  rw [if_pos hw, he]
  refine decided.trans ?_
  rw [← he]
  rfl

theorem State.recallWaitingNote_other (h : s.intakeRec.state ≠ .waitingGate) : s.recallWaitingNote = s := if_neg h

/-- The picker and the grant are not the note's to change. -/
theorem State.recallWaitingNote_picks (hp : s.pausing = true) :
    s.recallWaitingNote.gate.granted = s.gate.granted ∧ s.recallWaitingNote.gate.waitPicker = s.gate.waitPicker
      ∧ s.recallWaitingNote.picker = s.picker := by
  by_cases hw : s.intakeRec.state = .waitingGate
  · cases he : s.intakeRec.escrow with
    | some e =>
      rw [State.recallWaitingNote_waiting hp hw he]
      exact ⟨rfl, rfl, rfl⟩
    | none =>
      unfold State.recallWaitingNote
      rw [if_pos hw, he]
      exact ⟨rfl, rfl, rfl⟩
  · rw [State.recallWaitingNote_other hw]
    exact ⟨rfl, rfl, rfl⟩

theorem State.pauseWaitingPick_note :
    s.pauseWaitingPick.intakeRec = s.intakeRec ∧ s.pauseWaitingPick.headSent = s.headSent
      ∧ s.pauseWaitingPick.gate.waitDeposit = s.gate.waitDeposit ∧ s.pauseWaitingPick.gate.granted = s.gate.granted
      ∧ s.pauseWaitingPick.pausing = s.pausing := by
  unfold State.pauseWaitingPick
  split <;> exact ⟨rfl, rfl, rfl, rfl, rfl⟩

/-- A pause condition withdraws the picker's claim (R68) and the note's (R115). -/
theorem State.withdrawsClaims_pausing (hp : s.pausing = true) :
    s.withdrawsClaims s.pauseWaitingPick.recallWaitingNote := by
  obtain ⟨note, head, deposit, granted, pausing⟩ := State.pauseWaitingPick_note (s := s)
  have paused := pausing.trans hp
  obtain ⟨granted', claim, picker⟩ := State.recallWaitingNote_picks paused
  refine ⟨granted'.trans granted, fun hw => ?_, fun hw => ?_, fun e hw he => ?_, fun hw => ?_⟩
  · rw [picker, claim, State.pauseWaitingPick_waiting hw]
    exact ⟨rfl, rfl⟩
  · rw [picker, claim, State.pauseWaitingPick_other hw]
    exact ⟨rfl, rfl⟩
  · rw [State.recallWaitingNote_waiting paused (note ▸ hw) (note ▸ he), note, head]
    exact ⟨rfl, rfl, rfl⟩
  · rw [State.recallWaitingNote_other (note ▸ hw)]
    exact ⟨note, head, deposit⟩

/-- The records that the claims on the D gate stand in. -/
def State.claims (s : State) : Gate × Picker × IntakeRec × List HeadCommand := (s.gate, s.picker, s.intakeRec, s.headSent)

/-- Changes of other records, before and after, do not concern the claims. -/
theorem State.withdrawsClaims_of_same {t u v : State} (h : t.withdrawsClaims u) (ht : t.claims = s.claims)
    (hv : v.claims = u.claims) : s.withdrawsClaims v := by
  simp only [State.claims, Prod.mk.injEq] at ht hv
  obtain ⟨gt, pt, nt, ht⟩ := ht
  obtain ⟨gv, pv, nv, hv⟩ := hv
  unfold State.withdrawsClaims at h ⊢
  rwa [gt, pt, nt, ht, ← gv, ← pv, ← nv, ← hv] at h

/-! ### COUNT POINT by the state of the count point (R161) -/

theorem State.exec_countPoint (h : s.frameBegun) (hs : s.wall.service = true) :
    exec .countPoint s =
      State.answeredOk (s.requestCount .requested .empty).reform
        (beBytes 1 (s.requestCount .requested .empty).countPoint.state.code ++ beBytes 1 s.joined) := by
  refine (State.answer_respond h _).trans ?_
  rw [State.respond_need, if_pos hs, State.respond_ok, State.reform_countPoint]

theorem State.requestCount_idle (c : Cause) (release : PosSet) (h : s.countPoint.state = .idle) :
    s.requestCount c release = s.enterQuiescing (CauseSet.empty.add c) release := by
  unfold State.requestCount
  rw [h]

theorem State.requestCount_quiescing (c : Cause) (release : PosSet) (h : s.countPoint.state = .quiescing) :
    s.requestCount c release = { s with countPoint :=
      { s.countPoint with causes := s.countPoint.causes.add c, release := s.countPoint.release.union release } } := by
  unfold State.requestCount
  rw [h]

theorem State.requestCount_balancing (c : Cause) (release : PosSet) (h : s.countPoint.state = .balancing) :
    s.requestCount c release = { s with countPoint :=
      { s.countPoint with pending := true, pendingCauses := s.countPoint.pendingCauses.add c,
                          pendingRelease := s.countPoint.pendingRelease.union release } } := by
  unfold State.requestCount
  rw [h]

theorem State.joined_of_ne (h : s.countPoint.state ≠ .balancing) : s.joined = 1 := if_neg h

theorem State.joined_balancing (h : s.countPoint.state = .balancing) : s.joined = 2 := if_pos h

/-- The entry to QUIESCING withdraws the claims that wait (R68, R115, R163). -/
theorem State.withdrawsClaims_enterQuiescing (causes : CauseSet) (release : PosSet) :
    s.withdrawsClaims (s.enterQuiescing causes release) := by
  let q := { s with countPoint := s.countPoint.entersQuiescing s.params.quiesceTimeout causes release }
  have counting : q.pausing = true := Bool.or_true _
  exact State.withdrawsClaims_of_same (State.withdrawsClaims_pausing counting) rfl rfl

/-- Settles O50. -/
theorem countPointIsRequested : Obligations.CountPointIsRequested := by
  intro s h
  refine ⟨fun hs => ?_, fun hs hc => ?_, fun hs hc => ?_, fun hs hc => ?_⟩
  · refine (State.answer_respond h _).trans ?_
    rw [State.respond_need, if_neg (by rw [hs]; exact Bool.false_ne_true)]
  · rw [State.exec_countPoint h hs, State.requestCount_idle _ _ hc, State.joined_of_ne (by rw [hc]; decide),
      State.enterQuiescing_frame]
    refine ⟨_, rfl, rfl, rfl, ?_, rfl, rfl, rfl⟩
    refine State.withdrawsClaims_of_same (State.withdrawsClaims_enterQuiescing (s := s) (CauseSet.empty.add .requested) .empty)
      rfl ?_
    rfl
  · rw [State.exec_countPoint h hs, State.requestCount_quiescing _ _ hc, State.joined_of_ne (by rw [hc]; decide),
      PosSet.union_empty, hc]
    rfl
  · rw [State.exec_countPoint h hs, State.requestCount_balancing _ _ hc, State.joined_balancing hc, PosSet.union_empty, hc]
    rfl

end Sys2Proof.Machine
end

section
/-! PROOFS. The picker's resumption (R68 to R71), and the movements of bundles: purges, retracts and deliveries (R65, R79 to R84). -/

namespace Sys2Proof.Machine

variable {s : State} {t : Ticket} {d : Dispense} {g : Segment}

/-! ### The picker resumes (R68 to R71) -/

/-- A halt of a held ticket in PICKING (R70). -/
theorem State.haltPick_held (hold : s.holdsDispense t d) (hd : d.state = .picking) (why : HaltReason) :
    s.haltPick t.number why =
      { s.ticketEnters { t with body := .dispense { d with state := .pickHalted, halt := some why } } with
        picker := s.picker.stop } := by
  unfold State.haltPick
  rw [State.claim_held hold (decide_eq_true hd)]
  rfl

theorem State.workPick_halts {why : HaltReason} (hp : s.pausing = false) (hold : s.holdsDispense t d)
    (hg : currentSegment d.plan = some g) (hc : s.segmentCheck g = some why) :
    s.workPick t.number = s.haltPick t.number why := by
  simp only [State.workPick, hp, State.dispense_of_holds hold, hg, hc, if_neg Bool.false_ne_true]

theorem State.workPick_starts (hp : s.pausing = false) (hold : s.holdsDispense t d) (hg : currentSegment d.plan = some g)
    (hc : s.segmentCheck g = none) : s.workPick t.number = s.startPick t.number g.position := by
  simp only [State.workPick, hp, State.dispense_of_holds hold, hg, hc, if_neg Bool.false_ne_true]

theorem State.exec_pickerResume {n : Nat} (hk : s.picker.state = .paused) (hn : s.picker.ticket = some n)
    (hp : s.pausing = false) : exec .pickerResume s = .next (s.workPick n).reform := by
  change execPickerResume s = _
  unfold execPickerResume
  rw [hn]
  exact if_pos ⟨hk, Bool.eq_false_iff.1 hp⟩

theorem State.not_pausing (hl : s.alarms.lockdown = false) (hc : s.countPoint.state = .idle) : s.pausing = false := by
  refine Bool.eq_false_iff.2 fun h => (State.pausing_iff.1 h).elim (fun hl' => ?_) (absurd hc)
  exact Bool.false_ne_true (hl.symm.trans hl')

theorem State.feed_eq {n : Nat} {p : Pos} {k : Identity} (h : (s.slot p).identity = some k) :
    s.feed n p = { s with picker := s.fedFrom n p k } :=
  congrArg (fun x => { s with picker := x }) (State.feed_picker h)

/-- Settles O29. -/
theorem pickerResumesBySegmentCheck : Obligations.PickerResumesBySegmentCheck := by
  intro t d g s hk hn hl hc hold hd hg x why
  have hp := State.not_pausing hl hc
  have hwhy : why = s.segmentCheck g := (State.segmentCheck_rows g).symm
  rw [State.exec_pickerResume hk hn hp, hwhy]
  refine ⟨fun r hr => ?_, fun k hr hi => ?_⟩
  · rw [State.workPick_halts hp hold hg hr, State.haltPick_held hold hd]
    rfl
  · rw [State.workPick_starts hp hold hg hr]
    obtain ⟨atABC, atFree, atGranted⟩ := State.startPick_rows (n := t.number) hr
    refine ⟨fun hg' => ?_, fun hg' hf => ?_, fun hg' hf => ?_⟩
    · rw [atABC hg', State.feed_eq hi]
      rfl
    · rw [atFree hg' hf, State.feed_eq (k := k) (by rw [← hg']; exact hi), hg']
      rfl
    · rw [atGranted hg' hf]
      exact ⟨_, rfl, rfl, rfl, rfl, rfl⟩

/-! ### The reject vault's parts (R55) -/

theorem State.changeRejectVault_rejectVault (f : RejectVault → RejectVault) :
    (s.changeRejectVault f).rejectVault = f s.rejectVault := (State.handVaults_frame _).1

/-- The vault full source touches no ticket's body. -/
theorem State.changeRejectVault_marks (f : RejectVault → RejectVault) : s.MarksOnly (s.changeRejectVault f) :=
  (State.handed_handVaults { s with rejectVault := f s.rejectVault }).spares.marks

theorem State.claim_rejectVault (n : Nat) (takenIn : DispenseState → Bool) (f : Dispense → Dispense) :
    (s.claim n takenIn f).rejectVault = s.rejectVault := by rw [State.claim_frame]

/-! ### Purges (R79) -/

/-- A purge begins by R79's conditions, the oldest OWED retract coming before it when that fits. -/
theorem State.purgeMayBegin_iff :
    s.purgeMayBegin = true ↔
      s.staging.purge = .waiting ∧ s.staging.held + s.reservedRoom ≤ s.rejectVault.room ∧ s.countPoint.state = .idle
        ∧ ∀ e, s.oldestOwed = some e → ¬ e.expected + s.reservedRoom ≤ s.rejectVault.room := by
  unfold State.purgeMayBegin
  cases s.oldestOwed with
  | none => simp [State.fits, State.counting, and_assoc]
  | some e => simp [State.fits, State.counting, and_assoc]

theorem State.endPurge_owner {n : Nat} (count : Nat) (h : s.staging.owner = some n) :
    s.endPurge count =
      { State.claim (s.changeRejectVault fun v => (v.addRetracted s.staging.held).addSweep (count - s.staging.held)) n
          (· = DispenseState.purging) (fun d => { Dispense.enter .voided d with retracted := s.staging.held }) with
        staging := .empty } := by
  simp only [State.endPurge, h]

/-- Settles O30. -/
theorem purgeRuns : Obligations.PurgeRuns := by
  constructor
  · intro s fits oldest
    refine ⟨fun waits room calm first => ?_, fun out => ?_⟩
    · exact if_pos (State.purgeMayBegin_iff.2 ⟨waits, room, calm, first⟩)
    · refine if_neg fun begins => ?_
      obtain ⟨waits, room, calm, first⟩ := State.purgeMayBegin_iff.1 begins
      obtain h | h | h | ⟨e, he, h⟩ := out
      · exact h waits
      · exact h room
      · exact h calm
      · exact first e he h
  · intro count t d s runs owner hold hd
    let into (v : RejectVault) : RejectVault := (v.addRetracted s.staging.held).addSweep (count - s.staging.held)
    have vault : (s.endPurge count).rejectVault = into s.rejectVault := by
      rw [State.endPurge_owner count owner]
      exact (State.claim_rejectVault _ _ _).trans (State.changeRejectVault_rejectVault into)
    have ticket : (s.endPurge count).dispense t.number = some { Dispense.enter .voided d with retracted := s.staging.held } := by
      have counted := (State.changeRejectVault_marks (s := s) into).dispense t.number
      rw [State.endPurge_owner count owner]
      exact State.dispense_claim (counted.trans (State.dispense_of_holds hold)) (decide_eq_true hd)
    refine ⟨_, if_pos runs, ?_, ?_, ?_, ?_, ticket⟩
    · rw [State.reform_staging, State.endPurge_owner count owner]
    all_goals rw [State.reform_rejectVault, vault]; rfl

/-! ### Retracts promoted and granted (R65, R80, R84) -/

theorem find?_append_first {α : Type} {p : α → Bool} {before after : List α} {e : α} (h : ∀ x ∈ before, p x = false)
    (he : p e = true) : (before ++ e :: after).find? p = some e := by
  rw [List.find?_append, List.find?_eq_none.2 fun x hx => Bool.eq_false_iff.1 (h x hx), Option.none_or,
    List.find?_cons_of_pos he]

theorem claimFirst_append {before after : List Retract} {e : Retract} (h : ∀ x ∈ before, x.stage = .claimed)
    (he : e.stage = .owed) :
    claimFirst (before ++ e :: after) = before ++ { e with stage := .claimed } :: after := by
  induction before with
  | nil => simp only [List.nil_append, claimFirst, he]
  | cons x xs ih =>
    simp only [List.cons_append, claimFirst, h x List.mem_cons_self, ih fun y hy => h y (List.mem_cons_of_mem _ hy)]

/-- An entry with kind TICKET takes its ticket to RETRACTING without a deadline (R11, R65), and another claims none. -/
theorem State.promote_presented {e : Retract} (hk : e.kind = .ticket) (hh : e.holder = .ticket t.number)
    (hold : s.holdsDispense t d) (hd : d.state = .presented) :
    s.promote e = State.ticketEnters { s with retracts := claimFirst s.retracts }
      { t with body := .dispense { d with state := .retracting, halt := none, deadline := none } } := by
  simp only [State.promote, hk, hh]
  exact State.claim_held (s := { s with retracts := claimFirst s.retracts }) hold (decide_eq_true hd)

theorem State.promote_other {e : Retract} (hk : e.kind ≠ .ticket) :
    s.promote e = { s with retracts := claimFirst s.retracts } := by
  unfold State.promote
  cases hkind : e.kind
  · exact absurd hkind hk
  all_goals rfl

theorem State.exec_retractPromotion {e : Retract} (h : s.oldestOwed = some e) :
    exec .retractPromotion s = if s.fits e.expected then .next (s.promote e).reform else .next s := by
  change execRetractPromotion s = _
  simp only [execRetractPromotion, h]

theorem State.exec_retractGrant_claimed {e : Retract} (h : s.oldestClaimed = some e) :
    exec .retractGrant s =
      if s.route = .free ∧ s.sweepMayBegin = false then
        .next (State.reform
          { s with retracts := s.retracts.erase e, route := .retracting e.lane e.holder e.kind e.expected })
      else .next s := by
  change execRetractGrant s = _
  by_cases hg : s.route = .free ∧ s.sweepMayBegin = false
  · have granted : s.grantableRetract = some e := (if_pos ⟨hg.1, Bool.eq_false_iff.1 hg.2⟩).trans h
    rw [if_pos hg]
    simp only [execRetractGrant, granted]
  · have kept : s.grantableRetract = none := if_neg fun h => hg ⟨h.1, Bool.eq_false_iff.2 h.2⟩
    rw [if_neg hg]
    simp only [execRetractGrant, kept]

/-- Settles O31. -/
theorem retractIsPromotedAndGranted : Obligations.RetractIsPromotedAndGranted := by
  refine ⟨fun before after e s hs claimed owed => ?_, fun before after e s hs owed claimed => ?_⟩
  · have oldest : s.oldestOwed = some e := by
      unfold State.oldestOwed
      rw [hs]
      exact find?_append_first (fun x hx => by rw [claimed x hx]; rfl) (decide_eq_true owed)
    have listed : claimFirst s.retracts = before ++ { e with stage := .claimed } :: after := by
      rw [hs]
      exact claimFirst_append claimed owed
    rw [State.exec_retractPromotion oldest]
    refine ⟨fun tight => if_neg fun fits => absurd (of_decide_eq_true fits) (Nat.not_le.2 tight), fun room => ?_⟩
    have fits : s.fits e.expected = true := decide_eq_true room
    rw [if_pos fits]
    refine ⟨fun kind => ?_, fun t d kind holder hold presented => ?_⟩
    · rw [State.promote_other kind, listed]
    · rw [State.promote_presented kind holder hold presented, listed]
  · have oldest : s.oldestClaimed = some e := by
      unfold State.oldestClaimed
      rw [hs]
      exact find?_append_first (fun x hx => by rw [owed x hx]; rfl) (decide_eq_true claimed)
    have absent : e ∉ before := fun hm => by
      cases (owed e hm).symm.trans claimed
    rw [State.exec_retractGrant_claimed oldest, hs, List.erase_append_right _ absent, List.erase_cons_head]

end Sys2Proof.Machine
end

section
/-! PROOFS. A retract's end (R84), a delivery's grant and arrival (R80 to R82, R85, R89, R133), and the transport sweep (R91, R92,
R160). -/

namespace Sys2Proof.Machine

variable {s : State} {t : Ticket} {d : Dispense} {l : Lane}

/-! ### The records of a lane as they are formed -/

theorem State.reform_lane (s : State) (l : Lane) : s.reform.lane l = s.formLane l (s.lane l) := PerLane_get_mapWith _ _ _

theorem State.reform_holder (s : State) (l : Lane) : (s.reform.lane l).holder = (s.lane l).holder := by
  rw [State.reform_lane]
  rfl

/-- The records of the movements of bundles that no alarm source touches. -/
def State.bundles (s : State) : Route × List Retract × List Dispute × PerLane LaneRec :=
  (s.route, s.retracts, s.disputes, s.lanes)

theorem State.changeRejectVault_bundles (f : RejectVault → RejectVault) : (s.changeRejectVault f).bundles = s.bundles := by
  rw [State.changeRejectVault, (State.handed_handVaults { s with rejectVault := f s.rejectVault }).spares.same]
  rfl

theorem State.dispense_ticketEnters : (s.ticketEnters { t with body := .dispense d }).dispense t.number = some d :=
  State.dispense_some.2 ⟨_, State.ticket_ticketEnters_self (t := { t with body := .dispense d }), rfl⟩

/-! ### A retract's end (R84) -/

/-- The ticket of a TICKET retract as the notes counted return (R84). -/
def Dispense.returnedWith (d : Dispense) (c : Nat) : Dispense :=
  { d with state := .returned, halt := none, deadline := none, retracted := min c d.presented,
           delivered := d.presented - min c d.presented }

theorem State.handRetract_ticket (hold : s.holdsDispense t d) (hd : d.state = .retracting) (hr : d.retracted = 0) (c : Nat) :
    s.handRetract (.ticket t.number) .ticket c =
      (s.ticketEnters { t with body := .dispense (d.returnedWith c) }).changeRejectVault fun v =>
        (v.addRetracted (min c d.presented)).addSweep (c - min c d.presented) := by
  unfold State.handRetract
  dsimp only
  rw [State.dispense_of_holds hold, State.claim_held hold (decide_eq_true hd)]
  simp only [Option.elim_some, hr, Nat.zero_add]
  rfl

theorem State.handRetract_sweep (h : Holder) (c : Nat) :
    s.handRetract h .sweep c = s.changeRejectVault fun v => v.addSweep c := rfl

/-- The dispute list with the count swept back for a ticket (R84, R135). -/
def sweepBack (n c : Nat) (xs : List Dispute) : List Dispute :=
  xs.map fun (e : Dispute) => if e.ticket = n then { e with sweptBack := some (min 999 c) } else e

theorem State.handRetract_disputed (n c : Nat) :
    s.handRetract (.ticket n) .disputed c =
      { s with disputes := sweepBack n c s.disputes }.changeRejectVault fun v => v.addSweep c := rfl

/-- No kind of retract touches the route or a lane's record as it hands its count. -/
theorem State.handRetract_route (h : Holder) (k : RetractKind) (c : Nat) :
    (s.handRetract h k c).route = s.route ∧ (s.handRetract h k c).lanes = s.lanes := by
  have counted (u : State) (f : RejectVault → RejectVault) :
      (u.changeRejectVault f).route = u.route ∧ (u.changeRejectVault f).lanes = u.lanes :=
    ⟨congrArg (·.1) (u.changeRejectVault_bundles f), congrArg (·.2.2.2) (u.changeRejectVault_bundles f)⟩
  unfold State.handRetract
  split
  · obtain ⟨route, lanes⟩ := counted (State.claim _ _ _ _) _
    exact ⟨route.trans (by rw [State.claim_frame]), lanes.trans (by rw [State.claim_frame])⟩
  · exact counted _ _
  · exact counted _ _

/-- The drawer and the route as a retract leaves them (R84). -/
def State.drawnIn (s : State) (l : Lane) : State :=
  { s.putLane l { s.lane l with holder := none } with route := .free }

theorem State.endRetract_eq (h : Holder) (k : RetractKind) (c : Nat) :
    s.endRetract l h k c = ((s.drawnIn l).handRetract h k c).putPresentation l none := rfl

section Counted
variable (f : RejectVault → RejectVault)

/-- The records as a retract that counts into the reject vault ends. -/
theorem State.counted_vault : ((s.changeRejectVault f).putPresentation l none).reform.rejectVault = f s.rejectVault :=
  State.changeRejectVault_rejectVault f

theorem State.counted_disputes : ((s.changeRejectVault f).putPresentation l none).reform.disputes = s.disputes :=
  congrArg (·.2.2.1) (s.changeRejectVault_bundles f)

theorem State.counted_dispense (n : Nat) : ((s.changeRejectVault f).putPresentation l none).reform.dispense n = s.dispense n :=
  (State.changeRejectVault_marks f).dispense n

end Counted

/-- The sweep part alone takes the count. -/
theorem State.counted_sweep (c : Nat) :
    ((s.changeRejectVault fun v => v.addSweep c).putPresentation l none).reform.rejectVault.retracted = s.rejectVault.retracted
      ∧ ((s.changeRejectVault fun v => v.addSweep c).putPresentation l none).reform.rejectVault.sweep
        = min 999 (s.rejectVault.sweep + c) := by
  rw [State.counted_vault]
  exact ⟨rfl, rfl⟩

theorem State.endRetract_ticket (hold : s.holdsDispense t d) (hd : d.state = .retracting) (hr : d.retracted = 0) (c : Nat) :
    (s.endRetract l (.ticket t.number) .ticket c).reform.dispense t.number = some (d.returnedWith c)
      ∧ (s.endRetract l (.ticket t.number) .ticket c).reform.rejectVault.retracted
        = min 999 (s.rejectVault.retracted + min c d.presented)
      ∧ (s.endRetract l (.ticket t.number) .ticket c).reform.rejectVault.sweep
        = min 999 (s.rejectVault.sweep + (c - min c d.presented)) := by
  rw [State.endRetract_eq, State.handRetract_ticket (s := s.drawnIn l) hold hd hr, State.counted_vault, State.counted_dispense]
  exact ⟨State.dispense_ticketEnters, rfl, rfl⟩

theorem State.endRetract_sweep (h : Holder) (c : Nat) :
    (s.endRetract l h .sweep c).reform.rejectVault.retracted = s.rejectVault.retracted
      ∧ (s.endRetract l h .sweep c).reform.rejectVault.sweep = min 999 (s.rejectVault.sweep + c)
      ∧ (s.endRetract l h .sweep c).reform.disputes = s.disputes := by
  rw [State.endRetract_eq, State.handRetract_sweep, State.counted_disputes]
  obtain ⟨retracted, sweep⟩ := State.counted_sweep (s := s.drawnIn l) (l := l) c
  exact ⟨retracted, sweep, rfl⟩

theorem State.endRetract_disputed (n c : Nat) :
    (s.endRetract l (.ticket n) .disputed c).reform.rejectVault.retracted = s.rejectVault.retracted
      ∧ (s.endRetract l (.ticket n) .disputed c).reform.rejectVault.sweep = min 999 (s.rejectVault.sweep + c)
      ∧ (s.endRetract l (.ticket n) .disputed c).reform.disputes = sweepBack n c s.disputes := by
  rw [State.endRetract_eq, State.handRetract_disputed, State.counted_disputes]
  obtain ⟨retracted, sweep⟩ :=
    State.counted_sweep (s := { s.drawnIn l with disputes := sweepBack n c s.disputes }) (l := l) c
  exact ⟨retracted, sweep, rfl⟩

/-- The drawer's holder and presentation go, and the route is FREE, whatever the kind. -/
theorem State.endRetract_frees (h : Holder) (k : RetractKind) (c : Nat) :
    (s.endRetract l h k c).reform.route = .free ∧ ((s.endRetract l h k c).reform.lane l).holder = none
      ∧ (s.endRetract l h k c).reform.presentations.get l = none := by
  obtain ⟨route, lanes⟩ := State.handRetract_route (s := s.drawnIn l) h k c
  have drawer : ((s.endRetract l h k c).lane l).holder = none := by
    rw [State.endRetract_eq]
    unfold State.lane
    exact (congrArg (fun m : PerLane LaneRec => (m.get l).holder) lanes).trans
      (congrArg LaneRec.holder (PerLane_get_set_self s.lanes l _))
  exact ⟨route, (State.reform_holder _ l).trans drawer, PerLane_get_set_self _ l none⟩

/-- Settles O32. -/
theorem retractCompletes : Obligations.RetractCompletes := by
  intro count expected l h k s hroute
  have run : exec (.retractCompletion count) s = .next (s.endRetract l h k count).reform := by
    change execRetractCompletion count s = _
    simp only [execRetractCompletion, hroute]
  obtain ⟨route, holder, presentation⟩ := State.endRetract_frees (s := s) (l := l) h k count
  refine ⟨_, run, route, holder, presentation, fun t d hk hh hold hd hr => ?_, fun hk => ?_, fun n hk hh => ?_⟩
  · rw [hk, hh]
    exact State.endRetract_ticket hold hd hr count
  · rw [hk]
    exact State.endRetract_sweep h count
  · rw [hk, hh]
    exact State.endRetract_disputed n count

/-! ### A delivery is granted (R80 to R82) -/

/-- The conditions of a delivery to a lane (R80, R81). -/
def State.deliverable (s : State) (l : Lane) : Prop :=
  s.route = .free ∧ s.sweepMayBegin = false ∧ (∀ e ∈ s.retracts, e.stage = .owed) ∧ s.staging.complete = true
    ∧ (s.lane l).link = .online ∧ (s.lane l).holder = none ∧ (∀ e ∈ s.retracts, e.lane ≠ l)
    ∧ (s.lane l).repDrawer = some .locked ∧ (s.lane l).repNotes = some false ∧ (s.lane l).repFault = some false
    ∧ s.alarms.lockdown = false ∧ s.countPoint.state = .idle

theorem State.oldestClaimed_none : s.oldestClaimed = none ↔ ∀ e ∈ s.retracts, e.stage = .owed := by
  unfold State.oldestClaimed
  rw [List.find?_eq_none]
  refine forall₂_congr fun e _ => ?_
  cases e.stage <;> decide

theorem State.laneReady_iff :
    s.laneReady l = true ↔
      (s.lane l).link = .online ∧ (s.lane l).holder = none ∧ (∀ e ∈ s.retracts, e.lane ≠ l)
        ∧ (s.lane l).repDrawer = some .locked ∧ (s.lane l).repNotes = some false ∧ (s.lane l).repFault = some false := by
  simp [State.laneReady, and_assoc]

/-- A STAGED ticket with its bundle in staging is the one the arbiter looks at. -/
theorem State.grantableDelivery_held (ho : s.staging.owner = some t.number) (hold : s.holdsDispense t d)
    (hd : d.state = .staged) :
    (s.deliverable t.lane → s.grantableDelivery = some (t.number, t.lane))
      ∧ (¬ s.deliverable t.lane → s.grantableDelivery = none) := by
  obtain ⟨n, l, opener, stamp, mark, body⟩ := t
  obtain ⟨ht, rfl⟩ := hold
  have owner : s.staging.owner.bind s.ticket = some ⟨n, l, opener, stamp, mark, .dispense d⟩ := by
    rw [ho]
    exact ht
  simp only [State.grantableDelivery, owner]
  constructor
  · rintro ⟨route, sweep, claimed, complete, link, holder, retracts, drawer, notes, fault, calm, idle⟩
    refine if_pos ⟨hd, route, Bool.eq_false_iff.1 sweep, State.oldestClaimed_none.2 claimed, complete,
      State.laneReady_iff.2 ⟨link, holder, retracts, drawer, notes, fault⟩, Bool.eq_false_iff.1 calm, ?_⟩
    simp [State.counting, idle]
  · refine fun not => if_neg ?_
    rintro ⟨-, route, sweep, claimed, complete, ready, calm, idle⟩
    obtain ⟨link, holder, retracts, drawer, notes, fault⟩ := State.laneReady_iff.1 ready
    refine not ⟨route, Bool.eq_false_iff.2 sweep, State.oldestClaimed_none.1 claimed, complete, link, holder, retracts,
      drawer, notes, fault, Bool.eq_false_iff.2 calm, ?_⟩
    simpa [State.counting] using idle

theorem State.exec_deliveryGrant_some {n : Nat} (h : s.grantableDelivery = some (n, l)) :
    exec .deliveryGrant s = .next (s.deliver n l).reform := by
  change execDeliveryGrant s = _
  simp only [execDeliveryGrant, h]

theorem State.exec_deliveryGrant_none (h : s.grantableDelivery = none) : exec .deliveryGrant s = .next s := by
  change execDeliveryGrant s = _
  simp only [execDeliveryGrant, h]

theorem State.deliver_held (hold : s.holdsDispense t d) (hd : d.state = .staged) (l : Lane) :
    s.deliver t.number l =
      { s.ticketEnters { t with body := .dispense { d with state := .routing, halt := none } } with
        route := .delivering l t.number s.staging.held s.staging.value, staging := .empty } := by
  unfold State.deliver
  rw [State.claim_held hold (decide_eq_true hd)]
  rfl

/-! ### A delivery arrives (R82, R85, R89, R133) -/

/-- The record of a ticket whose bundle stands in its drawer (R82). -/
def Dispense.arrived (d : Dispense) : Dispense := { d with state := .presented, halt := none, presented := d.goodPicked }

/-- The drawer, the route, the ticket and the presentation as a bundle arrives (R82, R89). -/
def State.arrived (s : State) (t : Ticket) (d : Dispense) : State :=
  { s.ticketEnters { t with body := .dispense d.arrived } with
    lanes := s.lanes.set t.lane { s.lane t.lane with holder := some (.ticket t.number) }, route := .free,
    presentations := s.presentations.set t.lane
      (some { ticket := t.number, openedSeen := false, closeAsked := s.alarms.lockdown, decided := s.alarms.lockdown }) }

/-- The entry of a retract asked in LOCKDOWN of a bundle that arrives (R89). -/
def Ticket.recallEntry (t : Ticket) (d : Dispense) : Retract :=
  { lane := t.lane, holder := .ticket t.number, kind := .ticket, expected := d.goodPicked, stage := .owed }

/-- With the retract that LOCKDOWN asks. -/
def State.arrivedAsking (s : State) (t : Ticket) (d : Dispense) : State :=
  { s.arrived t d with
    retracts := if s.alarms.lockdown then s.retracts ++ [t.recallEntry d] else s.retracts }

theorem State.arrived_holds : (s.arrived t d).holdsDispense { t with body := .dispense d.arrived } d.arrived :=
  ⟨State.ticket_ticketEnters_self (t := { t with body := .dispense d.arrived }), rfl⟩

theorem State.arrived_dispense : (s.arrived t d).dispense t.number = some d.arrived :=
  State.dispense_ticketEnters

theorem State.arrived_asks (free : ∀ e ∈ s.retracts, e.lane ≠ t.lane) :
    (if s.alarms.lockdown then (s.arrived t d).askRetract ((s.arrived t d).ticketRetract t.lane t.number .ticket)
      else s.arrived t d) = s.arrivedAsking t d := by
  have none : (s.arrived t d).retracting t.lane = false := Bool.eq_false_iff.2 fun h => by
    obtain ⟨e, he, hl⟩ | ⟨h, k, e, hr⟩ := State.retracting_iff.1 h
    · exact free e he hl
    · cases hr
  unfold State.arrivedAsking
  split
  · rw [State.ticketRetract_of_dispense State.arrived_dispense, State.askRetract_free none]
    rfl
  · rfl

theorem State.arrivedAsking_lane :
    (s.arrivedAsking t d).lane t.lane = { s.lane t.lane with holder := some (.ticket t.number) } :=
  PerLane_get_set_self s.lanes t.lane _

theorem State.arrive_held (hold : s.holdsDispense t d) (hd : d.state = .routing) (free : ∀ e ∈ s.retracts, e.lane ≠ t.lane) :
    s.arrive t.lane t.number =
      if (s.lane t.lane).lost = .owedExpired then (s.arrivedAsking t d).dispute t.number t.lane else s.arrivedAsking t d := by
  let v : State := { s.putLane t.lane { s.lane t.lane with holder := some (.ticket t.number) } with route := .free }
  have claimed : v.claim t.number (· = .routing) (fun d => { d.enter .presented with presented := d.goodPicked }) =
      v.ticketEnters { t with body := .dispense d.arrived } := State.claim_held (s := v) hold (decide_eq_true hd)
  unfold State.arrive
  dsimp only
  rw [claimed]
  exact (congrArg (fun u : State => if (u.lane t.lane).lost = .owedExpired then u.dispute t.number t.lane else u)
    (State.arrived_asks free)).trans (by rw [State.arrivedAsking_lane])

theorem State.exec_deliveryArrival {n notes value : Nat} (h : s.route = .delivering l n notes value) :
    exec .deliveryArrival s = .next (s.arrive l n).reform := by
  change execDeliveryArrival s = _
  simp only [execDeliveryArrival, h]

/-- A bundle that arrives for a lane kept lost is disputed at once, and its drawer keeps its holder (R133, R135). -/
theorem State.arrivedAsking_disputed :
    let u := (s.arrivedAsking t d).dispute t.number t.lane
    u.route = .free
      ∧ u.dispense t.number = some { d with
          state := .disputed, halt := none, deadline := none, presented := d.goodPicked, unresolved := d.goodPicked }
      ∧ u.disputes = putByKey Dispute.key ⟨t.number, t.lane, none⟩ s.disputes
      ∧ u.lane t.lane = { s.lane t.lane with holder := some (.ticket t.number), lost := .idle, lostTimer := none }
      ∧ u.presentations.get t.lane = none ∧ u.retracts = (s.arrivedAsking t d).retracts := by
  intro u
  have hu : u = _ := State.dispute_held (s := s.arrivedAsking t d) (t := { t with body := .dispense d.arrived }) (l := t.lane)
    State.arrived_holds rfl
  rw [State.arrivedAsking_lane] at hu
  rw [hu]
  exact ⟨rfl, State.dispense_ticketEnters (s := s.arrivedAsking t d), rfl,
    PerLane_get_set_self _ _ _, PerLane_get_set_self _ _ _, rfl⟩

/-- Settles O33. -/
theorem deliveryIsGrantedAndArrives : Obligations.DeliveryIsGrantedAndArrives := by
  refine ⟨?_, fun t d notes value s hroute hold hd lost free => ?_, fun t d notes value s hroute hold hd lost free => ?_⟩
  · intro t d s ho hold hd r granted
    obtain ⟨grants, refuses⟩ := State.grantableDelivery_held ho hold hd
    refine ⟨fun h => ?_, fun h => State.exec_deliveryGrant_none (refuses h)⟩
    rw [State.exec_deliveryGrant_some (grants h), State.deliver_held hold hd]
  · rw [State.exec_deliveryArrival hroute, State.arrive_held hold hd free, if_neg lost]
    refine ⟨_, rfl, rfl, ?_, State.arrived_dispense, PerLane_get_set_self _ _ _, rfl⟩
    rw [State.reform_holder, State.arrivedAsking_lane]
  · obtain ⟨route, ticket, disputes, lane, presentation, retracts⟩ := State.arrivedAsking_disputed (s := s) (t := t) (d := d)
    rw [State.exec_deliveryArrival hroute, State.arrive_held hold hd free, if_pos lost]
    refine ⟨_, rfl, route, ?_, ticket, disputes, ?_, ?_, presentation, retracts⟩
    all_goals rw [State.reform_lane, lane]; rfl

end Sys2Proof.Machine
end

section
/-! PROOFS. The transport sweep (R91, R92, R160): what a lane's drawer and retracts show is changed by the decision of that lane
alone. -/

namespace Sys2Proof.Machine

variable {s t : State} {d : Dispense} {l m : Lane} {e : Retract} {count : Nat}

/-! ### What a lane's decision looks at -/

/-- What the decision of a lane's drawer looks at (R92). -/
def State.drawerView (l : Lane) (s : State) : LaneRec × List Retract × Route × List Ticket :=
  (s.lane l, s.retracts.filter fun e => decide (e.lane = l), s.route, s.tickets)

theorem State.drawerView_lane (h : t.drawerView l = s.drawerView l) : t.lane l = s.lane l := congrArg (·.1) h

theorem State.drawerView_route (h : t.drawerView l = s.drawerView l) : t.route = s.route := congrArg (·.2.2.1) h

theorem State.drawerView_dispense (h : t.drawerView l = s.drawerView l) (n : Nat) : t.dispense n = s.dispense n := by
  have tickets : t.tickets = s.tickets := congrArg (·.2.2.2) h
  unfold State.dispense State.ticket
  rw [tickets]

/-- The retracts of the lane are the same. -/
theorem State.drawerView_mem (h : t.drawerView l = s.drawerView l) (he : e.lane = l) : e ∈ t.retracts ↔ e ∈ s.retracts := by
  have own (u : State) : e ∈ u.retracts ↔ e ∈ u.retracts.filter fun e => decide (e.lane = l) := by
    rw [List.mem_filter, decide_eq_true_iff, and_iff_left he]
  have same : t.retracts.filter (fun e => decide (e.lane = l)) = s.retracts.filter (fun e => decide (e.lane = l)) :=
    congrArg (·.2.1) h
  rw [own t, own s, same]

theorem State.drawerView_putLane (s : State) (r : LaneRec) (h : l ≠ m) : (s.putLane m r).drawerView l = s.drawerView l :=
  congrArg (fun x => (x, _)) (PerLane_get_set_of_ne s.lanes r h)

theorem State.drawerView_askRetract (s : State) (h : e.lane ≠ l) : (s.askRetract e).drawerView l = s.drawerView l := by
  rcases State.askRetract_cases (s := s) e with ⟨-, ht⟩ | ⟨-, ht⟩ <;> rw [ht]
  have rest : (s.retracts ++ [e]).filter (fun e => decide (e.lane = l)) = s.retracts.filter fun e => decide (e.lane = l) := by
    rw [List.filter_append, List.filter_singleton, decide_eq_false h]
    exact List.append_nil _
  exact congrArg (fun xs => (s.lane l, xs, s.route, s.tickets)) rest

/-! ### The decision of each lane ONLINE -/

/-- The decision of a lane as the sweep ends (R92). -/
def State.sweepLane (s : State) (l : Lane) : State := if (s.lane l).link = .online then s.decideDrawer l else s

theorem State.decideDrawer_other (s : State) (h : l ≠ m) : (s.decideDrawer m).drawerView l = s.drawerView l := by
  unfold State.decideDrawer
  dsimp only
  split
  · split
    · rw [State.drawerView_askRetract _ h.symm, State.drawerView_putLane _ _ h]
    · rfl
  · split
    · split
      · split
        · exact State.drawerView_askRetract _ h.symm
        · split
          · rfl
          · exact State.drawerView_putLane _ _ h
      · rfl
    · rfl
  · rfl

theorem State.sweepLane_other (s : State) (h : l ≠ m) : (s.sweepLane m).drawerView l = s.drawerView l := by
  unfold State.sweepLane
  split
  · exact s.decideDrawer_other h
  · rfl

/-- A pass over the lanes changes what is seen of one of them by its own step alone. -/
theorem foldl_lane_view {α : Type} {f : State → Lane → State} (view : State → α) (l : Lane)
    (other : ∀ s m, l ≠ m → view (f s m) = view s) (s : State) :
    ∃ t, view t = view s ∧ view (Lane.all.foldl f s) = view (f t l) := by
  have kept (ms : List Lane) (hl : l ∉ ms) (u : State) : view (ms.foldl f u) = view u :=
    List.foldlRecOn (motive := fun v : State => view v = view u) ms f rfl fun v hv m hm =>
      (other v m (ne_of_mem_of_not_mem hm hl).symm).trans hv
  obtain ⟨xs, ys, all, hx, hy⟩ := Lane.all_split l
  refine ⟨xs.foldl f s, kept xs hx s, ?_⟩
  rw [all, List.foldl_append, List.foldl_cons, kept ys hy]

theorem State.askRetract_frame (s : State) (e : Retract) : s.askRetract e = { s with retracts := (s.askRetract e).retracts } := by
  rcases State.askRetract_cases (s := s) e with ⟨-, h⟩ | ⟨-, h⟩ <;> rw [h]

theorem State.mem_askRetract (s : State) (e : Retract) {x : Retract} (h : x ∈ s.retracts) : x ∈ (s.askRetract e).retracts := by
  rcases State.askRetract_cases (s := s) e with ⟨-, ht⟩ | ⟨-, ht⟩ <;> rw [ht]
  · exact List.mem_append_left _ h
  · exact h

/-- A decision changes the lane records and adds to the retract list. -/
theorem State.sweepLane_frame (s : State) (l : Lane) :
    s.sweepLane l = { s with lanes := (s.sweepLane l).lanes, retracts := (s.sweepLane l).retracts } := by
  unfold State.sweepLane State.decideDrawer
  dsimp only
  split
  · split
    · split
      · rw [State.askRetract_frame]; rfl
      · rfl
    · split
      · split
        · split
          · rw [State.askRetract_frame]
          · split <;> rfl
        · rfl
      · rfl
    · rfl
  · rfl

theorem State.mem_sweepLane (s : State) (l : Lane) {x : Retract} (h : x ∈ s.retracts) : x ∈ (s.sweepLane l).retracts := by
  unfold State.sweepLane State.decideDrawer
  dsimp only
  split
  · split
    · split
      · exact State.mem_askRetract _ _ h
      · exact h
    · split
      · split
        · split
          · exact State.mem_askRetract _ _ h
          · split <;> exact h
        · exact h
      · exact h
    · exact h
  · exact h

/-- The decisions change the drawers and the retract list alone. -/
theorem State.sweepLanes_frame (s : State) :
    (Lane.all.foldl State.sweepLane s).route = s.route ∧ (Lane.all.foldl State.sweepLane s).sweepDone = s.sweepDone
      ∧ (Lane.all.foldl State.sweepLane s).rejectVault = s.rejectVault
      ∧ (Lane.all.foldl State.sweepLane s).countPoint = s.countPoint :=
  List.foldlRecOn (motive := fun u : State => u.route = s.route ∧ u.sweepDone = s.sweepDone ∧ u.rejectVault = s.rejectVault
      ∧ u.countPoint = s.countPoint) Lane.all State.sweepLane ⟨rfl, rfl, rfl, rfl⟩
    fun u hu l _ => by rw [State.sweepLane_frame]; exact hu

theorem State.mem_sweepLanes (s : State) {x : Retract} (h : x ∈ s.retracts) : x ∈ (Lane.all.foldl State.sweepLane s).retracts :=
  List.foldlRecOn (motive := fun u : State => x ∈ u.retracts) Lane.all State.sweepLane h fun u hu l _ => u.mem_sweepLane l hu

/-! ### The decision by the drawer's holder and its reported notes (R92) -/

section Decided
variable {n : Nat}

/-- With no movement on the route and none in the list, no retract of the lane is under way. -/
theorem State.retracting_none (hr : s.route = .free) (h : ∀ e ∈ s.retracts, e.lane ≠ l) : s.retracting l = false :=
  Bool.eq_false_iff.2 fun hl => by
    obtain ⟨e, he, hel⟩ | ⟨_, _, _, hroute⟩ := State.retracting_iff.1 hl
    · exact h e he hel
    · cases hr.symm.trans hroute

theorem State.mem_askRetract_self (h : s.retracting e.lane = false) : e ∈ (s.askRetract e).retracts := by
  rw [State.askRetract_free h]
  exact List.mem_append_right _ List.mem_cons_self

/-- A drawer with notes that nobody holds is held for a sweep. -/
theorem State.sweepLane_notes (ho : (s.lane l).link = .online) (hr : s.route = .free) (hh : (s.lane l).holder = none)
    (hn : (s.lane l).repNotes = some true) :
    ((s.sweepLane l).lane l).holder = some .sweep
      ∧ ((∀ e ∈ s.retracts, e.lane ≠ l) →
          { lane := l, holder := .sweep, kind := .sweep, expected := 200, stage := .owed } ∈ (s.sweepLane l).retracts) := by
  have calm : ¬ s.deliveringTo l = true := fun h => by
    obtain ⟨_, _, _, hd⟩ := State.deliveringTo_iff.1 h
    cases hr.symm.trans hd
  have decided : s.sweepLane l = (s.putLane l { s.lane l with holder := some .sweep }).askRetract
      { lane := l, holder := .sweep, kind := .sweep, expected := 200, stage := .owed } := by
    unfold State.sweepLane
    rw [if_pos ho, State.decideDrawer_none hh, if_pos ⟨hn, calm⟩]
  rw [decided]
  refine ⟨?_, fun free => State.mem_askRetract_self (s := s.putLane l _) (State.retracting_none hr free)⟩
  rw [State.askRetract_frame]
  exact congrArg LaneRec.holder (PerLane_get_set_self s.lanes l _)

theorem State.sweepLane_disputed (ho : (s.lane l).link = .online) (hh : (s.lane l).holder = some (.ticket n))
    (hd : s.dispense n = some d) (hs : d.state = .disputed) :
    s.sweepLane l =
      if (s.lane l).repNotes = some true then s.askRetract (s.ticketRetract l n .disputed)
      else if s.retracting l then s
      else s.putLane l { s.lane l with holder := none } := by
  unfold State.sweepLane
  rw [if_pos ho, State.decideDrawer_ticket hh hd, if_pos hs]

/-- Notes that a DISPUTED ticket's drawer shows are drawn back. -/
theorem State.sweepLane_drawsBack (ho : (s.lane l).link = .online) (hr : s.route = .free)
    (hh : (s.lane l).holder = some (.ticket n)) (hd : s.dispense n = some d) (hs : d.state = .disputed)
    (hn : (s.lane l).repNotes = some true) :
    ((s.sweepLane l).lane l).holder = some (.ticket n)
      ∧ ((∀ e ∈ s.retracts, e.lane ≠ l) →
          { lane := l, holder := .ticket n, kind := .disputed, expected := d.presented, stage := .owed }
            ∈ (s.sweepLane l).retracts) := by
  rw [State.sweepLane_disputed ho hh hd hs, if_pos hn, State.ticketRetract_of_dispense hd]
  refine ⟨?_, fun free => State.mem_askRetract_self (State.retracting_none hr free)⟩
  rw [State.askRetract_frame]
  exact hh

/-- An empty drawer of a DISPUTED ticket has no holder any more. -/
theorem State.sweepLane_clears (ho : (s.lane l).link = .online) (hr : s.route = .free)
    (hh : (s.lane l).holder = some (.ticket n)) (hd : s.dispense n = some d) (hs : d.state = .disputed)
    (hn : (s.lane l).repNotes = some false) (free : ∀ e ∈ s.retracts, e.lane ≠ l) :
    ((s.sweepLane l).lane l).holder = none := by
  rw [State.sweepLane_disputed ho hh hd hs, if_neg (by rw [hn]; decide),
    if_neg (Bool.eq_false_iff.1 (State.retracting_none hr free))]
  exact congrArg LaneRec.holder (PerLane_get_set_self s.lanes l _)

/-- Every other drawer stays as it is. -/
theorem State.sweepLane_keeps
    (h : (s.lane l).link ≠ .online ∨ (s.lane l).holder = some .sweep
      ∨ (s.lane l).holder = none ∧ (s.lane l).repNotes ≠ some true
      ∨ ∃ n d, (s.lane l).holder = some (.ticket n) ∧ s.dispense n = some d ∧ d.state ≠ .disputed) :
    s.sweepLane l = s := by
  by_cases ho : (s.lane l).link = .online
  · refine (if_pos ho).trans ?_
    obtain h | h | ⟨hh, hn⟩ | ⟨n, d, hh, hd, hs⟩ := h
    · exact absurd ho h
    · unfold State.decideDrawer
      simp only [h]
    · rw [State.decideDrawer_none hh, if_neg fun hx => hn hx.1]
    · rw [State.decideDrawer_ticket hh hd, if_neg hs]
  · exact if_neg ho

end Decided

/-! ### The sweep (R91) -/

/-- The records as a sweep's count is taken and the route freed (R91). -/
def State.swept (s : State) (count : Nat) : State :=
  { s.changeRejectVault fun v => v.addSweep count with route := .free, sweepDone := true }

theorem State.endSweep_eq (s : State) (count : Nat) :
    s.endSweep count = (Lane.all.foldl State.sweepLane (s.swept count)).requestCount .start .empty := rfl

theorem State.swept_spares (s : State) (count : Nat) :
    (s.swept count).lanes = s.lanes ∧ (s.swept count).retracts = s.retracts ∧ (s.swept count).countPoint = s.countPoint
      ∧ (s.swept count).rejectVault = s.rejectVault.addSweep count ∧ ∀ n, (s.swept count).dispense n = s.dispense n := by
  have counted := State.changeRejectVault_rejectVault (s := s) fun v => v.addSweep count
  have bundles := s.changeRejectVault_bundles fun v => v.addSweep count
  have marks := State.changeRejectVault_marks (s := s) fun v => v.addSweep count
  have points : (s.changeRejectVault fun v => v.addSweep count).countPoint = s.countPoint := by
    rw [State.changeRejectVault, (State.handed_handVaults { s with rejectVault := s.rejectVault.addSweep count }).spares.same]
  unfold State.swept
  exact ⟨congrArg (·.2.2.2) bundles, congrArg (·.2.1) bundles, points, counted, fun n => marks.dispense n⟩

theorem State.sweepMayBegin_iff :
    s.sweepMayBegin = true ↔
      s.sweepPending ∧ s.wall.starting ∧ s.route = .free ∧ s.staging.owner = none
        ∧ 200 + s.reservedRoom ≤ s.rejectVault.room := by
  simp only [State.sweepMayBegin, State.fits, Bool.and_eq_true, decide_eq_true_iff, and_assoc]
  rfl

/-- What the end of the sweep leaves of the records beside the drawers. -/
theorem State.endSweep_records (s : State) (count : Nat) :
    (s.endSweep count).reform.route = .free ∧ (s.endSweep count).reform.sweepDone = true
      ∧ (s.endSweep count).reform.rejectVault = s.rejectVault.addSweep count
      ∧ (∃ timeout, (s.endSweep count).reform.countPoint = s.countPoint.requested timeout .start .empty)
      ∧ (s.endSweep count).lanes = (Lane.all.foldl State.sweepLane (s.swept count)).lanes
      ∧ (s.endSweep count).reform.retracts = (Lane.all.foldl State.sweepLane (s.swept count)).retracts := by
  obtain ⟨-, -, points, vault, -⟩ := s.swept_spares count
  obtain ⟨route, done, vault', points'⟩ := (s.swept count).sweepLanes_frame
  rw [State.endSweep_eq, State.requestCount_frame]
  generalize Lane.all.foldl State.sweepLane (s.swept count) = u at route done vault' points' ⊢
  exact ⟨route, done, vault'.trans vault, ⟨_, by rw [← points, ← points']; rfl⟩, rfl, rfl⟩

/-- What the end of the sweep shows at a lane is what its decision shows, from a state that shows what the lane showed before. -/
theorem State.endSweep_lane (s : State) (count : Nat) (l : Lane) :
    ∃ t : State, t.lane l = s.lane l ∧ t.route = .free ∧ (∀ n, t.dispense n = s.dispense n)
      ∧ (∀ e : Retract, e.lane = l → (e ∈ t.retracts ↔ e ∈ s.retracts))
      ∧ ((s.endSweep count).reform.lane l).holder = ((t.sweepLane l).lane l).holder
      ∧ ∀ e : Retract, e.lane = l → e ∈ (t.sweepLane l).retracts → e ∈ (s.endSweep count).reform.retracts := by
  obtain ⟨lanes, retracts, -, -, tickets⟩ := s.swept_spares count
  obtain ⟨-, -, -, -, after, asked⟩ := s.endSweep_records count
  obtain ⟨t, before, decided⟩ := foldl_lane_view (State.drawerView l) l (fun _ _ => State.sweepLane_other _) (s.swept count)
  refine ⟨t, ?_, State.drawerView_route before, fun n => (State.drawerView_dispense before n).trans (tickets n), fun e he => ?_,
    ?_, fun e he hm => ?_⟩
  · exact (State.drawerView_lane before).trans (congrArg (fun m : PerLane LaneRec => m.get l) lanes)
  · rw [State.drawerView_mem before he, retracts]
  · rw [State.reform_holder, ← State.drawerView_lane decided]
    exact congrArg (fun m : PerLane LaneRec => (m.get l).holder) after
  · rw [asked]
    exact (State.drawerView_mem decided he).2 hm

/-- Settles O34. -/
theorem transportSweepRuns : Obligations.TransportSweepRuns := by
  refine ⟨fun s => ?_, fun count s hroute => ?_⟩
  · change (if s.sweepMayBegin then _ else _) = _
    exact if_congr State.sweepMayBegin_iff rfl rfl
  · have run : exec (.sweepCompletion count) s = .next (s.endSweep count).reform := if_pos hroute
    obtain ⟨route, done, vault, ⟨timeout, points⟩, -, asked⟩ := s.endSweep_records count
    obtain ⟨-, retracts, -⟩ := s.swept_spares count
    refine ⟨_, run, route, done, by rw [vault]; rfl, by rw [vault]; rfl, by rw [vault]; rfl, fun hc => ?_, fun hc => ?_, fun hc => ?_, fun e he => ?_,
      fun l ho hh hn => ?_, fun l n d ho hh hd hs => ?_, fun l h => ?_⟩
    · rw [points, CountPoint.requested_idle hc]
      exact ⟨rfl, rfl⟩
    · rw [points, CountPoint.requested_quiescing hc]
    · rw [points, CountPoint.requested_balancing hc]
      exact ⟨rfl, rfl⟩
    · rw [asked]
      exact State.mem_sweepLanes _ (retracts ▸ he)
    all_goals obtain ⟨t, lane, free, tickets, listed, holder, kept⟩ := s.endSweep_lane count l
    · obtain ⟨held, sweeps⟩ := State.sweepLane_notes (s := t) (by rw [lane]; exact ho) free (by rw [lane]; exact hh)
        (by rw [lane]; exact hn)
      refine ⟨holder.trans held, fun none => kept _ rfl (sweeps fun e he hl => none e ((listed e hl).1 he) hl)⟩
    · refine ⟨fun hn => ?_, fun hn none => ?_⟩
      · obtain ⟨held, draws⟩ := State.sweepLane_drawsBack (s := t) (by rw [lane]; exact ho) free (by rw [lane]; exact hh)
          ((tickets n).trans hd) hs (by rw [lane]; exact hn)
        exact ⟨holder.trans held, fun none => kept _ rfl (draws fun e he hl => none e ((listed e hl).1 he) hl)⟩
      · exact holder.trans (State.sweepLane_clears (s := t) (by rw [lane]; exact ho) free (by rw [lane]; exact hh)
          ((tickets n).trans hd) hs (by rw [lane]; exact hn) fun e he hl => none e ((listed e hl).1 he) hl)
    · have same : t.sweepLane l = t := by
        refine State.sweepLane_keeps ?_
        simp only [lane, tickets]
        exact h
      rw [holder, same, lane]

end Sys2Proof.Machine
end

section
/-! PROOFS. The frame end for one lane (R128, R129, R131, R132). The statement speaks of every state, and in one whose ticket table
holds a number twice, which R1 excludes, part (d) fails: the mark lane lost reaches another ticket than the one bound to the lane. -/

namespace Sys2Proof.Machine

/-- The record of a bundle of one note that stands in its drawer. -/
def inDrawer : Dispense :=
  { state := .presented, amount := 20, plan := [⟨.b, 1, 1, 20⟩], dualRequired := false, first := .a, second := none,
    queueStamp := none, goodPicked := 1, presented := 1, delivered := 0, retracted := 0, unresolved := 0, rejectPicks := 0,
    halt := none, laneLost := false, recalled := false, deadline := none }

/-- A ticket of a lane with that record. -/
def presentedAt (l : Lane) (n : Nat) : Ticket :=
  { number := n, lane := l, opener := some .a, openStamp := n, mark := ⟨false, false⟩, body := .dispense inDrawer }

/-- Lanes 1 and 2 ONLINE, each with the outcome of a wrong STAMP echo, so that both leave ONLINE in this frame. Ticket 7 is bound
to lane 2. Number 3 is held twice, by a ticket of lane 2 and by the ticket bound to lane 1: lane 1 is judged first, and its mark
puts the record found under number 3, one of lane 2, ahead of ticket 7. -/
def twiceNumbered : State :=
  let leaving : LaneRec := { LaneRec.reset with link := .online, slotReply := some (.receiveError true) }
  { State.reset with
    tickets := [presentedAt .l2 7, presentedAt .l2 3, presentedAt .l1 3],
    lanes := ((PerLane.const LaneRec.reset).set .l1 leaving).set .l2 leaving }

theorem twiceNumbered_bound :
    (twiceNumbered.lane .l2).link = .online ∧ (twiceNumbered.lane .l2).slotReply.isSome = true
      ∧ twiceNumbered.boundTicket .l2 = some 7 ∧ twiceNumbered.ticket 7 = some (presentedAt .l2 7) := by decide

/-- Lane 2 leaves ONLINE, and its bound ticket is not marked. -/
theorem twiceNumbered_unmarked :
    (twiceNumbered.endFrame.reform.lane .l2).link = .joining
      ∧ twiceNumbered.endFrame.reform.dispense 7 = some inDrawer := by decide

/-- Refutes O43: part (d) has no premise on the ticket table, and with a number held twice the mark set for one lane can put
another lane's ticket ahead of the one bound to it. -/
theorem not_frameEndJudgesALane : ¬ Obligations.FrameEndJudgesALane := by
  rintro ⟨-, -, -, leaves⟩
  obtain ⟨online, replied, bound, held⟩ := twiceNumbered_bound
  obtain ⟨joining, unmarked⟩ := twiceNumbered_unmarked
  obtain ⟨u, run, left⟩ := leaves .l2 (presentedAt .l2 7) inDrawer twiceNumbered online replied bound ⟨held, rfl⟩
  obtain rfl : twiceNumbered.endFrame.reform = u := Host.Outcome.next.inj run
  obtain ⟨⟨e, found, lost⟩, -⟩ := left (by rw [joining]; decide)
  obtain rfl : inDrawer = e := Option.some.inj (unmarked.symm.trans found)
  exact Bool.false_ne_true lost

end Sys2Proof.Machine
end

section
/-! PROOFS. An alarm record and its source (R142 to R148), with what the entry of LOCKDOWN does in the other blocks (R68, R87, R115,
R153) and the marks that DURESS claims (R33, R156). -/

namespace Sys2Proof.Machine

variable {s t u v : State}

/-! ### The entry of LOCKDOWN (R68, R87, R115, R153) -/

theorem State.askCloseAll_get (s : State) (l : Lane) :
    (Lane.all.foldl State.askClose s).presentations.get l =
      (s.presentations.get l).map fun p => { p with closeAsked := true } := by
  have other (u : State) (m : Lane) (h : l ≠ m) : (u.askClose m).presentations.get l = u.presentations.get l := by
    rcases State.askClose_cases (s := u) m with ⟨p, -, hu⟩ | ⟨-, hu⟩ <;> rw [hu]
    exact PerLane_get_set_of_ne _ _ h
  obtain ⟨t, same, seen⟩ := foldl_lane_view (fun u : State => u.presentations.get l) l other s
  rw [← same]
  refine seen.trans ?_
  rcases State.askClose_cases (s := t) l with ⟨p, hp, ht⟩ | ⟨hp, ht⟩
  · rw [ht, hp]
    exact PerLane_get_set_self _ _ _
  · rw [ht, hp]
    rfl

theorem State.onLockdown_presentations (s : State) (l : Lane) :
    s.onLockdown.presentations.get l = (s.presentations.get l).map fun p => { p with closeAsked := true } := by
  rw [← s.askCloseAll_get l]
  unfold State.onLockdown
  rw [State.recallWaitingNote_frame, State.pauseWaitingPick_frame]

/-- LOCKDOWN entered withdraws the claims that wait. -/
theorem State.onLockdown_withdraws (h : s.alarms.lockdown = true) : s.withdrawsClaims s.onLockdown := by
  have closed := State.askCloseAll_frame Lane.all s
  have pausing : (Lane.all.foldl State.askClose s).pausing = true := State.pausing_iff.2 (.inl (by rw [closed]; exact h))
  exact State.withdrawsClaims_of_same (State.withdrawsClaims_pausing pausing) (by rw [closed]; rfl) rfl

/-- The records of the other blocks that the alarms act on. -/
def State.lockdownView (s : State) : Bool × PerLane (Option Presentation) × (Gate × Picker × IntakeRec × List HeadCommand) :=
  (s.alarms.lockdown, s.presentations, s.claims)

/-- Changes of other records, before and after, do not concern the entry of LOCKDOWN. -/
theorem State.locksDownWith_of_same (h : t.locksDownWith u) (ht : t.lockdownView = s.lockdownView)
    (hv : v.lockdownView = u.lockdownView) : s.locksDownWith v := by
  simp only [State.lockdownView, State.claims, Prod.mk.injEq] at ht hv
  obtain ⟨lt, pt, gt, kt, nt, ht⟩ := ht
  obtain ⟨lv, pv, gv, kv, nv, hv⟩ := hv
  obtain ⟨enters, keeps⟩ := h
  rw [lt, ← lv] at enters keeps
  refine ⟨fun hs hu => ?_, fun hl => ?_⟩
  · obtain ⟨withdrawn, asked⟩ := enters hs hu
    rw [pt, ← pv] at asked
    exact ⟨State.withdrawsClaims_of_same withdrawn (by simp only [State.claims, gt, kt, nt, ht])
      (by simp only [State.claims, gv, kv, nv, hv]), asked⟩
  · have same := keeps hl
    rwa [kt, gt, nt, ht, pt, ← kv, ← gv, ← nv, ← hv, ← pv] at same

theorem State.locksDownWith_refl : s.locksDownWith s :=
  ⟨fun hs hu => absurd (hs.symm.trans hu) Bool.false_ne_true, fun _ => ⟨rfl, rfl, rfl, rfl, rfl⟩⟩

theorem State.locksDownWith_onLockdown (hs : s.alarms.lockdown = false) (ht : t.alarms.lockdown = true)
    (same : (t.presentations, t.claims) = (s.presentations, s.claims)) : s.locksDownWith t.onLockdown := by
  obtain ⟨presentations, claims⟩ := Prod.mk.inj same
  have locked : t.onLockdown.alarms.lockdown = true := by rw [State.onLockdown_alarms, ht]
  refine ⟨fun _ _ => ⟨State.withdrawsClaims_of_same (State.onLockdown_withdraws ht) claims rfl, fun l => ?_⟩, fun hl => ?_⟩
  · rw [State.onLockdown_presentations, presentations]
  · cases (hs.symm.trans hl.symm).trans locked

/-! ### Marks (R33, R156) -/

/-- A ticket with the marks claimed for the teller positions for which the condition holds. -/
def Ticket.claimed (c : Teller → Bool) (t : Ticket) : Ticket :=
  { t with mark := ⟨t.mark.a || (c .a && t.names .a && !t.terminal), t.mark.b || (c .b && t.names .b && !t.terminal)⟩ }

theorem Ticket.claimed_none (x : Ticket) : x.claimed (fun _ => false) = x := by
  unfold Ticket.claimed
  simp only [Bool.false_and, Bool.or_false]

/-- One teller position's mark. -/
theorem Ticket.claimed_one (p : Teller) (x : Ticket) :
    (if x.names p ∧ ¬ x.terminal then { x with mark := x.mark.add p } else x) = x.claimed (fun q => decide (q = p)) := by
  unfold Ticket.claimed
  by_cases h : x.names p = true ∧ ¬ x.terminal = true
  · have live : x.terminal = false := Bool.eq_false_iff.2 h.2
    rw [if_pos h, live]
    cases p <;> simp [TellerSet.add, h.1]
  · have none : (x.names p && !x.terminal) = false := by simpa using h
    rw [if_neg h]
    cases p <;> simp [none]

theorem Ticket.claimed_claimed (b c : Teller → Bool) (x : Ticket) :
    (x.claimed b).claimed c = x.claimed fun p => b p || c p := by
  have names (p : Teller) : (x.claimed b).names p = x.names p := rfl
  have terminal : (x.claimed b).terminal = x.terminal := rfl
  unfold Ticket.claimed at names terminal ⊢
  simp only [names, terminal, Bool.or_assoc, Bool.and_or_distrib_right]

theorem State.markTickets_tickets (s : State) (p : Teller) :
    (s.markTickets p).tickets = s.tickets.map (Ticket.claimed fun q => decide (q = p)) :=
  List.map_congr_left fun x _ => x.claimed_one p

theorem State.markTicketsOf_tickets (s : State) (c : Teller → Bool) :
    (s.markTicketsOf c).tickets = s.tickets.map (Ticket.claimed c) := by
  have guarded (u : State) (p : Teller) : (if c p then u.markTickets p else u).tickets =
      u.tickets.map (Ticket.claimed fun q => c p && decide (q = p)) := by
    cases c p with
    | true => exact (u.markTickets_tickets p).trans (by simp only [Bool.true_and])
    | false => simp only [Bool.false_eq_true, if_false, Bool.false_and, funext Ticket.claimed_none, List.map_id']
  unfold State.markTicketsOf
  dsimp only
  rw [guarded, guarded, List.map_map]
  refine List.map_congr_left fun x _ => (x.claimed_claimed _ _).trans (congrArg (Ticket.claimed · x) (funext fun p => ?_))
  cases p <;> simp

/-- The marks claimed when DURESS may be set anew and the pattern stays. -/
def State.marksAtOnset (s u : State) : Prop :=
  u.alarms.pattern = s.alarms.pattern
    ∧ u.tickets = s.tickets.map (Ticket.claimed fun p => u.alarms.duress && !s.alarms.duress && duressInput s.alarms.pattern p)

theorem State.marksAtOnset_calm (ht : u.tickets = s.tickets) (hp : u.alarms.pattern = s.alarms.pattern)
    (hd : u.alarms.duress = s.alarms.duress) : s.marksAtOnset u := by
  refine ⟨hp, ?_⟩
  simp only [ht, hd, Bool.and_not_self, Bool.false_and, funext Ticket.claimed_none, List.map_id']

theorem Ticket.names_iff (p : Teller) (x : Ticket) :
    x.names p = true ↔ x.opener = some p ∨ ∃ d, x.body = .dispense d ∧ (d.first = p ∨ d.second = some p) := by
  obtain ⟨number, lane, opener, stamp, mark, body⟩ := x
  cases body <;> simp [Ticket.names]

theorem State.claimsMarks_of
    (h : u.tickets = s.tickets.map (Ticket.claimed fun p => u.alarms.duress && duressInput u.alarms.pattern p
      && !(s.alarms.duress && duressInput s.alarms.pattern p))) : s.claimsMarks u :=
  ⟨Ticket.names_iff, h⟩

theorem State.marksAtOnset.claims (h : s.marksAtOnset u) : s.claimsMarks u := by
  obtain ⟨pattern, tickets⟩ := h
  refine State.claimsMarks_of (tickets.trans (congrArg (fun c => s.tickets.map (Ticket.claimed c)) (funext fun p => ?_)))
  rw [pattern]
  cases u.alarms.duress <;> cases s.alarms.duress <;> cases duressInput s.alarms.pattern p <;> rfl

/-! ### The alarm table changed (R151 to R154, R156) -/

/-- The alarms with the table replaced (R152 to R154). -/
def Alarms.tabled (a : Alarms) (records : List AlarmRecord) (takes : Bool) : Alarms :=
  { a with records := records, hold := records.any fun r => r.classes.hold, duress := records.any fun r => r.classes.duress,
           lockdown := a.lockdown || takes }

/-- The table replaced and ALARM placed, before the marks and the entry of LOCKDOWN. -/
def State.tabled (s : State) (records : List AlarmRecord) (takes changed : Bool) : State :=
  State.placeIf { s with alarms := s.alarms.tabled records takes } changed .alarm

theorem State.tabled_eq (s : State) (records : List AlarmRecord) (takes changed : Bool) :
    s.tabled records takes changed =
      { s with alarms := s.alarms.tabled records takes, reasons := (s.tabled records takes changed).reasons } := by
  cases changed <;> rfl

/-- The order in which a change of the table acts: the alarms with the reason, the marks, the entry of LOCKDOWN. -/
theorem State.setRecords_steps (s : State) (records : List AlarmRecord) (takes : Bool) :
    ∃ changed,
      let t := s.tabled records takes changed
      let m := if (s.alarms.tabled records takes).duress ∧ ¬ s.alarms.duress then t.markTicketsOf (duressInput t.alarms.pattern) else t
      s.setRecords records takes =
        if (s.alarms.tabled records takes).lockdown ∧ ¬ s.alarms.lockdown then m.onLockdown else m := ⟨_, rfl⟩

theorem State.onLockdown_tickets (s : State) : s.onLockdown.tickets = s.tickets := by
  unfold State.onLockdown
  rw [State.recallWaitingNote_frame, State.pauseWaitingPick_frame, State.askCloseAll_frame]

/-- The marks claimed as DURESS is set, by what the records then say of it. -/
theorem State.marksAtOnset_if {duress : Bool} (ha : t.alarms.pattern = s.alarms.pattern) (ht : t.tickets = s.tickets)
    (hd : t.alarms.duress = duress) :
    s.marksAtOnset (if duress ∧ ¬ s.alarms.duress then t.markTicketsOf (duressInput t.alarms.pattern) else t) := by
  split
  · rename_i h
    refine ⟨by rw [State.markTicketsOf_frame]; exact ha, ?_⟩
    have set : (t.markTicketsOf (duressInput t.alarms.pattern)).alarms.duress = true := by
      rw [State.markTicketsOf_frame]
      exact hd.trans h.1
    rw [State.markTicketsOf_tickets, ht, set, Bool.eq_false_iff.2 h.2, ha]
    rfl
  · rename_i h
    refine ⟨ha, ?_⟩
    have none : (duress && !s.alarms.duress) = false := by simpa using h
    simp only [ht, hd, none, Bool.false_and, funext Ticket.claimed_none, List.map_id']

/-- A change of the alarm table acts on the other blocks and on the marks as R153 and R156 say. -/
theorem State.setRecords_acts (s : State) (records : List AlarmRecord) (takes : Bool) :
    s.locksDownWith (s.setRecords records takes) ∧ s.marksAtOnset (s.setRecords records takes) := by
  obtain ⟨changed, steps⟩ := s.setRecords_steps records takes
  let a := s.alarms.tabled records takes
  let t := s.tabled records takes changed
  let m := if a.duress ∧ ¬ s.alarms.duress then t.markTicketsOf (duressInput t.alarms.pattern) else t
  have tabled := s.tabled_eq records takes changed
  have ha : t.alarms = a := congrArg State.alarms tabled
  have tickets : t.tickets = s.tickets := by
    change (s.tabled records takes changed).tickets = _
    rw [tabled]
  have marked : s.marksAtOnset m := State.marksAtOnset_if (by rw [ha]; rfl) tickets (congrArg Alarms.duress ha)
  have alarms : m.alarms = a := (State.alarms_marked _ _).trans ha
  have view : (m.presentations, m.claims) = (s.presentations, s.claims) := by
    have same : (t.presentations, t.claims) = (s.presentations, s.claims) := by
      change ((s.tabled records takes changed).presentations, (s.tabled records takes changed).claims) = _
      rw [tabled]
      rfl
    refine Eq.trans ?_ same
    simp only [m]
    split
    · rw [State.markTicketsOf_frame]; rfl
    · rfl
  change s.setRecords records takes = if a.lockdown ∧ ¬ s.alarms.lockdown then m.onLockdown else m at steps
  rw [steps]
  split
  · rename_i h
    refine ⟨State.locksDownWith_onLockdown (Bool.eq_false_iff.2 h.2) ((congrArg Alarms.lockdown alarms).trans h.1) view, ?_⟩
    unfold State.marksAtOnset at marked ⊢
    rwa [State.onLockdown_alarms, State.onLockdown_tickets]
  · rename_i h
    have lockdown : a.lockdown = s.alarms.lockdown := by
      change (s.alarms.lockdown || takes) = _
      change ¬ ((s.alarms.lockdown || takes) = true ∧ _) at h
      revert h
      cases s.alarms.lockdown <;> cases takes <;> simp
    obtain ⟨presentations, claims⟩ := Prod.mk.inj view
    refine ⟨State.locksDownWith_of_same State.locksDownWith_refl rfl ?_, marked⟩
    unfold State.lockdownView
    rw [alarms, lockdown, presentations, claims]

theorem State.sourceUp_acts (s : State) (src : AlarmSource) (current : AlarmClass) (pattern : Option Nat) :
    s.locksDownWith (s.sourceUp src current pattern) ∧ s.marksAtOnset (s.sourceUp src current pattern) := by
  unfold State.sourceUp
  split
  · exact ⟨State.locksDownWith_refl, State.marksAtOnset_calm rfl rfl rfl⟩
  · exact s.setRecords_acts _ _

theorem State.sourceDown_acts (s : State) (src : AlarmSource) :
    s.locksDownWith (s.sourceDown src) ∧ s.marksAtOnset (s.sourceDown src) := by
  unfold State.sourceDown
  split
  · exact ⟨State.locksDownWith_refl, State.marksAtOnset_calm rfl rfl rfl⟩
  · split
    · exact s.setRecords_acts _ _
    · exact s.setRecords_acts _ _
    · exact ⟨State.locksDownWith_refl, State.marksAtOnset_calm rfl rfl rfl⟩

/-! ### A source handed by its owner (R143, R144, R146, R148) -/

/-- The sources with one of them set (R144). -/
def State.withSource (s : State) (o : Owned) (x : SourceState) : State :=
  { s with alarms := { s.alarms with sources := s.alarms.sources.set o x } }

theorem State.hand_up (o : Owned) (h : (s.alarms.sources.get o).active = false) :
    s.hand o true = (s.withSource o ⟨true, s.params.sourceClasses.get o⟩).sourceUp (.owned o) (s.params.sourceClasses.get o) none :=
  if_neg (by rw [h]; exact Bool.false_ne_true)

theorem State.hand_down (o : Owned) (h : (s.alarms.sources.get o).active = true) :
    s.hand o false = (s.withSource o ⟨false, .none⟩).sourceDown (.owned o) :=
  if_neg (by rw [h]; exact Bool.noConfusion)

/-- A table with a record put in, or changed in what R151 names, is told from the one before. -/
theorem attended_putByKey_ne {x : AlarmRecord} {xs : List AlarmRecord}
    (h : ∀ r, findByKey AlarmRecord.key x.key xs = some r → r.attended ≠ x.attended) :
    (putByKey AlarmRecord.key x xs).map AlarmRecord.attended ≠ xs.map AlarmRecord.attended := by
  induction xs with
  | nil => exact List.cons_ne_nil _ _
  | cons y ys ih =>
    rw [putByKey]
    split
    · exact fun e => absurd (congrArg List.length e) (by simp)
    · split
      · rename_i same
        exact fun e => h y (List.find?_cons_of_pos (beq_iff_eq.2 same.symm)) (List.head_eq_of_cons_eq e).symm
      · rename_i other
        refine fun e => ih (fun r found => h r ?_) (List.tail_eq_of_cons_eq e)
        exact (List.find?_cons_of_neg (by simpa using Ne.symm other)).trans found

section Up
variable {o : Owned} {c : AlarmClass}

theorem State.sourceUp_none (src : AlarmSource) (p : Option Nat) : s.sourceUp src .none p = s := if_pos rfl

theorem State.sourceUp_class {src : AlarmSource} {p : Option Nat} (h : c ≠ .none) :
    s.sourceUp src c p =
      s.setRecords (putByKey AlarmRecord.key (raiseRecord (s.alarmRecord src.number) src c p) s.alarms.records)
        (decide (c = .lockdown)) := if_neg h

theorem State.sourceUp_lockdown (src : AlarmSource) (p : Option Nat) :
    (s.sourceUp src c p).alarms.lockdown = (s.alarms.lockdown || decide (c = .lockdown)) := by
  by_cases h : c = .none
  · subst h
    exact (Bool.or_false _).symm
  · rw [State.sourceUp_class h, State.setRecords_alarms]

/-- A record made or raised again places ALARM (R151). -/
theorem State.sourceUp_places {src : AlarmSource} {p : Option Nat} (h : c ≠ .none)
    (stood : ∀ r, s.alarmRecord src.number = some r → r.state = .standing) : (s.sourceUp src c p).reasons.alarm = true := by
  have key : (raiseRecord (s.alarmRecord src.number) src c p).key = src.number := by
    cases old : s.alarmRecord src.number with
    | none => rfl
    | some r => exact (findByKey_some old).2
  rw [State.sourceUp_class h]
  refine State.setRecords_places (attended_putByKey_ne fun r found e => ?_) _
  rw [key] at found
  have held : s.alarmRecord src.number = some r := found
  rw [held] at e
  have raised : r.state = .raised := congrArg (fun x => x.2.1) e
  cases (stood r held).symm.trans raised

theorem State.sourceUp_records {src : AlarmSource} {p : Option Nat} (h : c ≠ .none) :
    (s.sourceUp src c p).alarms.records =
      putByKey AlarmRecord.key (raiseRecord (s.alarmRecord src.number) src c p) s.alarms.records := by
  rw [State.sourceUp_class h, State.setRecords_alarms]

end Up

section Down
variable {src : AlarmSource} {r : AlarmRecord}

theorem State.sourceDown_none (h : s.alarmRecord src.number = none) : s.sourceDown src = s := by
  simp only [State.sourceDown, h]

theorem State.sourceDown_raised (h : s.alarmRecord src.number = some r) (hr : r.state = .raised) :
    s.sourceDown src =
      s.setRecords (putByKey AlarmRecord.key { r with state := .standing, current := .none } s.alarms.records) false := by
  simp only [State.sourceDown, h, hr]

theorem State.sourceDown_acked (h : s.alarmRecord src.number = some r) (hr : r.state = .acked) :
    s.sourceDown src = s.setRecords (dropKey AlarmRecord.key src.number s.alarms.records) false := by
  simp only [State.sourceDown, h, hr]

theorem State.sourceDown_standing (h : s.alarmRecord src.number = some r) (hr : r.state = .standing) : s.sourceDown src = s := by
  simp only [State.sourceDown, h, hr]

theorem State.sourceDown_lockdown (s : State) (src : AlarmSource) :
    (s.sourceDown src).alarms.lockdown = s.alarms.lockdown := by
  cases h : s.alarmRecord src.number with
  | none => rw [State.sourceDown_none h]
  | some r =>
    cases hr : r.state with
    | raised => rw [State.sourceDown_raised h hr, State.setRecords_alarms]; exact Bool.or_false _
    | acked => rw [State.sourceDown_acked h hr, State.setRecords_alarms]; exact Bool.or_false _
    | standing => rw [State.sourceDown_standing h hr]

end Down

/-! ### The LOCAL source (R142, R147, R156) -/

theorem State.followLocal_acts (s : State) (pattern : BitVec 6) (was now : AlarmClass) :
    s.locksDownWith (s.followLocal pattern was now) ∧ s.marksAtOnset (s.followLocal pattern was now) := by
  unfold State.followLocal
  split
  · exact s.sourceUp_acts _ _ _
  · split
    · exact s.sourceDown_acts _
    · split
      · exact ⟨State.locksDownWith_refl, State.marksAtOnset_calm rfl rfl rfl⟩
      · exact s.setRecords_acts _ _

/-- A change of the pattern acts on the other blocks, and claims the marks of the inputs it brings under DURESS (R156). -/
theorem State.reclassInputs_acts (s : State) (pattern : BitVec 6) :
    s.locksDownWith (s.reclassInputs pattern) ∧ s.claimsMarks (s.reclassInputs pattern) := by
  let t := s.setInputs pattern (s.localClass pattern)
  let v := t.followLocal pattern s.alarms.inputs.current (s.localClass pattern)
  obtain ⟨locks, now, tickets⟩ := t.followLocal_acts pattern s.alarms.inputs.current (s.localClass pattern)
  have joined : s.reclassInputs pattern =
      if s.alarms.duress ∧ v.alarms.duress then
        v.markTicketsOf fun p => duressInput pattern p && !duressInput s.alarms.pattern p
      else v := s.reclassInputs_eq pattern
  have onset : v.tickets = s.tickets.map
      (Ticket.claimed fun p => v.alarms.duress && !s.alarms.duress && duressInput pattern p) := tickets
  have pattern' : v.alarms.pattern = pattern := now
  rw [joined]
  refine ⟨State.locksDownWith_of_same locks rfl ?_, State.claimsMarks_of ?_⟩
  · split
    · rw [State.markTicketsOf_frame]; rfl
    · rfl
  · rw [State.alarms_marked, pattern']
    split
    · rename_i h
      rw [State.markTicketsOf_tickets, onset, h.1, h.2]
      simp only [Bool.not_true, Bool.and_false, Bool.false_and, funext Ticket.claimed_none, List.map_id', Bool.true_and]
    · rename_i h
      refine onset.trans (congrArg (fun c => s.tickets.map (Ticket.claimed c)) (funext fun p => ?_))
      revert h
      cases s.alarms.duress <;> cases v.alarms.duress <;> simp

/-- Settles O48. -/
theorem alarmRecordsFollowTheirSources : Obligations.AlarmRecordsFollowTheirSources := by
  refine ⟨?_, ?_, ?_⟩
  · intro o s c u old
    refine ⟨fun h => State.hand_same h, fun h => ?_⟩
    let t := s.withSource o ⟨true, c⟩
    have up : u = t.sourceUp (.owned o) c none := State.hand_up o h
    obtain ⟨locks, marks⟩ := t.sourceUp_acts (.owned o) c none
    rw [up]
    refine ⟨State.sourceUp_sources _ _ _ _, State.locksDownWith_of_same locks rfl rfl, marks.claims,
      State.sourceUp_lockdown (s := t) _ _, fun hc => ?_, fun hc ho => ?_, fun r hc ho hr hn => ?_⟩
    · rw [hc, State.sourceUp_none]
      exact ⟨rfl, rfl⟩
    · have fresh : t.alarmRecord (AlarmSource.owned o).number = none := ho
      refine ⟨State.sourceUp_places hc fun r hr => ?_, ?_⟩
      · cases fresh.symm.trans hr
      · rw [State.sourceUp_records hc, fresh]
        cases c <;> rfl
    · have stood : t.alarmRecord (AlarmSource.owned o).number = some r := ho
      refine ⟨State.sourceUp_places hc fun q hq => ?_, ?_⟩
      · cases stood.symm.trans hq
        exact hr
      · rw [State.sourceUp_records hc, stood]
        unfold raiseRecord
        rw [← hn]
        rfl
  · intro o s u old
    refine ⟨fun h => State.hand_same h, fun h => ?_⟩
    let t := s.withSource o ⟨false, .none⟩
    have down : u = t.sourceDown (.owned o) := State.hand_down o h
    obtain ⟨locks, marks⟩ := t.sourceDown_acts (.owned o)
    rw [down]
    refine ⟨State.sourceDown_sources _ _, t.sourceDown_lockdown _, State.locksDownWith_of_same locks rfl rfl, marks.claims,
      fun ho => ?_, fun r ho hr => ?_, fun r ho hr => ?_⟩
    · rw [State.sourceDown_none (s := t) ho]
      rfl
    · rw [State.sourceDown_raised (s := t) ho hr, State.setRecords_alarms]
      rfl
    · rw [State.sourceDown_acked (s := t) ho hr, State.setRecords_alarms, (findByKey_some ho).2]
      rfl
  · intro x y z rest s hs pattern now hp
    let t : State := { s with alarms := { s.alarms with samples := [x, y, z] } }
    have judged : exec (.inputSample x) s = .next (t.reclassInputs pattern).reform := by
      change Host.Outcome.next (s.sample x).reform = _
      have taken : s.sample x = t.reclassInputs pattern := by
        unfold State.sample
        rw [hs]
        exact if_neg hp
      rw [taken]
    obtain ⟨locks, marks⟩ := t.reclassInputs_acts pattern
    exact ⟨_, judged, t.reclassInputs_follows pattern,
      State.locksDownWith_of_same locks rfl rfl, marks⟩

end Sys2Proof.Machine
end

section
/-! PROOFS. An envelope insertion (R23, R100): refused by the first check that holds, or captured for the waiting ticket with the
oldest open stamp. -/

namespace Sys2Proof.Machine

variable {s : State} {t : Ticket} {l : Lane}

/-! ### The oldest of the waiting tickets (R23) -/

/-- The earlier of a ticket and one that was opened after it, or that is the same, is the ticket. -/
theorem earlier_of_later {x : Option Ticket} (h : ∀ u ∈ x, u ≠ t → t.openStamp < u.openStamp) : earlier x t = some t := by
  cases x with
  | none => rfl
  | some u =>
    by_cases hu : u = t
    · rw [hu]
      exact ite_self _
    · exact if_pos (h u rfl hu)

theorem earlier_mem {x : Option Ticket} {u v : Ticket} (h : v ∈ earlier x u) : v ∈ x ∨ v = u := by
  cases x with
  | none => exact .inr (Option.some.inj h).symm
  | some w =>
    simp only [earlier] at h
    split at h
    · exact .inr (Option.some.inj h).symm
    · exact .inl h

/-- Once found, the ticket opened before all that follow stays the oldest. -/
theorem foldl_earlier_self {xs : List Ticket} (h : ∀ u ∈ xs, u ≠ t → t.openStamp < u.openStamp) :
    xs.foldl earlier (some t) = some t := by
  induction xs with
  | nil => rfl
  | cons u xs ih =>
    obtain ⟨hu, hxs⟩ := List.forall_mem_cons.1 h
    have kept : earlier (some t) u = some t := by
      by_cases same : u = t
      · rw [same]
        exact ite_self _
      · exact if_neg (hu same).asymm
    rw [List.foldl_cons, kept]
    exact ih hxs

/-- The oldest of some tickets is the one that was opened before all the others. -/
theorem foldl_earlier_oldest {xs : List Ticket} (ht : t ∈ xs) (h : ∀ u ∈ xs, u ≠ t → t.openStamp < u.openStamp) :
    ∀ x : Option Ticket, (∀ u ∈ x, u ≠ t → t.openStamp < u.openStamp) → xs.foldl earlier x = some t := by
  induction xs with
  | nil => cases ht
  | cons u xs ih =>
    intro x hx
    obtain ⟨hu, hxs⟩ := List.forall_mem_cons.1 h
    rw [List.foldl_cons]
    rcases List.mem_cons.1 ht with rfl | ht
    · rw [earlier_of_later hx]
      exact foldl_earlier_self hxs
    · refine ih ht hxs _ fun v hv => ?_
      rcases earlier_mem hv with hv | rfl
      · exact hx v hv
      · exact hu

/-- The ticket of a lane that waits and was opened before every other that waits there. -/
theorem State.oldestWaiting_some (ht : t ∈ s.tickets) (hw : t.awaitsEnvelope l = true)
    (h : ∀ u ∈ s.tickets, u ≠ t → u.awaitsEnvelope l = true → t.openStamp < u.openStamp) : s.oldestWaiting l = some t := by
  unfold State.oldestWaiting
  refine foldl_earlier_oldest (List.mem_filter.2 ⟨ht, hw⟩) (fun u hu hne => ?_) none (fun _ hu => nomatch hu)
  obtain ⟨mem, waits⟩ := List.mem_filter.1 hu
  exact h u mem hne waits

/-! ### The checks of an insertion (R100) -/

/-- In SERVICE and with no LOCKDOWN the bin's checks come next. -/
theorem State.refusesInsert_inService (hs : s.wall.service = true) (hl : s.alarms.lockdown = false) :
    s.refusesInsert l =
      if (s.lane l).binVerified = false then some .binUnverified
      else if 120 ≤ (s.lane l).binCount then some .binFull
      else if s.tickets.any (Ticket.awaitsEnvelope l) then none
      else if s.params.autoEnvelope = false then some .noTicket
      else if 32 ≤ s.tickets.length then some .tableFull
      else none := by
  have full : s.hasFreeEntry = false ↔ 32 ≤ s.tickets.length := by
    rw [← Bool.not_eq_true, State.hasFreeEntry_iff, Nat.not_lt]
  simp [State.refusesInsert, hs, hl, State.awaitsEnvelope, full, Config.binSize]

/-- An insertion that a check refuses. -/
theorem State.insertEvent_refused {why : RefusalCause} (hi : (s.handlings.get l).state = .idle)
    (h : s.refusesInsert l = some why) :
    s.insertEvent l =
      { s with
        handlings := s.handlings.set l
          { s.handlings.get l with state := .returning, lastRefusal := some why,
                                   refusals := min 255 ((s.handlings.get l).refusals + 1) },
        reasons := s.reasons.add .envelopeRefused } := by
  unfold State.insertEvent
  rw [hi, h]
  rfl

/-- An insertion that no check refuses, with a ticket waiting. -/
theorem State.insertEvent_waiting (hi : (s.handlings.get l).state = .idle) (h : s.refusesInsert l = none)
    (ho : s.oldestWaiting l = some t) : s.insertEvent l = s.beginCapture l t.number := by
  unfold State.insertEvent State.acceptInsert
  rw [hi, h, ho]

/-- Settles O35. -/
theorem insertionIsDecidedInOrder : Obligations.InsertionIsDecidedInOrder := by
  refine ⟨fun l s hi => ⟨fun hs => ?_, fun hs hl => ?_, fun hs hl => ?_⟩,
    fun l t e s hi hs hl hv hb hold he hlane oldest => ?_⟩
  · exact State.insertEvent_refused hi (if_pos (by rw [hs]; exact Bool.false_ne_true))
  · exact State.insertEvent_refused hi ((if_neg (not_not.2 hs)).trans (if_pos hl))
  · have checks := State.refusesInsert_inService (l := l) hs hl
    refine ⟨fun hv => ?_, fun hv hb => ?_, fun hv hb hw => ⟨fun ha => ?_, fun ha hf => ?_⟩⟩ <;>
      refine State.insertEvent_refused hi ?_
    · simp [checks, hv]
    · simp [checks, hv, hb]
    · simp [checks, hv, hb, hw, ha]
    · simp [checks, hv, hb, hw, ha, hf]
  · obtain ⟨mem, -⟩ := State.ticket_some hold.1
    have waits : t.awaitsEnvelope l = true := by simp [Ticket.awaitsEnvelope, hold.2, hlane, he]
    have accepted : s.refusesInsert l = none := by
      simp [State.refusesInsert_inService hs hl, hv, Nat.not_le.2 hb, List.any_eq_true.2 ⟨t, mem, waits⟩]
    rw [State.insertEvent_waiting hi accepted (State.oldestWaiting_some mem waits oldest)]
    unfold State.beginCapture
    rw [State.envelopeClaim_held hold he]
    rfl

end Sys2Proof.Machine
end

section
/-! PROOFS. The bins: BIN EMPTIED by two tellers (R108, R177), and BIN SET (R109). -/

namespace Sys2Proof.Machine

variable {s : State}

/-- BIN EMPTIED of a lane by a teller: refused while an envelope of the lane points into the bin (R108 step 2), and else taken by
the table of R177. -/
theorem State.exec_binEmptied {lane teller : Nat} {l : Lane} {who : Teller} (h : s.frameBegun) (hl : s.namedLane lane = some l)
    (hw : Teller.ofNat? teller = some who) :
    exec (.binEmptied lane teller) s =
      if s.tickets.any (Ticket.pointsInto l) then s.refusedWith .badState
      else s.respond (s.approveDual (.bin l) none who fun u => u.setBin l 0) := by
  refine (State.answer_respond h _).trans ?_
  rw [hl, named_some, hw, named_some, State.respond_need_of (p := s.tickets.any (Ticket.pointsInto l) = true) (by simp)]

/-- BIN SET by its checks (R109). -/
theorem State.exec_binSet (h : s.frameBegun) (lane count : Nat) :
    exec (.binSet lane count) s =
      match s.namedLane lane with
      | none => s.refusedWith .range
      | some l =>
        if 120 < count then s.refusedWith .range
        else if (s.lane l).binVerified then s.refusedWith .badState
        else (s.setBin l count).answeredOk [] := by
  refine (State.answer_respond h _).trans ?_
  rw [State.respond_named]
  cases s.namedLane lane with
  | none => rfl
  | some l =>
    have room : decide (count ≤ Config.binSize) = true ↔ ¬ 120 < count := decide_eq_true_iff.trans Nat.not_lt.symm
    rw [Option.elim_some, State.respond_need_of room,
      State.respond_need_of (p := (s.lane l).binVerified = true) (by simp)]
    rfl

/-- Settles O37. -/
theorem binsAreEmptiedAndSet : Obligations.BinsAreEmptiedAndSet := by
  refine ⟨fun lane teller s h hr => ?_, fun lane teller l who s h hl hw => ⟨fun hp => ?_, fun hp => ⟨fun first => ?_,
    fun held hheld hc hd => ?_⟩⟩, fun lane count s h => State.exec_binSet h lane count⟩
  · refine (State.answer_respond h _).trans ?_
    rw [State.respond_named]
    cases hl : s.namedLane lane with
    | none => rfl
    | some l =>
      rw [Option.elim_some, State.respond_named]
      cases hw : Teller.ofNat? teller with
      | none => rfl
      | some who =>
        have := State.namedLane_range hl
        have := Teller.ofNat?_range hw
        omega
  · rw [State.exec_binEmptied h hl hw, if_pos hp]
  · rw [State.exec_binEmptied h hl hw, hp, if_neg Bool.false_ne_true, State.approveDual_held first]
    rfl
  · rw [State.exec_binEmptied h hl hw, hp, if_neg Bool.false_ne_true, State.approveDual_effect hheld hc hd]
    rfl

end Sys2Proof.Machine
end

section
/-! PROOFS. A note in escrow (R111, R112, R114): its destination row by row, and the store claim of a note for position D. -/

namespace Sys2Proof.Machine

variable {s : State} {k : Intake} {n : Nat}

/-! ### The destination of a note (R112) -/

/-- A note of a code that is not listed is for the tray. -/
theorem State.destination_unlisted (s : State) (withD : Bool) (code : Option Code) :
    s.destination withD ⟨code, none⟩ = .tray := by
  unfold State.destination
  split
  · rename_i listed _
    cases listed
  · rfl

/-- Row by row the destination of a note of a listed code in a run. -/
theorem State.destination_with_d {c : Code} {v : Nat} (ho : s.intakeRec.owner = some n) (hk : s.intake n = some k) :
    s.destination true ⟨some c, some v⟩ =
      if s.pausing ∨ 2500 ≤ k.recycled + k.vaulted ∨ 999999 < k.amount + v then .tray
      else if s.storeCode = some c.number then .cassetteD
      else if s.intakeVault.full then .tray
      else .vault := by
  have owner : s.intakeRec.owner.bind s.intake = some k := by rw [ho]; exact hk
  unfold State.destination
  simp only [owner, Config.intakeFullAt, Config.maxAmount, true_and]
  rw [← ite_or]

/-- The code in escrow is not what the destination of a note is decided by. -/
theorem State.escrowed_destination (e x : Escrow) (withD : Bool) :
    (s.escrowed x).destination withD e = s.destination withD e := rfl

/-! ### The note decided -/

/-- A note for the vault or the tray is placed at once (R112). -/
theorem State.decideNote_places {e : Escrow} {x : Destination} (h : s.destination true e = x) (hx : x ≠ .cassetteD) :
    s.decideNote e = (s.escrowed e).placeNote x := by
  rw [State.decideNote_eq, State.escrowed_destination, h, if_neg hx]

/-- A note for D claims the gate, and the claim is decided at once while the gate is FREE (R59, R112). -/
theorem State.decideNote_claims {e : Escrow} (h : s.destination true e = .cassetteD) :
    s.decideNote e =
      if s.gate.granted = none then (s.escrowed e).claimsStore.decideStore else (s.escrowed e).claimsStore := by
  rw [State.decideNote_eq, State.escrowed_destination, if_pos h]

/-- A store claim is granted, with PLACE D, when D takes stores (R60, R114). -/
theorem State.decideStore_fit (h : s.storeFit = true) :
    s.decideStore =
      State.placeNote
        { s with gate := { s.gate with granted := some .deposit, last := some .deposit, waitDeposit := false } } .cassetteD :=
  if_pos h

theorem State.storeFit_of_storeCode {c : Nat} (h : s.storeCode = some c) : s.storeFit = true := by
  unfold State.storeCode at h
  split at h
  · assumption
  · cases h

/-! ### ESCROW_EVENT by the intake record's state (R111, R112) -/

theorem State.exec_escrowEvent_ready (code : Option Code) (h : s.intakeRec.state = .ready) :
    exec (.escrowEvent code) s = .next (s.decideNote ⟨code, code.bind s.params.denominations.get⟩).reform := by
  show execEscrowEvent code s = _
  unfold execEscrowEvent
  rw [h]

theorem State.exec_escrowEvent_idle (code : Option Code) (h : s.intakeRec.state = .idle) :
    exec (.escrowEvent code) s =
      .next (State.reform { s with intakeRec := { s.intakeRec with stray := true },
                                   headSent := s.headSent ++ [.place .tray] }) := by
  show execEscrowEvent code s = _
  unfold execEscrowEvent
  rw [h]
  rfl

theorem State.exec_escrowEvent_underWay (code : Option Code)
    (h : s.intakeRec.state = .waitingGate ∨ s.intakeRec.state = .placing) : exec (.escrowEvent code) s = .next s := by
  show execEscrowEvent code s = _
  unfold execEscrowEvent
  rcases h with h | h <;> rw [h]

/-- Settles O40. -/
theorem escrowDecidesTheNote : Obligations.EscrowDecidesTheNote := by
  intro code s
  refine ⟨State.exec_escrowEvent_idle code, State.exec_escrowEvent_underWay code, fun n k hr ho hk => ?_⟩
  intro value pauses past placed
  have places {x : Destination} (hx : x ≠ .cassetteD) (h : s.destination true ⟨code, value⟩ = x) :
      exec (.escrowEvent code) s = placed x := by
    rw [State.exec_escrowEvent_ready code hr, State.decideNote_places h hx]
    rfl
  have rows {v : Nat} (hv : value = some v) : s.destination true ⟨code, value⟩ =
      if pauses ∨ past v then .tray
      else if s.storeCode = code.map Code.number then .cassetteD
      else if s.intakeVault.full then .tray
      else .vault := by
    obtain ⟨c, rfl, -⟩ := Option.bind_eq_some_iff.1 hv
    rw [hv, State.destination_with_d ho hk]
    simp only [State.pausing_iff, pauses, past]
    rfl
  refine ⟨fun hv => places nofun ?_, fun v hv tray => places nofun ((rows hv).trans (if_pos tray)),
    fun v hv hp hpast hd => ?_, fun v hv hp hpast hd => ?_⟩
  · rw [hv]
    exact s.destination_unlisted _ _
  · have dest := rows hv
    rw [if_neg (not_or.2 ⟨hp, hpast⟩), if_neg hd] at dest
    exact ⟨fun full => places nofun (dest.trans (if_pos full)),
      fun room => places nofun (dest.trans (if_neg (by rw [room]; exact Bool.false_ne_true)))⟩
  · have dest := rows hv
    rw [if_neg (not_or.2 ⟨hp, hpast⟩), if_pos hd] at dest
    obtain ⟨c, listed, -⟩ := Option.bind_eq_some_iff.1 hv
    rw [listed] at hd
    have fit : (s.escrowed ⟨code, value⟩).claimsStore.storeFit = true := State.storeFit_of_storeCode hd
    rw [State.exec_escrowEvent_ready code hr, State.decideNote_claims dest]
    by_cases free : s.gate.granted = none
    · rw [if_pos free, State.decideStore_fit fit]
      exact ⟨_, rfl, rfl, fun _ => ⟨rfl, rfl, rfl, rfl⟩, absurd free⟩
    · rw [if_neg free]
      exact ⟨_, rfl, rfl, fun h => absurd h free, fun _ => ⟨rfl, rfl, rfl, rfl⟩⟩

end Sys2Proof.Machine
end

section
/-! PROOFS. The step on an empty queue (R13, R29, R133, R163, R177): one second passes. -/

namespace Sys2Proof.Machine

variable {s : State}

/-! ### Tickets after a second -/

theorem State.tick_ticket (s : State) (n : Nat) : s.tick.ticket n = (s.ticket n).map Ticket.tick :=
  findByKey_map (fun t => t.tick_keeps.1) n s.tickets

/-- A second changes the deadline of a DISPENSE ticket. -/
theorem State.tick_dispense (s : State) (n : Nat) :
    s.tick.dispense n = (s.dispense n).map fun d =>
      { d with deadline := d.deadline.map fun x => { x with seconds := x.seconds - 1 } } := by
  simp only [State.dispense, State.tick_ticket]
  rcases s.ticket n with _ | ⟨_, _, _, _, _, body⟩
  · rfl
  · cases body <;> rfl

/-- It leaves the tickets of the other kinds. -/
theorem State.tick_envelope (s : State) (n : Nat) : s.tick.envelope n = s.envelope n := by
  simp only [State.envelope, State.tick_ticket]
  rcases s.ticket n with _ | ⟨_, _, _, _, _, body⟩
  · rfl
  · cases body <;> rfl

theorem State.tick_intake (s : State) (n : Nat) : s.tick.intake n = s.intake n := by
  simp only [State.intake, State.tick_ticket]
  rcases s.ticket n with _ | ⟨_, _, _, _, _, body⟩
  · rfl
  · cases body <;> rfl

/-- What a ticket is opened with, and its mark. -/
theorem Ticket.tick_opening (t : Ticket) :
    (t.tick.number, t.tick.lane, t.tick.opener, t.tick.openStamp, t.tick.mark)
      = (t.number, t.lane, t.opener, t.openStamp, t.mark) := by
  obtain ⟨_, _, _, _, _, body⟩ := t
  cases body <;> rfl

theorem step_of_idle (h : s.pending = []) : step s = .next s.tick := by
  unfold step
  rw [h]

/-- Settles O2. -/
theorem idleStepIsOneSecond : Obligations.IdleStepIsOneSecond := by
  refine fun s h => ⟨s.tick, step_of_idle h, rfl, s.tick_dispense, s.tick_envelope, s.tick_intake, ?_,
    fun l => PerLane_get_mapWith _ _ l, rfl, rfl, fun p => PerPos_get_mapWith _ _ p, rfl⟩
  rw [State.tick_tickets, List.map_map]
  exact List.map_congr_left fun t _ => t.tick_opening

end Sys2Proof.Machine
end

section
/-! PROOFS. The lost-lane timer's expiry (R133, R135) and LANE RESTART (R137). -/

namespace Sys2Proof.Machine

variable {s : State} {l : Lane} {t : Ticket} {d : Dispense}

/-! ### The lost-lane timer -/

theorem State.lostExpired_presented (hb : s.boundTicket l = some t.number) (hold : s.holdsDispense t d)
    (hd : d.state = .presented) : s.lostExpired l = s.dispute t.number l := by
  simp only [State.lostExpired, hb, State.dispense_of_holds hold, hd, if_true]

/-- While the delivery is in flight the expiry is kept (R133). -/
theorem State.lostExpired_routing (hb : s.boundTicket l = some t.number) (hold : s.holdsDispense t d)
    (hd : d.state = .routing) :
    s.lostExpired l = s.putLane l { s.lane l with lost := .owedExpired, lostTimer := some 0 } := by
  have other : d.state ≠ .presented := by rw [hd]; decide
  simp only [State.lostExpired, hb, State.dispense_of_holds hold, if_neg other]

/-! ### What a source handed leaves of the lanes -/

/-- Handing a source changes no lane record. -/
theorem State.hand_lane (s : State) (o : Owned) (active : Bool) (m : Lane) : (s.hand o active).lane m = s.lane m := by
  unfold State.lane
  rw [(s.handed_hand o active).spares.same]

/-- The reason LANE is not the alarm table's to place (R151). -/
theorem State.setRecords_reasonLane (s : State) (records : List AlarmRecord) (takes : Bool) :
    (s.setRecords records takes).reasons.lane = s.reasons.lane := by
  have placed (a : Alarms) (c : Bool) : (State.placeIf { s with alarms := a } c .alarm).reasons.lane = s.reasons.lane := by
    cases c <;> rfl
  unfold State.setRecords
  dsimp only
  split
  · rw [State.onLockdown_reasons, State.reasons_marked, placed]
  · rw [State.reasons_marked, placed]

theorem State.sourceUp_reasonLane (s : State) (src : AlarmSource) (current : AlarmClass) (pattern : Option Nat) :
    (s.sourceUp src current pattern).reasons.lane = s.reasons.lane := by
  unfold State.sourceUp
  split
  · rfl
  · exact s.setRecords_reasonLane _ _

theorem State.sourceDown_reasonLane (s : State) (src : AlarmSource) :
    (s.sourceDown src).reasons.lane = s.reasons.lane := by
  unfold State.sourceDown
  split
  · rfl
  · split
    · exact s.setRecords_reasonLane _ _
    · exact s.setRecords_reasonLane _ _
    · rfl

theorem State.hand_reasonLane (s : State) (o : Owned) (active : Bool) :
    (s.hand o active).reasons.lane = s.reasons.lane := by
  unfold State.hand
  split
  · rfl
  · dsimp only
    split
    · exact State.sourceUp_reasonLane _ _ _ _
    · exact State.sourceDown_reasonLane _ _

/-! ### A lane's record changed (R129) -/

theorem State.changeLane_lanes (s : State) (l : Lane) (r : LaneRec) : (s.changeLane l r).lanes = s.lanes.set l r := by
  unfold State.changeLane State.placeIf
  split <;> rfl

theorem State.changeLane_self (s : State) (l : Lane) (r : LaneRec) : (s.changeLane l r).lane l = r := by
  unfold State.lane
  rw [State.changeLane_lanes, PerLane_get_set_self]

theorem State.changeLane_of_ne (s : State) {l m : Lane} (r : LaneRec) (h : m ≠ l) : (s.changeLane l r).lane m = s.lane m := by
  unfold State.lane
  rw [State.changeLane_lanes, PerLane_get_set_of_ne _ _ h]

/-- A change of the link state places LANE. -/
theorem State.changeLane_places {r : LaneRec} (h : (s.lane l).link ≠ r.link) : (s.changeLane l r).reasons.lane = true := by
  unfold State.changeLane
  rw [decide_eq_true h]
  rfl

/-! ### LANE RESTART -/

/-- A lane's record as LANE RESTART leaves it: JOINING with its runs cleared (R137). -/
def LaneRec.restarted (r : LaneRec) : LaneRec := { r with link := .joining, faultRun := 0, badRun := 0, joinRun := .idle }

/-- The effect of LANE RESTART, before the values are formed anew. -/
def State.restarted (s : State) (l : Lane) : State := (s.changeLane l (s.lane l).restarted).hand (.lineFault l) false

/-- LANE RESTART by its checks (R137). -/
theorem State.exec_laneRestart (h : s.frameBegun) (lane : Nat) :
    exec (.laneRestart lane) s =
      match s.namedLane lane with
      | none => s.refusedWith .range
      | some l => if (s.lane l).link ≠ .faulted then s.refusedWith .badState else (s.restarted l).reform.answeredOk [] := by
  refine (State.answer_respond h _).trans ?_
  rw [State.respond_named]
  cases s.namedLane lane with
  | none => rfl
  | some l =>
    rw [Option.elim_some, State.respond_need_of (p := (s.lane l).link ≠ .faulted) (by rw [decide_eq_true_iff, not_not])]
    rfl

theorem State.restarted_self (s : State) (l : Lane) : (s.restarted l).lane l = (s.lane l).restarted := by
  unfold State.restarted
  rw [State.hand_lane, State.changeLane_self]

theorem State.restarted_of_ne (s : State) {l m : Lane} (h : m ≠ l) : (s.restarted l).lane m = s.lane m := by
  unfold State.restarted
  rw [State.hand_lane, State.changeLane_of_ne _ _ h]

theorem State.restarted_dispense (s : State) (l : Lane) (n : Nat) : (s.restarted l).dispense n = s.dispense n := by
  refine ((State.handed_hand _ _ _).spares.marks.dispense n).trans ?_
  unfold State.changeLane State.placeIf
  split <;> rfl

/-- A lane that was FAULTED is told of by the reason LANE. -/
theorem State.restarted_places (h : (s.lane l).link = .faulted) : (s.restarted l).reasons.lane = true := by
  unfold State.restarted
  rw [State.hand_reasonLane]
  exact State.changeLane_places fun same => Link.noConfusion (h.symm.trans same)

/-- Settles O45. -/
theorem laneLossAndRestart : Obligations.LaneLossAndRestart := by
  refine ⟨fun l s => ⟨fun stopped => ?_, fun t d running bound hold => ⟨fun hd => ?_, fun hd => ?_⟩⟩,
    fun lane s h => ⟨fun unnamed => ?_, fun l named => ⟨fun up => ?_, fun faulted => ?_⟩⟩⟩
  · exact if_neg (by rw [stopped]; exact Bool.false_ne_true)
  · have expires : exec (.lostLaneTimerExpiry l) s = .next (s.lostExpired l).reform := if_pos running
    rw [expires, State.lostExpired_presented bound hold hd, State.dispute_held hold hd]
  · have expires : exec (.lostLaneTimerExpiry l) s = .next (s.lostExpired l).reform := if_pos running
    rw [expires, State.lostExpired_routing bound hold hd]
    rfl
  · rw [State.exec_laneRestart h, unnamed]
  · rw [State.exec_laneRestart h, named]
    exact if_pos up
  · have taken : exec (.laneRestart lane) s = (s.restarted l).reform.answeredOk [] := by
      rw [State.exec_laneRestart h, named]
      exact if_neg (not_not_intro faulted)
    have lane (m : Lane) : ((s.restarted l).reform.hold ⟨.ok, []⟩).lane m = (s.restarted l).formLane m ((s.restarted l).lane m) :=
      (s.restarted l).reform_lane m
    have self := (lane l).trans (congrArg ((s.restarted l).formLane l) (s.restarted_self l))
    refine ⟨_, taken, rfl, ?_, ?_, ?_, ?_, ?_, ?_, State.hand_active _ (.lineFault l) false, State.restarted_places faulted,
      s.restarted_dispense l, fun m other => ?_⟩
    case refine_7 =>
      rw [lane, s.restarted_of_ne other]
      rfl
    all_goals
      rw [self]
      rfl

end Sys2Proof.Machine
end

section
/-! PROOFS. RESOLVE (R136, R177): its checks, the two approvals with one delivered count, and what it leaves. -/

namespace Sys2Proof.Machine

variable {s : State} {t : Ticket} {d : Dispense} {who : Teller} {delivered : Nat}

/-! ### The two approvals (R177) -/

/-- The complementary approval with other arguments is refused. -/
theorem dualVerdict_mismatch (who : Teller) : dualVerdict (some who.complement) false who = .mismatch := by
  cases who <;> rfl

theorem State.approveDual_mismatch {x : HeldTarget} {count : Option Nat} {effect : State → State} {held : HeldApproval}
    (h : s.heldApproval x = some held) (hw : held.teller = who.complement) (hd : held.delivered ≠ count) :
    s.approveDual x count who effect = .error .valueMismatch := by
  have differs : decide ((s.heldApproval x).bind HeldApproval.delivered = count) = false := by
    rw [h]; exact decide_eq_false hd
  have first : (s.heldApproval x).map HeldApproval.teller = some who.complement := by rw [h, ← hw]; rfl
  unfold State.approveDual
  dsimp only
  rw [differs, first, dualVerdict_mismatch]

/-! ### The effect (R136) -/

theorem State.sweptBack_eq (s : State) (n : Nat) :
    s.sweptBack n = (findByKey Dispute.key n s.disputes).elim 0 fun e => e.sweptBack.getD 0 := by
  unfold State.sweptBack
  cases findByKey Dispute.key n s.disputes <;> rfl

/-- A lane record put back under a condition changes the lane records alone. -/
theorem State.putLane_if (c : Prop) [Decidable c] (s : State) (l : Lane) (r : LaneRec) :
    (if c then s.putLane l r else s) = { s with lanes := if c then s.lanes.set l r else s.lanes } := by
  split <;> rfl

/-- RESOLVE at a held DISPENSE ticket: the ticket is RESOLVED, what is not delivered becomes retracted, what was not swept back
is written off, and the dispute entry and the drawer's claim go. -/
theorem State.resolve_held (hold : s.holdsDispense t d) :
    s.resolve t.number t.lane d delivered =
      { s.ticketEnters { t with body := .dispense { d with
            state := .resolved, halt := none, deadline := none, delivered := delivered,
            retracted := d.retracted + (d.unresolved - delivered), unresolved := 0 } } with
        countPoint := { s.countPoint with
          writtenOff := s.countPoint.writtenOff.raise 65535
            (d.unresolved - delivered
              - min ((findByKey Dispute.key t.number s.disputes).elim 0 fun e => e.sweptBack.getD 0) (d.unresolved - delivered)) },
        disputes := s.disputes.filter fun e => e.ticket != t.number,
        lanes := if (s.lane t.lane).holder = some (.ticket t.number) then
            s.lanes.set t.lane { s.lane t.lane with holder := none }
          else s.lanes } := by
  unfold State.resolve
  dsimp only
  rw [State.move_held hold.1, State.sweptBack_eq, State.putLane_if]
  rfl

/-! ### The checks (R136) -/

/-- A ticket of another kind has no DISPENSE record. -/
theorem State.dispense_none_of_body {n : Nat} (ht : s.ticket n = some t) (hb : ∀ d, t.body ≠ .dispense d) :
    s.dispense n = none := by
  refine Option.eq_none_iff_forall_ne_some.2 fun d hd => ?_
  obtain ⟨u, hu, body⟩ := State.dispense_some.1 hd
  obtain rfl : t = u := Option.some.inj (ht.symm.trans hu)
  exact hb d body

/-- RESOLVE of a DISPENSE ticket held under a number, from its fourth check on. -/
def State.resolves (s : State) (n : Nat) (l : Lane) (d : Dispense) (delivered : Nat) (who : Teller) :
    Host.Outcome State Fault Refusal :=
  if d.state ≠ .disputed then s.refusedWith .badState
  else if d.unresolved < delivered then s.refusedWith .range
  else if s.sweepingBack n = true then s.refusedWith .busy
  else s.respond (s.approveDual (.resolve n) (some delivered) who fun u => (u.resolve n l d delivered).reform)

/-- RESOLVE by its checks. -/
theorem State.exec_resolve (h : s.frameBegun) (ticket delivered teller : Nat) :
    exec (.resolve ticket delivered teller) s =
      if s.wall.service = false then s.refusedWith .notInService
      else (Teller.ofNat? teller).elim (s.refusedWith .range) fun who =>
        if ticket = 0 ∨ 9999 < ticket then s.refusedWith .range
        else (s.ticket ticket).elim (s.refusedWith .notFound) fun t =>
          (s.dispense ticket).elim (s.refusedWith .badState) fun d => s.resolves ticket t.lane d delivered who := by
  refine (State.answer_respond h _).trans ?_
  have disputed (d : Dispense) : decide (d.state = .disputed) = true ↔ ¬ d.state ≠ .disputed := by
    rw [decide_eq_true_iff, not_not]
  have few (d : Dispense) : decide (delivered ≤ d.unresolved) = true ↔ ¬ d.unresolved < delivered :=
    decide_eq_true_iff.trans Nat.not_lt.symm
  have serving : s.wall.service = true ↔ ¬ s.wall.service = false := (iff_of_eq (Bool.not_eq_false _)).symm
  have free : (!s.sweepingBack ticket) = true ↔ ¬ s.sweepingBack ticket = true := by
    rw [Bool.not_eq_true', Bool.not_eq_true]
  simp only [State.respond_need_of serving, State.respond_named, State.respond_numberInRange,
    State.respond_need_of (disputed _), State.respond_need_of (few _), State.respond_need_of free]
  rfl

/-- RESOLVE in service, with a teller position and a ticket number in their ranges. -/
theorem State.exec_resolve_inRange {ticket teller : Nat} (h : s.frameBegun) (hs : s.wall.service = true)
    (hw : Teller.ofNat? teller = some who) (h1 : 1 ≤ ticket) (h2 : ticket ≤ 9999) :
    exec (.resolve ticket delivered teller) s =
      (s.ticket ticket).elim (s.refusedWith .notFound) fun t =>
        (s.dispense ticket).elim (s.refusedWith .badState) fun d => s.resolves ticket t.lane d delivered who := by
  have inRange : ¬ (ticket = 0 ∨ 9999 < ticket) := by omega
  rw [State.exec_resolve h, hs, if_neg (Bool.noConfusion), hw, Option.elim_some, if_neg inRange]

theorem State.exec_resolve_held {teller : Nat} (h : s.frameBegun) (hs : s.wall.service = true)
    (hw : Teller.ofNat? teller = some who) (h1 : 1 ≤ t.number) (h2 : t.number ≤ 9999) (hold : s.holdsDispense t d) :
    exec (.resolve t.number delivered teller) s = s.resolves t.number t.lane d delivered who := by
  rw [State.exec_resolve_inRange h hs hw h1 h2, hold.1, Option.elim_some, State.dispense_of_holds hold, Option.elim_some]

/-- A ticket of another kind is refused. -/
theorem State.exec_resolve_otherKind {ticket teller : Nat} (h : s.frameBegun) (hs : s.wall.service = true)
    (hw : Teller.ofNat? teller = some who) (h1 : 1 ≤ ticket) (h2 : ticket ≤ 9999) (ht : s.ticket ticket = some t)
    (hb : ∀ d, t.body ≠ .dispense d) : exec (.resolve ticket delivered teller) s = s.refusedWith .badState := by
  rw [State.exec_resolve_inRange h hs hw h1 h2, ht, Option.elim_some, State.dispense_none_of_body ht hb, Option.elim_none]

theorem Teller.ofNat?_of_range {n : Nat} (h1 : 1 ≤ n) (h2 : n ≤ 2) : ∃ who, Teller.ofNat? n = some who := by
  obtain rfl | rfl : n = 1 ∨ n = 2 := by omega
  · exact ⟨.a, rfl⟩
  · exact ⟨.b, rfl⟩

/-- Settles O46. -/
theorem resolveTakesTwoTellers : Obligations.ResolveTakesTwoTellers := by
  refine ⟨fun t d delivered teller who s h hs h1 h2 hw hold => ?_, fun ticket delivered teller s h =>
    ⟨fun hs => ?_, fun hs out => ?_, fun hs h1 h2 h3 h4 => ?_⟩⟩
  · dsimp only
    rw [State.exec_resolve_held h hs hw h1 h2 hold]
    unfold State.resolves
    refine ⟨fun hd => if_pos hd, fun hd many => ?_, fun hd few => ⟨fun swept => ?_, fun free => ⟨fun first => ?_,
      fun a ha hc other => ?_, fun a ha hc same => ?_⟩⟩⟩
    · rw [if_neg (not_not_intro hd), if_pos many]
    · rw [if_neg (not_not_intro hd), if_neg (Nat.not_lt.2 few), if_pos swept]
    all_goals rw [if_neg (not_not_intro hd), if_neg (Nat.not_lt.2 few), free, if_neg Bool.false_ne_true]
    · rw [State.approveDual_held first]
      rfl
    · rw [State.approveDual_mismatch ha hc other]
      rfl
    · have kept : (s.dropApproval (.resolve t.number)).holdsDispense t d := hold
      rw [State.approveDual_effect ha hc same, State.resolve_held kept]
      rfl
  · rw [State.exec_resolve h, if_pos hs]
  · rw [State.exec_resolve h, hs, if_neg Bool.noConfusion]
    cases hw : Teller.ofNat? teller with
    | none => rfl
    | some who =>
      have := Teller.ofNat?_range hw
      exact if_pos (by omega)
  · obtain ⟨who, hw⟩ := Teller.ofNat?_of_range h1 h2
    refine ⟨fun absent => ?_, fun t e ht hb => ?_, fun t k ht hb => ?_⟩
    · rw [State.exec_resolve_inRange h hs hw h3 h4, absent, Option.elim_none]
    · exact State.exec_resolve_otherKind h hs hw h3 h4 ht (by rw [hb]; exact fun _ => TicketBody.noConfusion)
    · exact State.exec_resolve_otherKind h hs hw h3 h4 ht (by rw [hb]; exact fun _ => TicketBody.noConfusion)

end Sys2Proof.Machine
end

section
/-! PROOFS. The words of the Lane Ring by their layouts (R191), both ways: a body's number with its check nibble, the fields that a
STAMP and a command put into the body, and the contents that an uplink word is read as. -/

namespace Sys2Proof.Machine

/-! ### Numbers of bit vectors -/

theorem toNat_append_eq {m n : Nat} (x : BitVec m) (y : BitVec n) : (x ++ y).toNat = x.toNat * 2 ^ n + y.toNat := by
  rw [BitVec.toNat_append, ← Nat.shiftLeft_add_eq_or_of_lt y.isLt, Nat.shiftLeft_eq]

theorem toNat_field {n : Nat} (w : BitVec n) (start width : Nat) :
    (w.extractLsb' start width).toNat = w.toNat / 2 ^ start % 2 ^ width := by
  rw [BitVec.extractLsb'_toNat, Nat.shiftRight_eq_div_pow]

theorem getLsbD_eq_div {n : Nat} (w : BitVec n) (i : Nat) : w.getLsbD i = decide (w.toNat / 2 ^ i % 2 = 1) :=
  Nat.testBit_eq_decide_div_mod_eq

theorem toNat_decide_bit (n : Nat) : (decide (n % 2 = 1)).toNat = n % 2 := by
  rcases Nat.mod_two_eq_zero_or_one n with h | h <;> rw [h] <;> rfl

theorem decide_bit {n : Nat} {b : Bool} (h : n = b.toNat) : decide (n = 1) = b := by
  subst h
  cases b <;> rfl

/-! ### The check nibble -/

/-- The word whose body is a number, with the check nibble above it (R191). -/
def wordOf (body : Nat) : RingWord :=
  BitVec.ofNat 16 (4096 * ((body / 256) ^^^ (body / 16 % 16) ^^^ (body % 16) ^^^ 5) + body)

theorem ringWord_eq_wordOf (b : BitVec 12) : ringWord b = wordOf b.toNat := by
  have top : b.toNat / 256 % 16 = b.toNat / 256 := Nat.mod_eq_of_lt (by omega)
  have low : b.toNat / 1 % 16 = b.toNat % 16 := by rw [Nat.div_one]
  have number : (ringWord b).toNat =
      4096 * ((b.toNat / 256) ^^^ (b.toNat / 16 % 16) ^^^ (b.toNat % 16) ^^^ 5) + b.toNat := by
    unfold ringWord
    rw [toNat_append_eq, Nat.mul_comm]
    simp only [BitVec.toNat_xor, toNat_field]
    norm_num only [top, low]
    rfl
  refine BitVec.eq_of_toNat_eq ?_
  rw [wordOf, BitVec.toNat_ofNat, ← number, Nat.mod_eq_of_lt (ringWord b).isLt]

/-- The body of a word is its number below the check nibble. -/
theorem wordOf_body {body : Nat} (h : body < 4096) : (wordOf body).toNat % 4096 = body := by
  rw [wordOf, BitVec.toNat_ofNat]
  omega

/-- A word's check is right when the word is that of its body. -/
theorem checkRight_iff (w : RingWord) : checkRight w = true ↔ w = wordOf (w.toNat % 4096) := by
  unfold checkRight
  rw [decide_eq_true_iff, ringWord_eq_wordOf, toNat_field, pow_zero, Nat.div_one]
  exact eq_comm

/-! ### Downlink words -/

theorem stampWord_eq {address frame : Nat} (ha : address < 16) (hf : frame < 256) :
    stampWord address frame = wordOf (256 * address + frame) := by
  unfold stampWord
  rw [ringWord_eq_wordOf, toNat_append_eq, BitVec.toNat_ofNat, BitVec.toNat_ofNat, Nat.mod_eq_of_lt ha, Nat.mod_eq_of_lt hf,
    Nat.mul_comm]
  rfl

theorem commandWord_eq (l : Lane) {code : Nat} (hc : code < 16) :
    commandWord l code = wordOf (0x900 + 16 * l.number + code) := by
  have lane : l.number < 16 := by cases l <;> decide
  have body : ((9 : BitVec 4) ++ BitVec.ofNat 4 l.number ++ BitVec.ofNat 4 code).toNat = 0x900 + 16 * l.number + code := by
    rw [toNat_append_eq, toNat_append_eq, BitVec.toNat_ofNat, BitVec.toNat_ofNat, Nat.mod_eq_of_lt lane, Nat.mod_eq_of_lt hc]
    change (9 * 2 ^ 4 + l.number) * 2 ^ 4 + code = _
    omega
  unfold commandWord
  rw [ringWord_eq_wordOf, body]

/-! ### Codes read -/

theorem SlotValue.ofCode?_eq_some {n : Nat} {x : SlotValue} : SlotValue.ofCode? n = some x ↔ n = x.code := by
  constructor
  · intro h
    unfold SlotValue.ofCode? at h
    split at h <;> cases h <;> rfl
  · rintro rfl
    cases x <;> rfl

theorem Lamp.ofCode?_eq_some {n : Nat} {x : Lamp} : Lamp.ofCode? n = some x ↔ n = x.code := by
  constructor
  · intro h
    unfold Lamp.ofCode? at h
    split at h <;> cases h <;> rfl
  · rintro rfl
    cases x <;> rfl

theorem DrawerReport.ofCode?_eq_some {n : Nat} {x : DrawerReport} : DrawerReport.ofCode? n = some x ↔ n = x.code := by
  constructor
  · intro h
    unfold DrawerReport.ofCode? at h
    split at h <;> cases h <;> rfl
  · rintro rfl
    cases x <;> rfl

/-- The code of an EVENT kind (R191). -/
def EventKind.code : EventKind → Nat
  | .insert => 0
  | .captureDone => 1
  | .captureJam => 2
  | .returnDone => 3

theorem EventKind.ofCode?_eq_some {n : Nat} {x : EventKind} : EventKind.ofCode? n = some x ↔ n = x.code := by
  constructor
  · intro h
    unfold EventKind.ofCode? at h
    split at h <;> cases h <;> rfl
  · rintro rfl
    cases x <;> rfl

theorem SlotValue.code_lt (x : SlotValue) : x.code < 4 := by cases x <;> decide
theorem Lamp.code_lt (x : Lamp) : x.code < 5 := by cases x <;> decide
theorem DrawerReport.code_lt (x : DrawerReport) : x.code < 3 := by cases x <;> decide
theorem EventKind.code_lt (x : EventKind) : x.code < 4 := by cases x <;> decide

/-! ### Uplink words -/

/-- The body of an uplink word by its contents (R191). -/
def Uplink.body : Uplink → Nat
  | .statusL slot lamp call tamper echo =>
    0x800 + 512 * slot.code + 64 * lamp.code + 32 * call.toNat + 16 * tamper.toNat + echo
  | .statusD drawer notes fault => 0x400 + 256 * drawer.code + 128 * notes.toNat + 64 * fault.toNat
  | .event kind number => 256 * kind.code + 32 * number

/-- The contents that fit the fields of a word. -/
def Uplink.fits : Uplink → Prop
  | .statusL _ _ _ _ echo => echo < 16
  | .statusD _ _ _ => True
  | .event _ number => number < 8

theorem Uplink.body_lt {x : Uplink} (h : x.fits) : x.body < 4096 := by
  cases x with
  | statusL slot lamp call tamper echo =>
    simp only [Uplink.fits, Uplink.body] at h ⊢
    have := slot.code_lt
    have := lamp.code_lt
    have := call.toNat_lt
    have := tamper.toNat_lt
    omega
  | statusD drawer notes fault =>
    simp only [Uplink.body]
    have := drawer.code_lt
    have := notes.toNat_lt
    have := fault.toNat_lt
    omega
  | event kind number =>
    simp only [Uplink.fits, Uplink.body] at h ⊢
    have := kind.code_lt
    omega

/-- The contents read from a word's number, its check aside. -/
def readBody (n : Nat) : Option Uplink :=
  if n / 2048 % 2 = 1 then
    match SlotValue.ofCode? (n / 512 % 4), Lamp.ofCode? (n / 64 % 8) with
    | some x, some y => some (.statusL x y (decide (n / 32 % 2 = 1)) (decide (n / 16 % 2 = 1)) (n % 16))
    | _, _ => none
  else if n / 1024 % 2 = 1 then
    match DrawerReport.ofCode? (n / 256 % 4) with
    | some x => if n % 64 = 0 then some (.statusD x (decide (n / 128 % 2 = 1)) (decide (n / 64 % 2 = 1))) else none
    | none => none
  else
    match EventKind.ofCode? (n / 256 % 4) with
    | some k => if n % 32 = 0 then some (.event k (n / 32 % 8)) else none
    | none => none

theorem readUplink_eq (w : RingWord) : readUplink w = if checkRight w = true then readBody w.toNat else none := by
  have low (width : Nat) : w.extractLsb' 0 width = 0 ↔ w.toNat % 2 ^ width = 0 := by
    rw [← BitVec.toNat_inj, toNat_field, pow_zero, Nat.div_one]
    rfl
  have echo : w.toNat / 2 ^ 0 = w.toNat := by rw [pow_zero, Nat.div_one]
  unfold readUplink readBody
  simp only [getLsbD_eq_div, toNat_field, low, decide_eq_true_eq, ite_not, echo]
  rfl

/-- A word's number is read as the contents that its body spells. -/
theorem readBody_of_body {x : Uplink} {n : Nat} (h : x.fits) (hn : n % 4096 = x.body) : readBody n = some x := by
  unfold readBody
  cases x with
  | statusL slot lamp call tamper echo =>
    simp only [Uplink.fits, Uplink.body] at h hn
    have := slot.code_lt
    have := lamp.code_lt
    have := call.toNat_lt
    have := tamper.toNat_lt
    have kind : n / 2048 % 2 = 1 := by omega
    have hs : n / 512 % 4 = slot.code := by omega
    have hl : n / 64 % 8 = lamp.code := by omega
    have hc : n / 32 % 2 = call.toNat := by omega
    have ht : n / 16 % 2 = tamper.toNat := by omega
    have he : n % 16 = echo := by omega
    rw [if_pos kind, SlotValue.ofCode?_eq_some.2 hs, Lamp.ofCode?_eq_some.2 hl, decide_bit hc, decide_bit ht, he]
  | statusD drawer notes fault =>
    simp only [Uplink.body] at hn
    have := drawer.code_lt
    have := notes.toNat_lt
    have := fault.toNat_lt
    have high : ¬ n / 2048 % 2 = 1 := by omega
    have kind : n / 1024 % 2 = 1 := by omega
    have hd : n / 256 % 4 = drawer.code := by omega
    have hm : n / 128 % 2 = notes.toNat := by omega
    have hf : n / 64 % 2 = fault.toNat := by omega
    have rest : n % 64 = 0 := by omega
    rw [if_neg high, if_pos kind, DrawerReport.ofCode?_eq_some.2 hd, decide_bit hm, decide_bit hf]
    exact if_pos rest
  | event kind number =>
    simp only [Uplink.fits, Uplink.body] at h hn
    have := kind.code_lt
    have high : ¬ n / 2048 % 2 = 1 := by omega
    have low : ¬ n / 1024 % 2 = 1 := by omega
    have hk : n / 256 % 4 = kind.code := by omega
    have hnum : n / 32 % 8 = number := by omega
    have rest : n % 32 = 0 := by omega
    rw [if_neg high, if_neg low, EventKind.ofCode?_eq_some.2 hk, hnum]
    exact if_pos rest

/-- And only of those. -/
theorem body_of_readBody {x : Uplink} {n : Nat} (h : readBody n = some x) : x.fits ∧ n % 4096 = x.body := by
  unfold readBody at h
  split at h
  · split at h
    · rename_i slot lamp hs hl
      have hs := SlotValue.ofCode?_eq_some.1 hs
      have hl := Lamp.ofCode?_eq_some.1 hl
      cases h
      simp only [Uplink.fits, Uplink.body, toNat_decide_bit]
      omega
    · cases h
  · split at h
    · split at h
      · rename_i drawer hd
        have hd := DrawerReport.ofCode?_eq_some.1 hd
        split at h
        · have flags : n % 256 = 128 * (n / 128 % 2) + 64 * (n / 64 % 2) := by omega
          have high : n % 4096 = 1024 + 256 * (n / 256 % 4) + n % 256 := by omega
          cases h
          simp only [Uplink.fits, Uplink.body, toNat_decide_bit, high, flags, hd, Nat.add_assoc, and_self]
        · cases h
      · cases h
    · split at h
      · rename_i kind hk
        have hk := EventKind.ofCode?_eq_some.1 hk
        split at h
        · cases h
          simp only [Uplink.fits, Uplink.body]
          omega
        · cases h
      · cases h

/-- An uplink word is read as the contents that its body spells, its check being right, and as no others. -/
theorem readUplink_eq_some (w : RingWord) (x : Uplink) : readUplink w = some x ↔ x.fits ∧ w = wordOf x.body := by
  rw [readUplink_eq]
  constructor
  · intro h
    split at h
    · rename_i right
      obtain ⟨fits, body⟩ := body_of_readBody h
      exact ⟨fits, body ▸ (checkRight_iff w).1 right⟩
    · cases h
  · rintro ⟨fits, rfl⟩
    have body := wordOf_body (Uplink.body_lt fits)
    have right : checkRight (wordOf x.body) = true := (checkRight_iff _).2 (congrArg wordOf body.symm)
    rw [if_pos right, readBody_of_body fits body]

end Sys2Proof.Machine
end

section
/-! PROOFS. The slots of a frame (R119, R120, R125, R127, R138): the sync slot with the lane count that acts in it, a lane's slot by
its link state, and the outcome of a reply. -/

namespace Sys2Proof.Machine

variable {s : State} {l m : Lane} {n : Nat}

/-! ### The lane count that acts (R138) -/

/-- A lane's record as a lane count leaves it. -/
def LaneRec.counted (r : LaneRec) (n : Nat) (l : Lane) : LaneRec :=
  if l.number ≤ n then r.enabled else { r with link := .disabled }

/-- A DISABLED lane up to the count is JOINING, as it starts (R138). -/
theorem LaneRec.counted_joins {r : LaneRec} (hl : l.number ≤ n) (h : r.link = .disabled) :
    r.counted n l = { r with link := .joining, badRun := 0, faultRun := 0, joinRun := .idle, lastEvent := none } :=
  (if_pos hl).trans (if_pos h)

theorem LaneRec.counted_stays {r : LaneRec} (hl : l.number ≤ n) (h : r.link ≠ .disabled) : r.counted n l = r :=
  (if_pos hl).trans (if_neg h)

theorem LaneRec.counted_above {r : LaneRec} (hl : n < l.number) : r.counted n l = { r with link := .disabled } :=
  if_neg (Nat.not_le.2 hl)

theorem State.applyCountTo_self (n : Nat) (s : State) (l : Lane) :
    (State.applyCountTo n s l).lane l = (s.lane l).counted n l := by
  unfold State.applyCountTo LaneRec.counted
  dsimp only
  split
  · exact s.changeLane_self l _
  · split
    · rename_i off
      rw [← off]
    · rw [State.hand_lane, State.hand_lane, State.changeLane_self]

theorem State.applyCountTo_other (n : Nat) (s : State) (h : l ≠ m) : (State.applyCountTo n s m).lane l = s.lane l := by
  unfold State.applyCountTo
  dsimp only
  split
  · exact s.changeLane_of_ne _ h
  · split
    · rfl
    · rw [State.hand_lane, State.hand_lane, State.changeLane_of_ne _ _ h]

theorem State.hand_ring (s : State) (o : Owned) (active : Bool) : (s.hand o active).ring = s.ring := by
  rw [(s.handed_hand o active).spares.same]

theorem State.changeLane_ring (s : State) (l : Lane) (r : LaneRec) : (s.changeLane l r).ring = s.ring := by
  unfold State.changeLane State.placeIf
  split <;> rfl

theorem State.applyCountTo_ring (n : Nat) (s : State) (l : Lane) : (State.applyCountTo n s l).ring = s.ring := by
  unfold State.applyCountTo
  dsimp only
  split
  · exact s.changeLane_ring _ _
  · split
    · rfl
    · rw [State.hand_ring, State.hand_ring, State.changeLane_ring]

theorem State.applyLaneCount_none (h : s.ring.pendingCount = none) : s.applyLaneCount = s := by
  unfold State.applyLaneCount
  rw [h]

/-- A lane count that waits is the enabled count from now on, and each lane's record follows it. -/
theorem State.applyLaneCount_some (h : s.ring.pendingCount = some n) :
    s.applyLaneCount.ring = { s.ring with enabledCount := n, pendingCount := none }
      ∧ ∀ l, s.applyLaneCount.lane l = (s.lane l).counted n l := by
  let t : State := { s with ring := { s.ring with enabledCount := n, pendingCount := none } }
  have acts : s.applyLaneCount = Lane.all.foldl (State.applyCountTo n) t := by
    unfold State.applyLaneCount
    rw [h]
  rw [acts]
  refine ⟨List.foldlRecOn (motive := fun u : State => u.ring = t.ring) Lane.all _ rfl fun u hu l _ =>
    (State.applyCountTo_ring n u l).trans hu, fun l => ?_⟩
  obtain ⟨u, before, after⟩ := foldl_lane_view (fun u : State => u.lane l) l (fun u _ => State.applyCountTo_other n u) t
  rw [after, State.applyCountTo_self, before]
  rfl

/-- A lane count leaves what the sync slot has written of the ring. -/
theorem State.applyLaneCount_sent (s : State) :
    s.applyLaneCount.ring = { s.ring with enabledCount := s.applyLaneCount.ring.enabledCount,
                                          pendingCount := s.applyLaneCount.ring.pendingCount } := by
  cases h : s.ring.pendingCount with
  | none => rw [State.applyLaneCount_none h]
  | some n => rw [(State.applyLaneCount_some h).1]

/-! ### The sync slot (R119, R120) -/

/-- The ring's record as a frame starts, before a lane count acts. -/
def State.syncSent (s : State) (heard : RingWord) : State :=
  { s with ring := { s.ring with frameNumber := s.ring.nextFrame, started := true, ltx := some (stampWord 0 s.ring.nextFrame),
                                 syncFault := decide (heard ≠ stampWord 0 s.ring.nextFrame) } }

theorem State.exec_syncSlot (heard : RingWord) (s : State) :
    exec (.syncSlot heard) s = .next (s.syncSent heard).applyLaneCount.reform := rfl

/-- The frame that SYNC_SLOT starts: its number, the STAMP to all stations and what is heard of it. -/
theorem State.syncSlot_starts (heard : RingWord) (s : State) :
    let u := (s.syncSent heard).applyLaneCount.reform
    u.ring.frameNumber = s.ring.nextFrame ∧ u.ring.started = true ∧ u.ring.ltx = some (stampWord 0 u.ring.frameNumber)
      ∧ u.ring.syncFault = decide (heard ≠ stampWord 0 u.ring.frameNumber) := by
  intro u
  have ring : u.ring = _ := (s.syncSent heard).applyLaneCount_sent
  rw [ring]
  exact ⟨rfl, rfl, rfl, rfl⟩

theorem State.syncSlot_lane (h : s.ring.pendingCount = some n) (heard : RingWord) (l : Lane) :
    (s.syncSent heard).applyLaneCount.reform.lane l =
      (s.syncSent heard).applyLaneCount.formLane l ((s.lane l).counted n l) := by
  rw [State.reform_lane, (State.applyLaneCount_some (s := s.syncSent heard) h).2]
  rfl

/-! ### A lane's slot (R120, R125) -/

/-- The lane record and the ring as a lane's slot with a word leaves them. -/
theorem State.exec_laneSlot_word {word : RingWord} (h : s.downlink l = some word) (heard : RingWord) (reply : Reply) :
    exec (.laneSlot l heard reply) s =
      .next { s with
        lanes := s.lanes.set l { s.lane l with slotFault := decide (heard ≠ word),
                                               slotReply := some (judgeReply s.ring.frameNumber reply) },
        ring := { s.ring with ltx := some word } } := by
  change execLaneSlot l heard reply s = _
  unfold execLaneSlot
  rw [h]
  rfl

theorem State.exec_laneSlot_silent (h : s.downlink l = none) (heard : RingWord) (reply : Reply) :
    exec (.laneSlot l heard reply) s =
      if (s.lane l).link = .faulted then .next { s with ring := { s.ring with ltx := none } } else .next s := by
  change execLaneSlot l heard reply s = _
  unfold execLaneSlot
  rw [h]

theorem State.downlink_online (h : (s.lane l).link = .online) :
    s.downlink l = some ((s.lane l).commandTo l s.ring.frameNumber) := by
  simp only [State.downlink, h]

theorem State.downlink_stamp (h : (s.lane l).link = .joining ∨ (s.lane l).link = .silent) :
    s.downlink l = some (stampWord l.number s.ring.frameNumber) := by
  rcases h with h | h <;> simp only [State.downlink, h]

theorem State.downlink_none (h : (s.lane l).link = .faulted ∨ (s.lane l).link = .disabled) : s.downlink l = none := by
  rcases h with h | h <;> simp only [State.downlink, h]

/-- Whether a drawer report answers a drawer value sent (R123). -/
theorem DrawerValue.matchedBy_eq (x : DrawerValue) (y : Option DrawerReport) :
    x.matchedBy y = match x with
      | .locked => decide (y = some .locked)
      | .unlocked => decide (y = some .unlocked ∨ y = some .opened)
      | .closing => decide (y = some .locked) := by
  cases x <;> rcases y with _ | y
  case locked.some | unlocked.some | closing.some => cases y <;> rfl
  all_goals rfl

section CommandTo
variable {r : LaneRec} {frame : Nat}

theorem LaneRec.commandTo_drawer (h : r.effDrawer.matchedBy r.repDrawer = false) :
    r.commandTo l frame = commandWord l r.effDrawer.code := if_pos (by rw [h]; exact Bool.false_ne_true)

theorem LaneRec.commandTo_slot (h : r.effDrawer.matchedBy r.repDrawer = true) (hs : r.repSlot ≠ some r.effSlot) :
    r.commandTo l frame = commandWord l (3 + r.effSlot.code) := (if_neg (not_not_intro h)).trans (if_pos hs)

theorem LaneRec.commandTo_lamp (h : r.effDrawer.matchedBy r.repDrawer = true) (hs : r.repSlot = some r.effSlot)
    (hl : r.repLamp ≠ some r.desiredLamp) : r.commandTo l frame = commandWord l (7 + r.desiredLamp.code) :=
  ((if_neg (not_not_intro h)).trans (if_neg (not_not_intro hs))).trans (if_pos hl)

theorem LaneRec.commandTo_stamp (h : r.effDrawer.matchedBy r.repDrawer = true) (hs : r.repSlot = some r.effSlot)
    (hl : r.repLamp = some r.desiredLamp) : r.commandTo l frame = stampWord l.number frame :=
  ((if_neg (not_not_intro h)).trans (if_neg (not_not_intro hs))).trans (if_neg (not_not_intro hl))

end CommandTo

/-! ### The outcome of a reply (R127) -/

section JudgeReply
variable {frame : Nat} {w : RingWord}

theorem judgeReply_early (cut : Bool) : judgeReply frame (.word false cut w) = .receiveError false := rfl

theorem judgeReply_cut : judgeReply frame (.word true true w) = .receiveError false := rfl

theorem judgeReply_unread (h : readUplink w = none) : judgeReply frame (.word true false w) = .receiveError false := by
  simp only [judgeReply, h]
  rfl

theorem judgeReply_statusL {slot : SlotValue} {lamp : Lamp} {call tamper : Bool} {echo : Nat}
    (h : readUplink w = some (.statusL slot lamp call tamper echo)) :
    judgeReply frame (.word true false w) =
      if echo = frame % 16 ∨ echo = (frame + 255) % 16 then .valid (.statusL slot lamp call tamper echo) else .receiveError true := by
  have row : echoRight frame echo = true ↔ (echo = frame % 16 ∨ echo = (frame + 255) % 16) := by
    unfold echoRight
    rw [Bool.or_eq_true, decide_eq_true_iff, decide_eq_true_iff]
  have judged : judgeReply frame (.word true false w) =
      if echoRight frame echo then .valid (.statusL slot lamp call tamper echo) else .receiveError true := by
    simp only [judgeReply, h]
    rfl
  exact judged.trans (if_congr row rfl rfl)

theorem judgeReply_other {x : Uplink} (h : readUplink w = some x)
    (hx : ∀ slot lamp call tamper echo, x ≠ .statusL slot lamp call tamper echo) :
    judgeReply frame (.word true false w) = .valid x := by
  cases x with
  | statusL slot lamp call tamper echo => exact absurd rfl (hx slot lamp call tamper echo)
  | statusD | event =>
    simp only [judgeReply, h]
    rfl

end JudgeReply

/-- Settles O42. -/
theorem slotsOfTheRing : Obligations.SlotsOfTheRing := by
  refine ⟨fun heard s => ?_, fun l heard reply s => ?_, fun frame inWindow cut w => ?_, fun address frame ha hf => ?_,
    fun l code hc => commandWord_eq l (by omega), fun w x => ?_⟩
  · obtain ⟨frame, started, ltx, fault⟩ := s.syncSlot_starts heard
    refine ⟨_, s.exec_syncSlot heard, frame, started, ltx, fault, fun idle => ?_, fun n waits => ?_⟩
    · rw [State.applyLaneCount_none (s := s.syncSent heard) idle]
      refine ⟨rfl, fun l => ?_⟩
      rw [State.reform_lane]
      rfl
    · have ring : (s.syncSent heard).applyLaneCount.reform.ring = _ := (State.applyLaneCount_some (s := s.syncSent heard) waits).1
      refine ⟨by rw [ring], by rw [ring], fun l hl off => ?_, fun l hl on => ?_, fun l hl => ?_⟩
      · rw [State.syncSlot_lane waits, LaneRec.counted_joins hl off]
        exact ⟨rfl, rfl, rfl, rfl, rfl⟩
      · rw [State.syncSlot_lane waits, LaneRec.counted_stays hl on]
        rfl
      · rw [State.syncSlot_lane waits, LaneRec.counted_above hl]
        rfl
  · intro r stamp drawerAnswered sent
    have same : drawerAnswered = r.effDrawer.matchedBy r.repDrawer := (DrawerValue.matchedBy_eq _ _).symm
    rw [same]
    refine ⟨fun h => State.exec_laneSlot_word (State.downlink_stamp h) heard reply, fun h => ?_, fun h => ?_, fun h => ?_⟩
    · have run : exec (.laneSlot l heard reply) s = sent (r.commandTo l s.ring.frameNumber) :=
        State.exec_laneSlot_word (State.downlink_online h) heard reply
      rw [run]
      refine ⟨fun hd => ?_, fun hd hs => ?_, fun hd hs hl => ?_, fun hd hs hl => ?_⟩
      · rw [LaneRec.commandTo_drawer hd]
      · rw [LaneRec.commandTo_slot hd hs]
      · rw [LaneRec.commandTo_lamp hd hs hl]
      · rw [LaneRec.commandTo_stamp hd hs hl]
    · rw [State.exec_laneSlot_silent (State.downlink_none (.inl h)), if_pos h]
    · rw [State.exec_laneSlot_silent (State.downlink_none (.inr h)), h]
      rfl
  · refine ⟨rfl, ?_, ?_, ?_, ?_, ?_⟩
    · rintro rfl
      exact judgeReply_early cut
    · rintro rfl rfl
      exact judgeReply_cut
    · rintro rfl rfl h
      exact judgeReply_unread h
    · rintro slot lamp call tamper echo rfl rfl h
      exact judgeReply_statusL h
    · rintro x rfl rfl h hx
      exact judgeReply_other h hx
  · exact stampWord_eq (by omega) hf
  · refine (readUplink_eq_some w x).trans ?_
    cases x with
    | statusL | statusD => exact Iff.rfl
    | event kind number => cases kind <;> exact Iff.rfl

end Sys2Proof.Machine
end

section
/-! PROOFS. The operations that leave the Alarm Unit's records as they are: those of the tickets, of the engines' movements, of the
Deposit Unit and of the Lane Ring hand no source (R143). -/

namespace Sys2Proof.Machine

variable (s : State) (n : Nat) (l : Lane)

/-! ### Tickets -/

@[simp] theorem State.rewrite_alarms (b : TicketBody) : (s.rewrite n b).alarms = s.alarms := by rw [State.rewrite_frame]

@[simp] theorem State.move_alarms (b : TicketBody) : (s.move n b).alarms = s.alarms := by rw [State.move_frame]

@[simp] theorem State.claim_alarms (takenIn : DispenseState → Bool) (f : Dispense → Dispense) :
    (s.claim n takenIn f).alarms = s.alarms := by rw [State.claim_frame]

@[simp] theorem State.adjust_alarms (f : Dispense → Dispense) : (s.adjust n f).alarms = s.alarms := by rw [State.adjust_frame]

@[simp] theorem State.joinQueue_alarms : (s.joinQueue n).alarms = s.alarms := s.adjust_alarms n _

@[simp] theorem State.markTicket_alarms (teller : Teller) : (s.markTicket n teller).alarms = s.alarms := by
  unfold State.markTicket
  split <;> rfl

theorem State.openDispenseTicket_alarms (teller : Teller) (amount : Nat) (plan : List Segment) :
    (s.openDispenseTicket teller l amount plan).alarms = s.alarms := by
  unfold State.openDispenseTicket
  dsimp only
  split
  · rfl
  · exact State.joinQueue_alarms _ _

theorem State.applyAmend_alarms (d : Dispense) (who : Teller) (amount : Nat) (plan : List Segment) :
    (s.applyAmend n d who amount plan).alarms = s.alarms := by
  simp [State.applyAmend, apply_ite State.alarms]

@[simp] theorem State.askClose_alarms : (s.askClose l).alarms = s.alarms := by
  unfold State.askClose
  split <;> rfl

@[simp] theorem State.endPicked_alarms (d : Dispense) : (s.endPicked n d).alarms = s.alarms := by
  simp [State.endPicked, apply_ite State.alarms]

@[simp] theorem State.letGo_alarms : (s.letGo n).alarms = s.alarms := by
  unfold State.letGo
  split <;> rfl

/-- A VOID taken moves its ticket, purges staging or asks the drawer to close (R25 to R27). -/
theorem State.voidTicket_alarms {t : Ticket} {u : State} (h : s.voidTicket t = some u) : u.alarms = s.alarms := by
  unfold State.voidTicket State.voidDispense at h
  split at h
  · split at h <;> try split at h
    all_goals cases h
    all_goals simp
  · split at h <;> cases h
    exact s.move_alarms _ _
  · split at h <;> cases h
    exact s.move_alarms _ _

@[simp] theorem State.takeUp_alarms : (s.takeUp n).alarms = s.alarms := by rw [State.takeUp_frame]

theorem State.select_alarms : (s.select n).alarms = s.alarms := by simp [State.select]

theorem State.takeExpired_alarms : (s.takeExpired n).alarms = s.alarms := by
  unfold State.takeExpired
  split
  · split <;> simp
  · rfl

/-! ### Count points -/

@[simp] theorem State.requestCount_alarms (c : Cause) (release : PosSet) : (s.requestCount c release).alarms = s.alarms := by
  rw [State.requestCount_frame]

@[simp] theorem State.publish_alarms (result : CountResult) : (s.publish result).alarms = s.alarms := by
  rw [State.publish_frame]

theorem State.publishIfWritten_alarms : s.publishIfWritten.alarms = s.alarms := by
  simp [State.publishIfWritten, apply_ite State.alarms]

@[simp] theorem State.handWriteBack_alarms (p : Pos) (ok : Bool) : (s.handWriteBack p ok).alarms = s.alarms := by
  rw [State.handWriteBack_eq, State.publishIfWritten_alarms]

theorem State.enterBalancing_alarms : s.enterBalancing.alarms = s.alarms := by
  rw [State.enterBalancing_eq, State.askWriteBacks_frame, State.publishIfWritten_alarms]
  rfl

theorem State.settle_alarms (t : Ticket) : (s.settle t).alarms = s.alarms := by
  have counted (u : State) : u.countSettlement.alarms = u.alarms := by
    simp [State.countSettlement, apply_ite State.alarms]
  unfold State.settle
  split <;> simp [counted]

/-! ### Cassettes and the D gate -/

@[simp] theorem State.endTransfer_alarms : s.endTransfer.alarms = s.alarms := by rw [State.endTransfer_frame]

@[simp] theorem State.recheckGate_alarms : s.recheckGate.alarms = s.alarms := by rw [State.recheckGate_frame]

@[simp] theorem State.freeGate_alarms : s.freeGate.alarms = s.alarms := by rw [State.freeGate_frame]

@[simp] theorem State.drawnOut_alarms (p : Pos) : (s.drawnOut p).alarms = s.alarms := by rw [State.drawnOut_frame]; rfl

@[simp] theorem State.countSlot_alarms (p : Pos) (r : GaugeResult) : (s.countSlot p r).alarms = s.alarms := by
  rw [State.countSlot_frame]

@[simp] theorem State.countStore_alarms : s.countStore.alarms = s.alarms := by
  rw [State.countStore_eq, State.recheckGate_alarms, State.storedNote_frame]

theorem State.releasePosition_alarms (p : Pos) : (s.releasePosition p).alarms = s.alarms := by
  rw [State.releasePosition_frame]; rfl

/-! ### Picks -/

@[simp] theorem State.haltPick_alarms (why : HaltReason) : (s.haltPick n why).alarms = s.alarms := s.claim_alarms n _ _

@[simp] theorem State.nextStep_alarms (r : GaugeResult) : (s.nextStep n r).alarms = s.alarms := by
  have complete : (s.completeBundle n).alarms = s.alarms := s.claim_alarms n _ _
  have voided : (s.finishVoid n).alarms = s.alarms := by simp [State.finishVoid, apply_ite State.alarms]
  unfold State.nextStep
  split
  · split <;> simp [apply_ite State.alarms, complete, voided]
  · rfl

theorem State.workPick_alarms : (s.workPick n).alarms = s.alarms := by
  unfold State.workPick
  split
  · rfl
  · split
    · rfl
    · split
      · rfl
      · split
        · simp
        · rw [(State.picksOnly_startPick _).same]

/-! ### Retracts, deliveries and disputes -/

@[simp] theorem State.askRetract_alarms (e : Retract) : (s.askRetract e).alarms = s.alarms := by rw [State.askRetract_frame]

theorem State.promote_alarms (e : Retract) : (s.promote e).alarms = s.alarms := by
  unfold State.promote
  dsimp only
  split <;> simp

@[simp] theorem State.dispute_alarms : (s.dispute n l).alarms = s.alarms := by
  unfold State.dispute
  split
  · split <;> simp
  · rfl

theorem State.arrive_alarms : (s.arrive l n).alarms = s.alarms := by
  simp [State.arrive, apply_ite State.alarms]

@[simp] theorem State.decideDrawer_alarms : (s.decideDrawer l).alarms = s.alarms := by
  unfold State.decideDrawer
  dsimp only
  split
  · split <;> simp
  · split
    · simp [apply_ite State.alarms]
    · rfl
  · rfl

/-! ### Envelopes and intake runs -/

@[simp] theorem State.placeIf_alarms (c : Bool) (r : Reason) : (s.placeIf c r).alarms = s.alarms := by
  unfold State.placeIf
  split <;> rfl

@[simp] theorem State.envelopeClaim_alarms (takenIn : EnvelopeState) (f : Envelope → Envelope) :
    (s.envelopeClaim n takenIn f).alarms = s.alarms := by
  unfold State.envelopeClaim
  split
  · split <;> simp
  · rfl

@[simp] theorem State.intakeClaim_alarms (takenIn next : IntakeState) : (s.intakeClaim n takenIn next).alarms = s.alarms := by
  unfold State.intakeClaim
  split
  · split <;> simp
  · rfl

@[simp] theorem State.intakeCount_alarms (f : Intake → Intake) : (s.intakeCount n f).alarms = s.alarms := by
  unfold State.intakeCount
  split
  · split <;> simp
  · rfl

@[simp] theorem State.beginCapture_alarms : (s.beginCapture l n).alarms = s.alarms := by simp [State.beginCapture]

@[simp] theorem State.openTicket_alarms (opener : Option Teller) (mark : TellerSet) (b : TicketBody) :
    (s.openTicket l opener mark b).alarms = s.alarms := rfl

@[simp] theorem State.raiseBin_alarms : (s.raiseBin l).alarms = s.alarms := by simp [State.raiseBin]

@[simp] theorem State.handlingIdle_alarms : (s.handlingIdle l).alarms = s.alarms := rfl

@[simp] theorem State.jam_alarms (why : JamCause) : (s.jam l why).alarms = s.alarms := by
  unfold State.jam
  dsimp only
  split <;> simp

@[simp] theorem State.insertEvent_alarms : (s.insertEvent l).alarms = s.alarms := by
  have accepted : (s.acceptInsert l).alarms = s.alarms := by
    unfold State.acceptInsert
    split <;> simp
  unfold State.insertEvent
  split
  · split
    · rfl
    · exact accepted
  all_goals rfl

@[simp] theorem State.takeEvent_alarms (kind : EventKind) : (s.takeEvent l kind).alarms = s.alarms := by
  cases kind with
  | insert => exact s.insertEvent_alarms l
  | captureDone =>
    change (s.captureDone l).alarms = _
    unfold State.captureDone
    dsimp only
    split <;> simp
  | captureJam => exact s.jam_alarms l _
  | returnDone =>
    change (s.returnDone l).alarms = _
    unfold State.returnDone
    split <;> simp

@[simp] theorem State.decideHandling_alarms (x : SlotValue) : (s.decideHandling l x).alarms = s.alarms := by
  unfold State.decideHandling
  split <;> simp [apply_ite State.alarms]

theorem State.clearedJam_alarms (captured : Bool) : (s.clearedJam n l captured).alarms = s.alarms := by
  simp [State.clearedJam, apply_ite State.alarms]

theorem State.beginIntake_alarms : (s.beginIntake n).alarms = s.alarms := by
  simp [State.beginIntake, apply_ite State.alarms]

@[simp] theorem State.endRun_alarms : (s.endRun n).alarms = s.alarms := by simp [State.endRun]

theorem State.finishIntake_alarms : (s.finishIntake n).alarms = s.alarms := by
  unfold State.finishIntake
  dsimp only
  split
  · rfl
  · split <;> simp

@[simp] theorem State.leavePlacing_alarms : (s.leavePlacing n).alarms = s.alarms := by
  simp [State.leavePlacing, apply_ite State.alarms]

/-! ### The Lane Ring -/

@[simp] theorem State.changeLane_alarms (r : LaneRec) : (s.changeLane l r).alarms = s.alarms := by simp [State.changeLane]

@[simp] theorem State.leftOnline_alarms : (s.leftOnline l).alarms = s.alarms := by
  unfold State.leftOnline
  split <;> simp [apply_ite State.alarms]

theorem State.judgeLane_alarms : (s.judgeLane l).alarms = s.alarms := by
  unfold State.judgeLane
  dsimp only
  split <;> simp [apply_ite State.alarms]

@[simp] theorem State.drawerReport_alarms (x : DrawerReport) (notes fault : Bool) :
    (s.drawerReport l x notes fault).alarms = s.alarms := by
  have closed (p : Presentation) : (s.decideClose l p notes).alarms = s.alarms := by
    simp [State.decideClose, apply_ite State.alarms]
  have present (p : Presentation) : (s.presentReport l p x notes fault).alarms = s.alarms := by
    simp [State.presentReport, State.startTake, apply_ite State.alarms, closed]
  have lost (p : Presentation) : (s.lostReport l p x notes fault).alarms = s.alarms := by
    simp [State.lostReport, apply_ite State.alarms]
  unfold State.drawerReport
  split
  · split <;> simp [apply_ite State.alarms, present, lost]
  · rfl

theorem State.enterOnline_alarms : (s.enterOnline l).alarms = s.alarms := by
  unfold State.enterOnline
  dsimp only
  rw [apply_ite State.alarms, State.decideDrawer_alarms, ite_self]
  split
  · rw [State.decideHandling_alarms]
    split <;> simp
  · split <;> simp

theorem State.handReport_alarms (last : Option Nat) (w : Uplink) : (s.handReport l last w).alarms = s.alarms := by
  unfold State.handReport
  split <;> simp [apply_ite State.alarms]

theorem State.lostExpired_alarms : (s.lostExpired l).alarms = s.alarms := by
  unfold State.lostExpired
  split
  · split <;> simp [apply_ite State.alarms]
  · rfl

theorem State.resolve_alarms (d : Dispense) (delivered : Nat) : (s.resolve n l d delivered).alarms = s.alarms := by
  simp [State.resolve, apply_ite State.alarms]

/-! ### The Request Port -/

@[simp] theorem State.beginFrame_alarms : s.beginFrame.alarms = s.alarms := by
  have givenUp : s.giveUpResponse.alarms = s.alarms := by
    unfold State.giveUpResponse
    dsimp only
    split <;> rfl
  unfold State.beginFrame
  split <;> simp [givenUp]

@[simp] theorem State.takeFrame_alarms : s.takeFrame.alarms = s.alarms := by
  unfold State.takeFrame
  split <;> simp

end Sys2Proof.Machine
end

section
/-! PROOFS. The wall modes (R152 to R155). `State.KeepsModes` is the relation in which every operation but RESUME and a full reset
stands: HOLD and DURESS are formed anew by each change of the alarm table, and no change of it leaves LOCKDOWN. -/

namespace Sys2Proof.Machine

/-! ### What keeps the wall modes -/

/-- The alarm table and the wall modes. -/
def Alarms.modes (a : Alarms) : List AlarmRecord × Bool × Bool × Bool := (a.records, a.hold, a.lockdown, a.duress)

/-- An operation that keeps HOLD and DURESS formed (R152, R154), and that does not leave LOCKDOWN (R155). -/
structure State.KeepsModes (s t : State) : Prop where
  formed : s.modesFormed → t.modesFormed
  locked : s.alarms.lockdown = true → t.alarms.lockdown = true

namespace State.KeepsModes
variable {s t u : State} {c : Prop} [Decidable c]

theorem refl : s.KeepsModes s := ⟨id, id⟩

theorem trans (h : s.KeepsModes t) (k : t.KeepsModes u) : s.KeepsModes u := ⟨k.formed ∘ h.formed, k.locked ∘ h.locked⟩

/-- The table and the modes as they were. -/
theorem same (h : t.alarms.modes = s.alarms.modes) : s.KeepsModes t := by
  simp only [Alarms.modes, Prod.mk.injEq] at h
  obtain ⟨records, hold, lockdown, duress⟩ := h
  refine ⟨?_, lockdown ▸ id⟩
  unfold State.modesFormed
  rw [records, hold, duress]
  exact id

/-- The alarms as they were. -/
theorem quiet (h : t.alarms = s.alarms) : s.KeepsModes t := .same (congrArg Alarms.modes h)

/-- An operation made from a state that is itself reached by one. -/
theorem since (k : t.KeepsModes u) (h : s.KeepsModes t) : s.KeepsModes u := h.trans k

/-- An operation made from a state with the alarms of the one before. -/
theorem after (k : t.KeepsModes u) (h : t.alarms = s.alarms := by rfl) : s.KeepsModes u := (quiet h).trans k

/-- An operation followed by what leaves the alarms. -/
theorem upTo (k : s.KeepsModes t) (h : u.alarms = t.alarms := by rfl) : s.KeepsModes u := k.trans (quiet h)

theorem ite (h : s.KeepsModes t) (k : s.KeepsModes u) : s.KeepsModes (if c then t else u) := by split <;> assumption

/-- An operation that follows only under a condition. -/
theorem thenIf (h : s.KeepsModes t) (k : t.KeepsModes u) : s.KeepsModes (if c then u else t) := .ite (h.trans k) h

/-- An operation made for each of several places. -/
theorem foldl {α : Type} {f : State → α → State} (hf : ∀ (s : State) (x : α), s.KeepsModes (f s x)) (xs : List α) (s : State) :
    s.KeepsModes (xs.foldl f s) := by
  induction xs generalizing s with
  | nil => exact .refl
  | cons x xs ih => exact (hf s x).trans (ih _)

end State.KeepsModes

variable (s : State)

/-! ### Sources handed to the Alarm Unit (R143 to R149) -/

/-- The alarm table as it was, or put in place of the one before. -/
def State.Retabled (s t : State) : Prop := t = s ∨ ∃ records takes, t = s.setRecords records takes

theorem State.retabled_sourceUp (src : AlarmSource) (current : AlarmClass) (pattern : Option Nat) :
    s.Retabled (s.sourceUp src current pattern) := by
  unfold State.sourceUp
  split
  · exact .inl rfl
  · exact .inr ⟨_, _, rfl⟩

theorem State.retabled_sourceDown (src : AlarmSource) : s.Retabled (s.sourceDown src) := by
  unfold State.sourceDown
  split
  · exact .inl rfl
  · split
    · exact .inr ⟨_, _, rfl⟩
    · exact .inr ⟨_, _, rfl⟩
    · exact .inl rfl

theorem State.retabled_followLocal (pattern : BitVec 6) (was now : AlarmClass) : s.Retabled (s.followLocal pattern was now) := by
  unfold State.followLocal
  split
  · exact s.retabled_sourceUp _ _ _
  · split
    · exact s.retabled_sourceDown _
    · split
      · exact .inl rfl
      · exact .inr ⟨_, _, rfl⟩

theorem State.retabled_acknowledge (r : AlarmRecord) : s.Retabled (s.acknowledge r) := by
  unfold State.acknowledge
  split
  · exact .inr ⟨_, _, rfl⟩
  · exact .inr ⟨_, _, rfl⟩
  · exact .inl rfl

/-- A change of the table forms HOLD and DURESS anew, whatever they were, and enters LOCKDOWN or leaves it as it was. -/
theorem State.Retabled.modes {s t : State} (h : s.Retabled t) : s.KeepsModes t := by
  rcases h with rfl | ⟨records, takes, rfl⟩
  · exact .refl
  · refine ⟨fun _ => ?_, (s.handed_setRecords records takes).spares.lockdown⟩
    unfold State.modesFormed
    rw [State.setRecords_alarms]
    exact ⟨rfl, rfl⟩

theorem State.Retabled.samples {s t : State} (h : s.Retabled t) : t.alarms.samples = s.alarms.samples := by
  rcases h with rfl | ⟨records, takes, rfl⟩
  · rfl
  · rw [State.setRecords_alarms]

theorem State.modes_hand (o : Owned) (active : Bool) : s.KeepsModes (s.hand o active) := by
  have noted (x : SourceState) : s.KeepsModes { s with alarms := { s.alarms with sources := s.alarms.sources.set o x } } :=
    .same rfl
  exact .ite .refl (.ite ((State.retabled_sourceUp _ _ _ _).modes.since (noted _))
    ((State.retabled_sourceDown _ _).modes.since (noted _)))

theorem State.modes_handVaults : s.KeepsModes s.handVaults := (State.modes_hand _ _ _).since (s.modes_hand _ _)

theorem State.modes_changeRejectVault (f : RejectVault → RejectVault) : s.KeepsModes (s.changeRejectVault f) :=
  (State.modes_handVaults _).after

theorem State.modes_reclassInputs (pattern : BitVec 6) : s.KeepsModes (s.reclassInputs pattern) := by
  have set (now : AlarmClass) : s.KeepsModes (s.setInputs pattern now) := .same rfl
  rw [State.reclassInputs_eq]
  exact ((State.retabled_followLocal _ _ _ _).modes.since (set _)).upTo (State.alarms_marked _ _)

theorem State.modes_sample (levels : BitVec 6) : s.KeepsModes (s.sample levels) := by
  unfold State.sample
  dsimp only
  have kept : s.KeepsModes { s with alarms := { s.alarms with samples := (levels :: s.alarms.samples).take 3 } } := .same rfl
  split
  · exact .ite kept ((State.modes_reclassInputs _ _).since kept)
  · exact kept

/-! ### What hands a source -/

theorem State.modes_judgeCassette (p : Pos) (k : Identity) : s.KeepsModes (s.judgeCassette p k) := by
  unfold State.judgeCassette
  split
  · exact .quiet rfl
  · exact (State.modes_hand _ _ _).after

theorem State.modes_endRead (p : Pos) (tries : List TagTry) : s.KeepsModes (s.endRead p tries) := by
  unfold State.endRead
  split
  · exact (s.modes_judgeCassette _ _).upTo (State.endTransfer_alarms _)
  · exact .quiet (State.endTransfer_alarms _)
  · exact .refl

/-- A removal hands the tamper source when it is unreleased (R53, R54). -/
theorem State.modes_remove (p : Pos) : s.KeepsModes (s.remove p) := by
  have drawn : s.KeepsModes (s.drawnOut p).recheckGate := .quiet (by simp)
  rw [State.remove_eq]
  exact .thenIf drawn (State.modes_hand _ _ _)

theorem State.modes_configured (items : List ConfigItem) : s.KeepsModes (s.configured items) := by
  have placed : s.KeepsModes (s.withItems items) := .quiet (by rw [State.withItems_frame])
  have judged (u : State) : u.KeepsModes (u.rejudged s.params) := by
    refine .ite .refl (.foldl (fun v p => ?_) _ u)
    rcases v.rejudge_cases p with ⟨x, h⟩ | h | ⟨x, h⟩ <;> rw [h]
    · exact .quiet rfl
    · exact .refl
    · exact (State.modes_hand _ _ _).after
  have reclassed (u : State) : u.KeepsModes (u.reclassed s.params) := .ite .refl (u.modes_reclassInputs _)
  have acted : s.KeepsModes (s.itemsActed items) :=
    ((reclassed _).since ((judged _).since placed)).upTo (State.reslotted_alarms _ _).1
  exact acted.upTo (s.configured_alarms items)

theorem State.modes_pickResult (n : Nat) (p : Pos) (r : GaugeResult) : s.KeepsModes (s.pickResult n p r) := by
  have counted : s.KeepsModes (s.countPick p r) := by
    rw [State.countPick_eq]
    exact (State.KeepsModes.thenIf (.quiet (s.countSlot_alarms p r)) (State.modes_changeRejectVault _ _)).upTo
      (State.recheckGate_alarms _)
  exact counted.upTo (by simp [State.pickResult, apply_ite State.alarms])

theorem State.modes_takeGauge (r : GaugeResult) : s.KeepsModes (s.takeGauge r) := by
  unfold State.takeGauge
  split
  · exact (s.modes_pickResult _ _ _).upTo
  · exact .refl

theorem State.modes_endPurge (count : Nat) : s.KeepsModes (s.endPurge count) := by
  have counted : s.KeepsModes
      (s.changeRejectVault fun v => (v.addRetracted s.staging.held).addSweep (count - s.staging.held)) :=
    s.modes_changeRejectVault _
  refine counted.upTo ?_
  unfold State.endPurge
  dsimp only
  split <;> simp

theorem State.modes_endRetract (l : Lane) (holder : Holder) (kind : RetractKind) (c : Nat) :
    s.KeepsModes (s.endRetract l holder kind c) := by
  have handed (u : State) : u.KeepsModes (u.handRetract holder kind c) := by
    unfold State.handRetract
    split
    · exact (State.modes_changeRejectVault _ _).after (u.claim_alarms _ _ _)
    · exact (State.modes_changeRejectVault _ _).after
    · exact u.modes_changeRejectVault _
  have shown (u : State) (hu : s.KeepsModes u) : s.KeepsModes (u.putPresentation l none) := hu.upTo
  exact shown _ (handed _).after

theorem State.modes_endSweep (count : Nat) : s.KeepsModes (s.endSweep count) := by
  have decided (u : State) (l : Lane) :
      u.KeepsModes (if (u.lane l).link = .online then u.decideDrawer l else u) := .thenIf .refl (.quiet (u.decideDrawer_alarms l))
  have freed (u : State) (hu : s.KeepsModes u) : s.KeepsModes { u with route := .free, sweepDone := true } := hu.upTo
  unfold State.endSweep
  dsimp only
  refine .upTo (.since (.foldl decided _ _) ?_) (State.requestCount_alarms _ _ _)
  exact freed _ (s.modes_changeRejectVault _)

theorem State.modes_emptyVault (v : Vault) : s.KeepsModes (s.emptyVault v) := by
  have shown (u : State) (hu : s.KeepsModes u) : s.KeepsModes (u.place .position).reform := hu.upTo
  cases v <;> exact shown _ (State.modes_handVaults _).after

theorem State.modes_notePlaced (n : Nat) (x : Destination) (e : Escrow) : s.KeepsModes (s.notePlaced n x e) := by
  have bank : s.KeepsModes (s.bankNote x e) := by
    unfold State.bankNote
    split
    · exact .quiet (by simp)
    · exact (State.modes_handVaults _).after
    · exact .refl
    · exact .refl
  exact bank.upTo (by simp [State.notePlaced])

/-! ### The Lane Ring -/

theorem State.modes_applyLaneCount : s.KeepsModes s.applyLaneCount := by
  have one (count : Nat) (u : State) (l : Lane) : u.KeepsModes (State.applyCountTo count u l) :=
    .ite (.quiet (u.changeLane_alarms l _))
      (.ite .refl (((State.modes_hand _ _ _).since (State.modes_hand _ _ _)).after (u.changeLane_alarms l _)))
  unfold State.applyLaneCount
  split
  · exact .after (.foldl (one _) _ _)
  · exact .refl

theorem State.modes_applyFault (l : Lane) : s.KeepsModes (s.applyFault l) :=
  .ite (.ite (.ite ((State.modes_hand _ _ _).after (by simp [apply_ite State.alarms])) (.quiet rfl)) (.quiet rfl)) .refl

theorem State.modes_handOn (l : Lane) (before : LaneRec) : s.KeepsModes (s.handOn l before) := by
  have recorded (online : Bool) (w : Uplink) : s.KeepsModes (s.recordReply l online w) := by
    unfold State.recordReply
    dsimp only
    split
    · exact (State.modes_hand _ _ _).after (by simp)
    all_goals exact .quiet (by simp)
  unfold State.handOn
  dsimp only
  split
  next w _ _ =>
    refine (recorded (decide ((s.lane l).link = .online)) w).upTo ?_
    simp [apply_ite State.alarms, State.handReport_alarms, State.enterOnline_alarms]
  next => exact .refl

theorem State.modes_endFrame : s.KeepsModes s.endFrame :=
  (State.KeepsModes.foldl (fun u l => u.modes_handOn l _) _ _).since
      ((State.KeepsModes.foldl (fun u l => .quiet (u.judgeLane_alarms l)) _ _).since (.foldl State.modes_applyFault _ s))
    |>.upTo

end Sys2Proof.Machine
end

section
/-! PROOFS. Every command but RESUME and a full reset keeps the wall modes (R152 to R155); those two form HOLD and DURESS as well. -/

namespace Sys2Proof.Machine

variable {s t : State}

/-! ### Requests and outcomes -/

/-- The outcome of a command, when it has one, keeps the wall modes. -/
def State.ModesBy (s : State) (o : Host.Outcome State Fault Refusal) : Prop := ∀ t, o = .next t → s.KeepsModes t

namespace State.ModesBy

theorem next (h : s.KeepsModes t) : s.ModesBy (.next t) := fun u hu => by
  cases hu; exact h

/-- A command that leaves the state as it was. -/
theorem idle : s.ModesBy (.next s) := .next .refl

theorem ite {c : Prop} [Decidable c] {o p : Host.Outcome State Fault Refusal} (h : s.ModesBy o) (k : s.ModesBy p) :
    s.ModesBy (if c then o else p) := by split <;> assumption

/-- A command that is a request, by what its checks and its effect grant. -/
theorem request {act : State → Except Status (State × List Byte)} (h : ∀ s : State, Grants s.KeepsModes (act s)) :
    s.ModesBy (.next (s.answer act)) := by
  refine .next ?_
  rcases State.answer_cases (s := s) act with ⟨t, payload, ht, he⟩ | ⟨e, -, he⟩ <;> rw [he]
  · exact (h _ _ _ ht).after s.takeFrame_alarms |>.upTo
  · exact .quiet s.takeFrame_alarms

end State.ModesBy

/-- The formed values close a command that keeps the wall modes. -/
theorem State.KeepsModes.reform (h : s.KeepsModes t) : s.KeepsModes t.reform := h.upTo

/-- An approval of a dual request (R177) keeps the wall modes when its effect does. -/
theorem State.modes_approveDual {x : HeldTarget} {delivered : Option Nat} {teller : Teller} {effect : State → State}
    (h : ∀ u : State, u.KeepsModes (effect u)) : Grants s.KeepsModes (s.approveDual x delivered teller effect) := by
  unfold State.approveDual
  dsimp only
  split
  · exact .ok (.quiet rfl)
  · exact .ok (h _).after
  · exact .error

/-! ### The requests -/

theorem State.modesBy_amend (ticket teller amount : Nat) (segments : List SegmentArg) :
    s.ModesBy (execAmend ticket teller amount segments s) := by
  refine .request fun s => .need fun _ => .need fun _ => .named fun _ _ => .named fun _ _ => .named fun _ _ => .need fun _ =>
    .named fun k _ => ?_
  split
  · split
    case h_1 | h_2 =>
      exact .need fun _ => .need fun _ => .need fun _ => .need fun _ => .ok (.reform (.quiet (s.applyAmend_alarms _ _ _ _ _)))
    case h_3 =>
      exact .need fun _ => .need fun _ => .need fun _ => .need fun _ => .need fun _ => .need fun _ => .need fun _ =>
        .ok (.reform (.quiet (by simp)))
    all_goals exact .error
  · exact .need fun _ => .named fun _ _ => .ok (.reform (.quiet (s.rewrite_alarms _ _)))
  · exact .error

theorem State.modesBy_approve (ticket teller : Nat) : s.ModesBy (execApprove ticket teller s) := by
  refine .request fun s => .need fun _ => .need fun _ => .named fun _ _ => .named fun _ _ => ?_
  split
  · exact .need fun _ => .need fun _ => .ok (.reform (.quiet (by simp)))
  · exact .error
  · exact .error

theorem State.modesBy_configure (items : List ConfigItem) : s.ModesBy (execConfigure items s) := by
  refine .request fun s => .need fun _ => ?_
  split
  · exact .error
  · exact .ok (s.modes_configured items).reform

theorem State.modesBy_positionRelease (position teller : Nat) : s.ModesBy (execPositionRelease position teller s) := by
  refine .request fun s => .need fun _ => .named fun p _ => .named fun who _ => .need fun _ => .need fun _ => .need fun _ => ?_
  unfold State.approveRelease
  split
  · exact .ok (.quiet rfl)
  · exact .ok (.reform (.quiet (s.releasePosition_alarms p)))
  · exact .error

/-! ### The events -/

theorem State.modesBy_badFrame (partByte : Bool) (bytes : List Byte) : s.ModesBy (execBadFrame partByte bytes s) := by
  unfold execBadFrame
  refine .ite ?_ .idle
  split
  · exact .request fun _ => .error
  · exact .idle

theorem State.modesBy_dualApprovalExpiry (target : DualTarget) : s.ModesBy (execDualApprovalExpiry target s) := by
  refine .next ?_
  split <;> exact .quiet rfl

theorem State.modesBy_ticketSelection : s.ModesBy (execTicketSelection s) := by
  unfold execTicketSelection
  split
  · exact .next (.reform (.quiet (s.select_alarms _)))
  · exact .idle

theorem State.modesBy_pickerResume : s.ModesBy (execPickerResume s) := by
  unfold execPickerResume
  split
  · exact .ite (.next (.reform (.quiet (s.workPick_alarms _)))) .idle
  · exact .idle

theorem State.modesBy_retractPromotion : s.ModesBy (execRetractPromotion s) := by
  unfold execRetractPromotion
  split
  · exact .ite (.next (.reform (.quiet (s.promote_alarms _)))) .idle
  · exact .idle

theorem State.modesBy_deliveryGrant : s.ModesBy (execDeliveryGrant s) := by
  unfold execDeliveryGrant
  split
  · exact .next (.reform (.quiet (s.claim_alarms _ _ _)))
  · exact .idle

theorem State.modesBy_deliveryArrival : s.ModesBy (execDeliveryArrival s) := by
  unfold execDeliveryArrival
  split
  · exact .next (.reform (.quiet (s.arrive_alarms _ _)))
  all_goals exact .idle

theorem State.modesBy_retractGrant : s.ModesBy (execRetractGrant s) := by
  unfold execRetractGrant
  split
  · exact .next (.quiet rfl)
  · exact .idle

theorem State.modesBy_retractCompletion (count : Nat) : s.ModesBy (execRetractCompletion count s) := by
  unfold execRetractCompletion
  split
  · exact .next (s.modes_endRetract _ _ _ _).reform
  all_goals exact .idle

theorem State.modesBy_cassetteRemoval (p : Pos) : s.ModesBy (execCassetteRemoval p s) :=
  .ite .idle (.ite (.next ((s.modes_remove p).upTo (State.handWriteBack_alarms _ _ _)).reform) (.next (s.modes_remove p).reform))

theorem State.modesBy_identityReadEnd (tries : List TagTry) : s.ModesBy (execIdentityReadEnd tries s) := by
  unfold execIdentityReadEnd
  split
  · exact .next (s.modes_endRead _ _).reform
  all_goals exact .idle

theorem State.modesBy_tagWriteEnd (tries : List TagTry) : s.ModesBy (execTagWriteEnd tries s) := by
  unfold execTagWriteEnd
  split
  · exact .idle
  · exact .idle
  · split
    · exact .next (.reform (.quiet (by simp)))
    · exact .idle
  · split
    · exact .next (.reform (.quiet (by simp)))
    · exact .idle

theorem State.modesBy_vaultPresenceChange (v : Vault) (present : Bool) : s.ModesBy (execVaultPresenceChange v present s) := by
  have set : (s.setPresent v present).alarms = s.alarms := by cases v <;> rfl
  exact .next ((State.modes_handVaults _).after set).reform

theorem State.modesBy_escrowEvent (code : Option Code) : s.ModesBy (execEscrowEvent code s) := by
  unfold execEscrowEvent
  split
  · exact .next (.quiet rfl)
  · exact .next (.reform (.quiet (by rw [State.decideNote_frame])))
  all_goals exact .idle

theorem State.modesBy_notePlaced : s.ModesBy (execNotePlaced s) := by
  have stray : s.strayPlaced.alarms = s.alarms := by simp [State.strayPlaced, apply_ite State.alarms]
  unfold execNotePlaced
  split
  · split
    · exact .next (s.modes_notePlaced _ _ _).reform
    · exact .idle
  case h_4 | h_5 => exact .idle
  all_goals exact .ite (.next (.reform (.quiet stray))) .idle

theorem State.modesBy_laneSlot (l : Lane) (heard : RingWord) (reply : Reply) : s.ModesBy (execLaneSlot l heard reply s) := by
  unfold execLaneSlot
  split
  · exact .next (.quiet rfl)
  · exact .ite (.next (.quiet rfl)) .idle

/-! ### Every command -/

/-- Every command but the two that leave LOCKDOWN keeps the wall modes (R153, R155). -/
theorem State.modesBy_exec (i : Instr) (s : State) (resume : i ≠ .resume) (reset : ∀ a b c d r k, i ≠ .fullReset a b c d r k) :
    s.ModesBy (exec i s) := by
  cases i with
  | fullReset => exact absurd rfl (reset _ _ _ _ _ _)
  | resume => exact absurd rfl resume
  | requestFrameBegin => exact .next (.quiet s.beginFrame_alarms)
  | frameWhileActing => exact .next (.quiet rfl)
  | badFrame => exact State.modesBy_badFrame _ _
  | responseRead => exact .ite .idle (.next (.quiet rfl))
  | alarmAck => exact .request fun s => .need fun _ => .named fun _ _ => .need fun _ => .ok (s.retabled_acknowledge _).modes.reform
  | alarmList => exact .request fun _ => .need fun _ => .ok .refl
  | amend => exact State.modesBy_amend _ _ _ _
  | approve => exact State.modesBy_approve _ _
  | balanceRead | configRead | identify => exact .request fun _ => .ok .refl
  | binEmptied =>
    exact .request fun _ => .named fun _ _ => .named fun _ _ => .need fun _ => State.modes_approveDual fun _ => .quiet rfl
  | binSet => exact .request fun _ => .named fun _ _ => .need fun _ => .need fun _ => .ok (.quiet rfl)
  | clearJam =>
    exact .request fun s => .need fun _ => .need fun _ => .named fun _ _ => .named fun _ _ => .named fun _ _ => .need fun _ =>
      .ok (.reform (.quiet (s.clearedJam_alarms _ _ _)))
  | configure => exact State.modesBy_configure _
  | countPoint => exact .request fun s => .need fun _ => .ok (.reform (.quiet (s.requestCount_alarms _ _)))
  | enterSetup =>
    exact .request fun _ => .need fun _ => .need fun _ => .need fun _ => .need fun _ => .need fun _ => .ok (.quiet rfl)
  | intakeBegin =>
    exact .request fun s => .need fun _ => .need fun _ => .named fun _ _ => .named fun _ _ => .need fun _ => .need fun _ =>
      .need fun _ => .ok (.reform (.quiet (s.beginIntake_alarms _)))
  | intakeFinish =>
    exact .request fun s => .need fun _ => .need fun _ => .named fun _ _ => .named fun _ _ => .need fun _ =>
      .ok (.reform (.quiet (s.finishIntake_alarms _)))
  | laneQuery => exact .request fun _ => .named fun _ _ => .ok .refl
  | laneRestart =>
    exact .request fun s => .named fun _ _ => .need fun _ =>
      .ok ((State.modes_hand _ _ _).after (s.changeLane_alarms _ _)).reform
  | list => exact .request fun _ => .need fun _ => .ok .refl
  | lookup => exact .request fun _ => .need fun _ => .named fun _ _ => .ok .refl
  | openDispense =>
    exact .request fun s => .need fun _ => .named fun _ _ => .named fun _ _ => .need fun _ => .named fun _ _ => .need fun _ =>
      .need fun _ => .need fun _ => .need fun _ => .ok (.reform (.quiet (s.openDispenseTicket_alarms _ _ _ _)))
  | openEnvelope | openIntake =>
    exact .request fun _ => .need fun _ => .named fun _ _ => .named fun _ _ => .need fun _ => .ok (.quiet rfl)
  | positionQuery => exact .request fun _ => .named fun _ _ => .ok .refl
  | positionReinstate => exact .request fun _ => .named fun _ _ => .need fun _ => .need fun _ => .ok (.quiet rfl)
  | positionRelease => exact State.modesBy_positionRelease _ _
  | readAttention => exact .request fun _ => .ok (.quiet rfl)
  | resolve =>
    exact .request fun _ => .need fun _ => .named fun _ _ => .need fun _ => .named fun _ _ => .named fun _ _ => .need fun _ =>
      .need fun _ => .need fun _ => State.modes_approveDual fun u => .reform (.quiet (u.resolve_alarms _ _ _ _))
  | settle =>
    exact .request fun s => .need fun _ => .need fun _ => .named fun _ _ => .need fun _ => .ok (.reform (.quiet (s.settle_alarms _)))
  | startWall => exact .request fun _ => .need fun _ => .need fun _ => .need fun _ => .ok (.quiet rfl)
  | vaultEmptied =>
    exact .request fun _ => .named fun _ _ => .named fun _ _ => .need fun _ => .need fun _ =>
      State.modes_approveDual fun u => u.modes_emptyVault _
  | void =>
    exact .request fun s => .need fun _ => .need fun _ => .named fun _ _ => .named fun _ hu =>
      .ok (.reform (.quiet (s.voidTicket_alarms hu)))
  | dualApprovalExpiry => exact State.modesBy_dualApprovalExpiry _
  | approvalWindowExpiry => exact .next (.reform (.quiet (s.claim_alarms _ _ _)))
  | takeTimerExpiry => exact .next (.reform (.quiet (s.takeExpired_alarms _)))
  | lostLaneTimerExpiry => exact .ite (.next (.reform (.quiet (s.lostExpired_alarms _)))) .idle
  | quiesceTimerExpiry => exact .ite (.next (.reform (.quiet (State.publish_alarms _ _)))) .idle
  | ticketSelection => exact State.modesBy_ticketSelection
  | pickerResume => exact State.modesBy_pickerResume
  | gaugeResult | pickMissTimeout => exact .next (s.modes_takeGauge _)
  | purgeBegin | sweepBegin => exact .ite (.next (.quiet rfl)) .idle
  | purgeCompletion => exact .ite (.next (s.modes_endPurge _).reform) .idle
  | retractPromotion => exact State.modesBy_retractPromotion
  | deliveryGrant => exact State.modesBy_deliveryGrant
  | deliveryArrival => exact State.modesBy_deliveryArrival
  | retractGrant => exact State.modesBy_retractGrant
  | retractCompletion => exact State.modesBy_retractCompletion _
  | sweepCompletion => exact .ite (.next (s.modes_endSweep _).reform) .idle
  | quietFound => exact .ite (.next (.reform (.quiet s.enterBalancing_alarms))) .idle
  | cassetteInsertion => exact .ite (.next (.reform (.quiet (by rw [State.insertCassette_frame]; rfl)))) .idle
  | cassetteRemoval => exact State.modesBy_cassetteRemoval _
  | identityReadEnd => exact State.modesBy_identityReadEnd _
  | tagWriteEnd => exact State.modesBy_tagWriteEnd _
  | vaultPresenceChange => exact State.modesBy_vaultPresenceChange _ _
  | escrowEvent => exact State.modesBy_escrowEvent _
  | notePlaced => exact State.modesBy_notePlaced
  | inputSample => exact .next (s.modes_sample _).reform
  | syncSlot => exact .next (.reform (State.modes_applyLaneCount _).after)
  | laneSlot => exact State.modesBy_laneSlot _ _ _
  | frameEnd => exact .next s.modes_endFrame.reform

/-! ### RESUME and a full reset -/

/-- A request keeps HOLD and DURESS formed when its effect, of the state its frame leaves, does. -/
theorem State.formed_answer {act : State → Except Status (State × List Byte)}
    (h : ∀ u : State, u.modesFormed → Grants State.modesFormed (act u)) (hs : s.modesFormed) : (s.answer act).modesFormed := by
  have framed : s.takeFrame.modesFormed := (State.KeepsModes.quiet s.takeFrame_alarms).formed hs
  rcases State.answer_cases (s := s) act with ⟨t, payload, ht, he⟩ | ⟨e, -, he⟩ <;> rw [he]
  · exact h _ framed t payload ht
  · exact framed

/-- RESUME leaves LOCKDOWN and no other mode, and changes no record (R155). -/
theorem State.formed_resume (h : exec .resume s = .next t) (hs : s.modesFormed) : t.modesFormed := by
  cases h
  exact State.formed_answer (fun u hu => .need fun _ => .need fun _ => .ok hu) hs

/-- After a full reset no record has HOLD or DURESS among its classes, and neither is set (R145, R158). -/
theorem State.formed_fullReset {prsA prsB prsC prsD rejectPresent intakePresent : Bool}
    (h : exec (.fullReset prsA prsB prsC prsD rejectPresent intakePresent) s = .next t) : t.modesFormed := by
  have alarms : (State.afterReset prsA prsB prsC prsD rejectPresent intakePresent).alarms
      = (State.seesVaults rejectPresent intakePresent).alarms := by
    rw [State.afterReset_eq, State.reform_alarms, State.seePositions_frame]
  have seen : (State.seesVaults rejectPresent intakePresent).modesFormed :=
    ((State.modes_handVaults _).formed ⟨rfl, rfl⟩)
  cases h
  exact (State.KeepsModes.quiet alarms).formed seen

/-! ### Every step -/

theorem State.formed_exec {i : Instr} (h : exec i s = .next t) (hs : s.modesFormed) : t.modesFormed := by
  by_cases resume : i = .resume
  · exact State.formed_resume (resume ▸ h) hs
  · by_cases reset : ∃ a b c d r k, i = .fullReset a b c d r k
    · obtain ⟨a, b, c, d, r, k, rfl⟩ := reset
      exact State.formed_fullReset h
    · have other : ∀ a b c d r k, i ≠ .fullReset a b c d r k := fun a b c d r k hi => reset ⟨a, b, c, d, r, k, hi⟩
      exact (State.modesBy_exec i s resume other t h).formed hs

theorem State.formed_step (h : step s = .next t) (hs : s.modesFormed) : t.modesFormed := by
  unfold step at h
  split at h
  next rest _ => exact State.formed_exec (s := { s with pending := rest }) h hs
  next =>
    cases h
    exact hs

/-- Settles O59. -/
theorem stepKeepsTheWallModes : Obligations.StepKeepsTheWallModes :=
  ⟨fun _ _ hs h => State.formed_step h hs,
    fun i s t hl h resume reset => (State.modesBy_exec i s resume reset t h).locked hl⟩

end Sys2Proof.Machine
end

section
/-! PROOFS. ALARM ACK (R149) and RESUME (R155) by their checks, and the judged levels of the inputs (R141). -/

namespace Sys2Proof.Machine

variable {s : State} {r : AlarmRecord}

/-! ### ALARM ACK (R149) -/

theorem State.exec_alarmAck (h : s.frameBegun) (n : Nat) :
    exec (.alarmAck n) s =
      if 22 < n then s.refusedWith .range
      else (s.alarmRecord n).elim (s.refusedWith .notFound) fun r =>
        if r.state = .acked then s.refusedWith .badState else (s.acknowledge r).reform.answeredOk [] := by
  refine (State.answer_respond h _).trans ?_
  rw [State.respond_need]
  simp only [State.respond_named, State.respond_need, State.respond_ok, decide_eq_true_eq, ne_eq, ite_not, ← Nat.not_lt]

/-- An acknowledgement that changes what R151 names of the records leaves the table with the records given, LOCKDOWN as it was,
and ALARM placed. -/
theorem State.setRecords_acknowledges {records : List AlarmRecord}
    (h : records.map AlarmRecord.attended ≠ s.alarms.records.map AlarmRecord.attended) :
    ∃ u, (s.setRecords records false).reform.answeredOk [] = .next u ∧ u.port.held = some ⟨.ok, []⟩ ∧ u.alarms.records = records
      ∧ u.alarms.lockdown = s.alarms.lockdown ∧ u.reasons.alarm = true := by
  have alarms := s.setRecords_alarms records false
  exact ⟨_, rfl, rfl, congrArg Alarms.records alarms, (congrArg Alarms.lockdown alarms).trans (Bool.or_false _),
    State.setRecords_places h false⟩

/-- A RAISED record that becomes ACKED is another to R151. -/
theorem State.acked_attended (h : s.alarmRecord r.key = some r) (hr : r.state = .raised) (classes : ClassSet) :
    (putByKey AlarmRecord.key { r with state := .acked, classes := classes } s.alarms.records).map AlarmRecord.attended
      ≠ s.alarms.records.map AlarmRecord.attended := by
  refine attended_putByKey_ne fun x found e => ?_
  obtain rfl : r = x := Option.some.inj (h.symm.trans found)
  have acked : r.state = .acked := congrArg (fun y => y.2.1) e
  cases hr.symm.trans acked

/-- A record that is retired leaves the table with one record less. -/
theorem State.retired_attended (h : s.alarmRecord r.key = some r) :
    (dropKey AlarmRecord.key r.key s.alarms.records).map AlarmRecord.attended ≠ s.alarms.records.map AlarmRecord.attended := by
  have fewer : (dropKey AlarmRecord.key r.key s.alarms.records).length < s.alarms.records.length :=
    List.length_filter_lt_length_iff_exists.2 ⟨r, (findByKey_some h).1, by simp⟩
  intro e
  have same := congrArg List.length e
  rw [List.length_map, List.length_map] at same
  omega

/-! ### RESUME (R155) -/

theorem State.exec_resume (h : s.frameBegun) :
    exec .resume s =
      if ¬ s.alarms.lockdown then s.refusedWith .badState
      else if s.alarms.records.any (fun r => r.classes.lockdown) then s.refusedWith .locked
      else s.leaveLockdown.reform.answeredOk [] := by
  refine (State.answer_respond h _).trans ?_
  rw [State.respond_need, State.respond_need, State.respond_ok]
  cases s.alarms.lockdown <;> cases s.alarms.records.any (fun r => r.classes.lockdown) <;> rfl

/-- Settles O47. -/
theorem alarmAckAndResume : Obligations.AlarmAckAndResume := by
  refine ⟨fun n s hs => ?_, fun s hs => State.exec_resume hs⟩
  rw [State.exec_alarmAck hs]
  refine ⟨fun hn => if_pos hn, fun hn none => ?_, fun r hn found => ?_⟩
  · rw [if_neg hn.not_gt, none]
    rfl
  · obtain rfl : r.key = n := (findByKey_some found).2
    rw [if_neg hn.not_gt, found]
    refine ⟨fun acked => if_pos acked, fun raised => ?_, fun standing => ?_⟩
    · have taken : s.acknowledge r = s.setRecords
          (putByKey AlarmRecord.key { r with state := .acked, classes := ClassSet.empty.add r.current } s.alarms.records) false := by
        unfold State.acknowledge
        rw [raised]
      have live : r.state ≠ .acked := by rw [raised]; decide
      rw [Option.elim_some, if_neg live, taken]
      exact State.setRecords_acknowledges (State.acked_attended found raised _)
    · have taken : s.acknowledge r = s.setRecords (dropKey AlarmRecord.key r.key s.alarms.records) false := by
        unfold State.acknowledge
        rw [standing]
      have live : r.state ≠ .acked := by rw [standing]; decide
      rw [Option.elim_some, if_neg live, taken]
      exact State.setRecords_acknowledges (State.retired_attended found)

/-! ### The judged levels (R141) -/

/-- A change of the pattern leaves the samples. -/
theorem State.reclassInputs_samples (s : State) (pattern : BitVec 6) :
    (s.reclassInputs pattern).alarms.samples = s.alarms.samples := by
  rw [State.reclassInputs_eq]
  exact (congrArg Alarms.samples (State.alarms_marked _ _)).trans (State.retabled_followLocal _ _ _ _).samples

/-- A sample taken with two held before it (R141). -/
theorem State.sample_of_two {x y z : BitVec 6} {rest : List (BitVec 6)} (h : s.alarms.samples = y :: z :: rest) :
    s.sample x =
      let t : State := { s with alarms := { s.alarms with samples := [x, y, z] } }
      if majorityOf x y z = s.alarms.pattern then t else t.reclassInputs (majorityOf x y z) := by
  unfold State.sample
  rw [h]
  rfl

theorem majorityOf_getLsbD (x y z : BitVec 6) (i : Nat) :
    (majorityOf x y z).getLsbD i =
      (x.getLsbD i && y.getLsbD i || x.getLsbD i && z.getLsbD i || y.getLsbD i && z.getLsbD i) := by
  simp only [majorityOf, BitVec.getLsbD_or, BitVec.getLsbD_and]

/-- Settles O49. -/
theorem inputsAreJudgedByMajority : Obligations.InputsAreJudgedByMajority := by
  intro x y z rest s hs
  have taken := State.sample_of_two (x := x) hs
  refine ⟨(s.sample x).reform, rfl, ?_⟩
  rw [taken]
  dsimp only
  by_cases same : majorityOf x y z = s.alarms.pattern
  · rw [if_pos same]
    refine ⟨rfl, fun i => ?_, fun _ => rfl⟩
    rw [← majorityOf_getLsbD, same]
    rfl
  · rw [if_neg same]
    let t : State := { s with alarms := { s.alarms with samples := [x, y, z] } }
    have judged : (t.reclassInputs (majorityOf x y z)).alarms.pattern = majorityOf x y z := (t.reclassInputs_follows _).1
    refine ⟨t.reclassInputs_samples _, fun i => ?_, fun kept => absurd (judged.symm.trans kept) same⟩
    rw [← majorityOf_getLsbD]
    exact congrArg (·.getLsbD i) judged

end Sys2Proof.Machine
end

section
/-! PROOFS. The request frames (R174, R186, R187, R190): numbers, segments and CONFIGURE items are read back from the bytes that
carry them, and so is every request whose arguments fit its frame. -/

namespace Sys2Proof

variable {k n fuel : Nat}

/-! ### Numbers (R186) -/

theorem fits_iff : fits k n = true ↔ n < 256 ^ k := decide_eq_true_iff

@[simp] theorem length_beBytes (k n : Nat) : (beBytes k n).length = k := by
  induction k generalizing n with
  | zero => rfl
  | succ k ih => simp [beBytes, ih]

/-- The last byte of a number is its lowest. -/
theorem beNat_append_byte (bytes : List Byte) (b : Byte) : beNat (bytes ++ [b]) = 256 * beNat bytes + b.toNat := by
  simp [beNat]

/-- A number that fits its bytes is read back from them. -/
theorem beNat_beBytes (h : fits k n = true) : beNat (beBytes k n) = n := by
  induction k generalizing n with
  | zero => simpa [fits, beBytes, beNat, eq_comm] using h
  | succ k ih =>
    have below : n < 256 ^ k * 256 := by rw [← pow_succ]; exact fits_iff.1 h
    have high : fits k (n / 256) = true := fits_iff.2 (Nat.div_lt_of_lt_mul (by omega))
    rw [beBytes, beNat_append_byte, ih high, BitVec.toNat_ofNat]
    omega

/-- A number that fits a byte is read back from it. -/
theorem toNat_byte (h : fits 1 n = true) : (BitVec.ofNat 8 n).toNat = n := by
  have below := fits_iff.1 h
  rw [BitVec.toNat_ofNat]
  omega

/-- A number that fits two bytes is read back from them. -/
theorem beNat_two (h : fits 2 n = true) : beNat [BitVec.ofNat 8 (n / 256), BitVec.ofNat 8 n] = n := beNat_beBytes h

/-- A number that fits three bytes is read back from them. -/
theorem beNat_three (h : fits 3 n = true) :
    beNat [BitVec.ofNat 8 (n / 256 / 256), BitVec.ofNat 8 (n / 256), BitVec.ofNat 8 n] = n := beNat_beBytes h

/-! ### Runs of numbers and of segments (R187, R190) -/

theorem length_flatMap_beBytes (k : Nat) (values : List Nat) : (values.flatMap (beBytes k)).length = k * values.length := by
  induction values with
  | nil => rfl
  | cons v values ih => simp only [List.flatMap_cons, List.length_append, length_beBytes, ih, List.length_cons]; ring

/-- Values of two bytes each are read back. -/
theorem readPairs_flatMap {values : List Nat} (h : values.all (fits 2) = true) :
    readPairs (values.flatMap (beBytes 2)) = values := by
  induction values with
  | nil => rfl
  | cons v values ih =>
    obtain ⟨hv, hs⟩ := Bool.and_eq_true_iff.1 h
    have read (rest : List Byte) : readPairs (beBytes 2 v ++ rest) = beNat (beBytes 2 v) :: readPairs rest := by
      simp [beBytes, readPairs, beNat]
    rw [List.flatMap_cons, read, beNat_beBytes hv, ih hs]

/-- Values of one byte each are read back. -/
theorem map_toNat_flatMap {values : List Nat} (h : values.all (fits 1) = true) :
    (values.flatMap (beBytes 1)).map BitVec.toNat = values := by
  induction values with
  | nil => rfl
  | cons v values ih =>
    obtain ⟨hv, hs⟩ := Bool.and_eq_true_iff.1 h
    change (BitVec.ofNat 8 v).toNat :: (values.flatMap (beBytes 1)).map BitVec.toNat = _
    rw [toNat_byte hv, ih hs]

theorem segmentBytes_cons (g : SegmentArg) (segs : List SegmentArg) :
    segmentBytes (g :: segs) = BitVec.ofNat 8 g.position :: BitVec.ofNat 8 g.notes :: segmentBytes segs := rfl

theorem length_segmentBytes (segs : List SegmentArg) : (segmentBytes segs).length = 2 * segs.length := by
  induction segs with
  | nil => rfl
  | cons g segs ih =>
    simp only [segmentBytes_cons, List.length_cons, ih]
    omega

/-- Segments whose fields fit are read back. -/
theorem readSegments_segmentBytes {segs : List SegmentArg} (h : segmentsFit segs = true) :
    readSegments (segmentBytes segs) = segs := by
  induction segs with
  | nil => rfl
  | cons g segs ih =>
    obtain ⟨hg, hs⟩ := Bool.and_eq_true_iff.1 h
    obtain ⟨position, notes⟩ := Bool.and_eq_true_iff.1 hg
    rw [segmentBytes_cons, readSegments, toNat_byte position, toNat_byte notes, ih hs]

/-- Segments with their count in a byte before them are read back (R187). -/
theorem read_counted_segments {α : Type} {segs : List SegmentArg} (f : List SegmentArg → α) (few : segs.length < 256)
    (fit : segmentsFit segs = true) :
    (if (segmentBytes segs).length = 2 * (BitVec.ofNat 8 segs.length).toNat then some (f (readSegments (segmentBytes segs)))
     else none) = some (f segs) := by
  have count : (BitVec.ofNat 8 segs.length).toNat = segs.length := toNat_byte (fits_iff.2 few)
  rw [count, if_pos (length_segmentBytes segs), readSegments_segmentBytes fit]

/-! ### The items of CONFIGURE (R190) -/

/-- The number of the parameter that an item names (R190). -/
def ConfigItem.number : ConfigItem → Nat
  | .laneCount _ => 0x01
  | .denominations .. => 0x02
  | .classTable .. => 0x03
  | .sourceClasses .. => 0x04
  | .dualLimit _ => 0x05
  | .approvalWindow _ => 0x06
  | .takeTimeout _ => 0x07
  | .lostLaneLimit _ => 0x08
  | .quiesceTimeout _ => 0x09
  | .periodicCount _ => 0x0A
  | .busyLevel _ => 0x0B
  | .maxRejects _ => 0x0C
  | .suspendThreshold _ => 0x0D
  | .lowLevel .. => 0x0E
  | .recycling _ => 0x0F
  | .autoEnvelope _ => 0x10
  | .unnamed n => n

/-- An item's bytes begin with the number of its parameter. -/
theorem itemBytes_eq_cons (x : ConfigItem) : itemBytes x = BitVec.ofNat 8 x.number :: (itemBytes x).tail := by
  cases x <;> rfl

/-- The number of an item that names a parameter is one of 01h to 10h. -/
theorem ConfigItem.number_named {x : ConfigItem} (h : x.isUnnamed = false) : 1 ≤ x.number ∧ x.number ≤ 0x10 := by
  cases x with
  | unnamed => cases h
  | _ => simp [ConfigItem.number]

/-- An item that names a parameter is read back, with what follows it. -/
theorem readItem_itemBytes {x : ConfigItem} (hw : x.wellFormed = true) (hn : x.isUnnamed = false) (after : List Byte) :
    readItem x.number ((itemBytes x).tail ++ after) = some (x, after) := by
  cases x with
  | unnamed => cases hn
  | laneCount n | takeTimeout n | quiesceTimeout n | periodicCount n | busyLevel n | maxRejects n | suspendThreshold n
  | recycling n | autoEnvelope n =>
    change some (_, after) = _
    rw [toNat_byte hw]
  | dualLimit n =>
    change some (_, after) = _
    rw [beNat_three hw]
  | approvalWindow n | lostLaneLimit n =>
    change some (_, after) = _
    rw [beNat_two hw]
  | lowLevel p n =>
    obtain ⟨position, level⟩ := Bool.and_eq_true_iff.1 hw
    change some (_, after) = _
    rw [toNat_byte position, beNat_two level]
  | denominations first values =>
    simp only [ConfigItem.wellFormed, Bool.and_eq_true] at hw
    obtain ⟨⟨start, run⟩, each⟩ := hw
    have width := length_flatMap_beBytes 2 values
    change readItem _ (BitVec.ofNat 8 first :: BitVec.ofNat 8 values.length :: (values.flatMap (beBytes 2) ++ after)) = _
    simp only [ConfigItem.number, readItem, toNat_byte start, toNat_byte run, List.length_append, width, Nat.le_add_right,
      if_true, List.take_left' width, List.drop_left' width, readPairs_flatMap each]
  | classTable first classes | sourceClasses first classes =>
    simp only [ConfigItem.wellFormed, Bool.and_eq_true] at hw
    obtain ⟨⟨start, run⟩, each⟩ := hw
    have width : (classes.flatMap (beBytes 1)).length = classes.length := by rw [length_flatMap_beBytes, one_mul]
    change readItem _ (BitVec.ofNat 8 first :: BitVec.ofNat 8 classes.length :: (classes.flatMap (beBytes 1) ++ after)) = _
    simp only [ConfigItem.number, readItem, toNat_byte start, toNat_byte run, List.length_append, width, Nat.le_add_right,
      if_true, List.take_left' width, List.drop_left' width, map_toNat_flatMap each]

/-- An item that names a parameter is read first, and then what follows it. -/
theorem readItems_itemBytes {x : ConfigItem} (hw : x.wellFormed = true) (hn : x.isUnnamed = false) (after : List Byte) :
    readItems (fuel + 1) (itemBytes x ++ after) = (readItems fuel after).map (x :: ·) := by
  obtain ⟨low, high⟩ := ConfigItem.number_named hn
  have number : (BitVec.ofNat 8 x.number).toNat = x.number := toNat_byte (fits_iff.2 (by omega))
  rw [itemBytes_eq_cons, List.cons_append, readItems, number, if_neg (by omega), readItem_itemBytes hw hn]

/-- An item that names no parameter ends the list (R181). -/
theorem readItems_unnamed (h : (ConfigItem.unnamed n).wellFormed = true) :
    readItems (fuel + 1) (itemBytes (.unnamed n)) = some [.unnamed n] := by
  obtain ⟨byte, number⟩ := Bool.and_eq_true_iff.1 h
  change (if (BitVec.ofNat 8 n).toNat = 0 ∨ 0x10 < (BitVec.ofNat 8 n).toNat then
    some [ConfigItem.unnamed (BitVec.ofNat 8 n).toNat] else _) = _
  rw [toNat_byte byte, if_pos (of_decide_eq_true number)]

/-- The items of a CONFIGURE payload are read back. -/
theorem readItems_flatMap {items : List ConfigItem} (h : itemsWellFormed items = true)
    (hf : (items.flatMap itemBytes).length ≤ fuel) : readItems fuel (items.flatMap itemBytes) = some items := by
  induction items generalizing fuel with
  | nil => cases fuel <;> rfl
  | cons x rest ih =>
    rw [List.flatMap_cons] at hf ⊢
    have room : (rest.flatMap itemBytes).length + 1 ≤ fuel := by
      rw [List.length_append, itemBytes_eq_cons, List.length_cons] at hf
      omega
    obtain ⟨fuel, rfl⟩ := Nat.exists_eq_add_of_le' (Nat.le_of_add_left_le room)
    have named (hw : x.wellFormed = true) (hn : x.isUnnamed = false) (hr : itemsWellFormed rest = true) :
        readItems (fuel + 1) (itemBytes x ++ rest.flatMap itemBytes) = some (x :: rest) := by
      rw [readItems_itemBytes hw hn, ih hr (by omega)]
      rfl
    cases rest with
    | nil =>
      cases x with
      | unnamed n => exact (congrArg _ (List.append_nil _)).trans (readItems_unnamed h)
      | _ => exact named h rfl rfl
    | cons y ys =>
      simp only [itemsWellFormed, Bool.and_eq_true, Bool.not_eq_true'] at h
      obtain ⟨⟨hw, hn⟩, hr⟩ := h
      exact named hw hn hr

/-! ### Requests (R174, R187) -/

/-- A request's code is one of 01h to 20h, and the payload of one that can be sent has at most 60 bytes (R186). -/
theorem requestBytes_bounds {i : Instr} {code : Nat} {payload : List Byte} (hw : i.wellFormed = true)
    (h : requestBytes i = some (code, payload)) : 1 ≤ code ∧ code ≤ 0x20 ∧ payload.length ≤ 60 := by
  cases i with
  | amend n t a segs | openDispense t l a segs =>
    cases h
    simp only [Instr.wellFormed, Bool.and_eq_true, decide_eq_true_eq] at hw
    obtain ⟨⟨-, few⟩, -⟩ := hw
    simp only [List.length_append, length_beBytes, length_segmentBytes]
    omega
  | configure items =>
    cases h
    exact ⟨by decide, by decide, of_decide_eq_true (Bool.and_eq_true_iff.1 hw).2⟩
  | _ => cases h <;> simp

/-- A CONFIGURE payload is read back: it is not empty, and it is read item by item. -/
theorem readRequest_configure {items : List ConfigItem} (hi : (!items.isEmpty) = true) (h : itemsWellFormed items = true) :
    readRequest 0x0A (items.flatMap itemBytes) = some (.configure items) := by
  obtain ⟨p, bytes, payload⟩ : ∃ p bytes, items.flatMap itemBytes = p :: bytes := by
    cases items with
    | nil => cases hi
    | cons x rest => exact ⟨_, _, by rw [List.flatMap_cons, itemBytes_eq_cons, List.cons_append]⟩
  have read : readItems (bytes.length + 1) (p :: bytes) = some items := by
    rw [← payload]
    exact readItems_flatMap h (by rw [payload, List.length_cons])
  rw [payload]
  exact congrArg (Option.map Instr.configure) read

/-- The payload of a request that can be sent is read back as that request. -/
theorem readRequest_requestBytes {i : Instr} {code : Nat} {payload : List Byte} (hw : i.wellFormed = true)
    (h : requestBytes i = some (code, payload)) : readRequest code payload = some i := by
  cases i with
  | balanceRead | configRead | countPoint | enterSetup | identify | readAttention | resume | startWall => cases h; rfl
  | alarmAck x | alarmList x | laneQuery x | laneRestart x | positionQuery x | positionReinstate x =>
    cases h
    change some _ = _
    rw [toNat_byte hw]
  | binEmptied | binSet | openEnvelope | openIntake | positionRelease | vaultEmptied =>
    cases h
    obtain ⟨first, second⟩ := Bool.and_eq_true_iff.1 hw
    change some _ = _
    rw [toNat_byte first, toNat_byte second]
  | intakeBegin n | intakeFinish n | list n | lookup n | settle n | void n =>
    cases h
    change some _ = _
    rw [beNat_two hw]
  | approve | clearJam =>
    cases h
    obtain ⟨ticket, last⟩ := Bool.and_eq_true_iff.1 hw
    change some _ = _
    rw [beNat_two ticket, toNat_byte last]
  | resolve =>
    cases h
    simp only [Instr.wellFormed, Bool.and_eq_true] at hw
    obtain ⟨⟨ticket, delivered⟩, teller⟩ := hw
    change some _ = _
    rw [beNat_two ticket, toNat_byte delivered, toNat_byte teller]
  | amend n t a segs =>
    cases h
    simp only [Instr.wellFormed, Bool.and_eq_true, decide_eq_true_eq] at hw
    obtain ⟨⟨⟨⟨ticket, teller⟩, amount⟩, few⟩, fit⟩ := hw
    refine (read_counted_segments (Instr.amend _ _ _) (by omega) fit).trans ?_
    rw [beNat_two ticket, toNat_byte teller, beNat_three amount]
  | openDispense t l a segs =>
    cases h
    simp only [Instr.wellFormed, Bool.and_eq_true, decide_eq_true_eq] at hw
    obtain ⟨⟨⟨⟨teller, lane⟩, amount⟩, few⟩, fit⟩ := hw
    refine (read_counted_segments (Instr.openDispense _ _ _) (by omega) fit).trans ?_
    rw [toNat_byte teller, toNat_byte lane, beNat_three amount]
  | configure items =>
    cases h
    simp only [Instr.wellFormed, Bool.and_eq_true] at hw
    obtain ⟨⟨nonempty, fit⟩, -⟩ := hw
    exact readRequest_configure nonempty fit
  | _ => cases h

/-! ### Judging a frame (R174) -/

/-- A frame that is malformed fails step 1 of R174. -/
theorem judgeFrame_malformed {partByte : Bool} {bytes : List Byte} (h : frameSound partByte bytes = false) :
    judgeFrame partByte bytes = .badFrame := by
  unfold judgeFrame
  rw [if_neg (Bool.eq_false_iff.1 h)]

section Sound
variable {partByte : Bool} {first : Byte} {bytes : List Byte}

/-- A sound frame whose code is not assigned fails step 2 of R174. -/
theorem judgeFrame_unassigned (h : frameSound partByte (first :: bytes) = true) (hc : 0x20 < first.toNat) :
    judgeFrame partByte (first :: bytes) = .unknownRequest := by
  unfold judgeFrame
  rw [if_pos h]
  exact if_pos (.inr hc)

/-- A sound frame with an assigned code is judged by the shape of its payload, step 3 of R174. -/
theorem judgeFrame_assigned (h : frameSound partByte (first :: bytes) = true) (hf : first ≠ 0) (hc : first.toNat ≤ 0x20) :
    judgeFrame partByte (first :: bytes) =
      (readRequest first.toNat ((bytes.drop 1).take (bytes.length - 3))).elim .badShape .request := by
  have assigned : ¬ (first.toNat = 0 ∨ 0x20 < first.toNat) := by
    rintro (zero | above)
    · exact hf (BitVec.eq_of_toNat_eq zero)
    · omega
  have payload : ((first :: bytes).drop 2).take ((first :: bytes).length - 4)
      = (bytes.drop 1).take (bytes.length - 3) := rfl
  unfold judgeFrame
  rw [if_pos h, payload, List.getD_cons_zero]
  refine (if_neg assigned).trans ?_
  cases readRequest first.toNat ((bytes.drop 1).take (bytes.length - 3)) <;> rfl

end Sound

/-! ### Frames of requests (R174, R186) -/

/-- The frame that carries a code and a payload (R186). -/
def frameOf (code : Nat) (payload : List Byte) : List Byte :=
  withCrc (beBytes 1 code ++ beBytes 1 payload.length ++ payload)

/-- A request's frame is that of its code and payload. -/
theorem requestFrame_eq_some {i : Instr} {bytes : List Byte} :
    requestFrame i = some bytes ↔ ∃ code payload, requestBytes i = some (code, payload) ∧ frameOf code payload = bytes := by
  simp [requestFrame, frameOf]

section Frames
variable {code : Nat} {payload : List Byte}

/-- A frame's length and payload stand between its code and its CRC (R186). -/
theorem frameOf_eq_cons : ∃ crc : List Byte, crc.length = 2 ∧
    frameOf code payload = BitVec.ofNat 8 code :: BitVec.ofNat 8 payload.length :: (payload ++ crc) :=
  ⟨_, length_beBytes 2 _, rfl⟩

theorem length_frameOf : (frameOf code payload).length = payload.length + 4 := by
  obtain ⟨crc, width, frame⟩ := frameOf_eq_cons (code := code) (payload := payload)
  rw [frame, List.length_cons, List.length_cons, List.length_append, width]

/-- Bytes with their CRC after them are those before it with theirs (R186). -/
theorem withCrc_take (bytes : List Byte) : withCrc ((withCrc bytes).take ((withCrc bytes).length - 2)) = withCrc bytes := by
  simp [withCrc]

/-- A frame whose payload has at most 60 bytes passes step 1 of R174. -/
theorem frameSound_frameOf (h : payload.length ≤ 60) : frameSound false (frameOf code payload) = true := by
  have lengthByte : ((frameOf code payload).getD 1 0).toNat = payload.length := toNat_byte (fits_iff.2 (by omega))
  have crc : withCrc ((frameOf code payload).take ((frameOf code payload).length - 2)) = frameOf code payload :=
    withCrc_take _
  unfold frameSound
  rw [crc, lengthByte, length_frameOf]
  simp [h]

/-- A frame with an assigned code is judged by the shape of its payload. -/
theorem judgeFrame_frameOf (hc : 1 ≤ code ∧ code ≤ 0x20) (h : payload.length ≤ 60) :
    judgeFrame false (frameOf code payload) = (readRequest code payload).elim .badShape .request := by
  obtain ⟨low, high⟩ := hc
  have codeByte : (BitVec.ofNat 8 code).toNat = code := toNat_byte (fits_iff.2 (by omega))
  have nonzero : BitVec.ofNat 8 code ≠ 0 := fun zero => by
    rw [zero] at codeByte
    exact absurd codeByte (Nat.ne_of_lt low)
  have sound := frameSound_frameOf (code := code) h
  obtain ⟨crc, width, frame⟩ := frameOf_eq_cons (code := code) (payload := payload)
  rw [frame] at sound ⊢
  have inner : (payload ++ crc).take ((payload ++ crc).length - 2) = payload := by
    rw [List.length_append, width, Nat.add_sub_cancel, List.take_left]
  rw [judgeFrame_assigned sound nonzero (codeByte.trans_le high), codeByte]
  exact congrArg (fun bytes => (readRequest code bytes).elim FrameVerdict.badShape .request) inner

end Frames

/-- Settles O7. -/
theorem requestFrameReadsBack : Obligations.RequestFrameReadsBack := by
  intro i bytes sendable framed
  obtain ⟨code, payload, carried, rfl⟩ := requestFrame_eq_some.1 framed
  obtain ⟨low, high, short⟩ := requestBytes_bounds sendable carried
  rw [judgeFrame_frameOf ⟨low, high⟩ short, readRequest_requestBytes sendable carried]
  rfl

end Sys2Proof
end

section
/-! PROOFS. The Request Port (R173 to R176, R179): the numbers that a discarded read-out puts back, a frame that begins, a frame
that is refused, and the response of a request. -/

namespace Sys2Proof.Machine

variable {s : State}

/-! ### A frame begins (R173, R175) -/

/-- Adding a number takes none out. -/
theorem mem_addNumber_of_mem {m n : Nat} {xs : List Nat} (h : n ∈ xs) : n ∈ addNumber m xs := by
  induction xs with
  | nil => cases h
  | cons x xs ih =>
    unfold addNumber putByKey
    split
    case isTrue => exact List.mem_cons_of_mem m h
    case isFalse =>
      split
      case isTrue same => exact (show m = x from same) ▸ h
      case isFalse =>
        obtain here | later := List.mem_cons.1 h
        · exact here ▸ List.mem_cons_self ..
        · exact List.mem_cons_of_mem x (ih later)

theorem mem_addNumber {m n : Nat} {xs : List Nat} : n ∈ addNumber m xs ↔ n = m ∨ n ∈ xs :=
  ⟨mem_putByKey, fun h => h.elim (· ▸ mem_addNumber_self m xs) mem_addNumber_of_mem⟩

/-- Numbers added one after the other. -/
theorem mem_foldl_addNumber {n : Nat} {added xs : List Nat} :
    n ∈ added.foldl (fun set m => addNumber m set) xs ↔ n ∈ xs ∨ n ∈ added := by
  induction added generalizing xs with
  | nil => simp
  | cons m added ih => rw [List.foldl_cons, ih, mem_addNumber, List.mem_cons]; tauto

/-- The change set after a read-out is put back (R175). -/
theorem State.mem_putBackNumbers {numbers : List Nat} {n : Nat} :
    n ∈ (s.putBackNumbers numbers).changeSet ↔ n ∈ s.changeSet ∨ n ∈ numbers ∧ (s.ticket n).isSome :=
  mem_foldl_addNumber.trans (or_congr_right List.mem_filter)

/-- A held response that has been read is released (R175). -/
theorem State.giveUpResponse_read (h : s.port.read = true) :
    s.giveUpResponse =
      { s with port := { s.port with held := none, read := false, readOutReasons := .empty, readOutNumbers := [] } } := by
  unfold State.giveUpResponse
  rw [if_pos h]

/-- A held response that has not been read is discarded with its read-out put back, and PORT is placed (R175). -/
theorem State.giveUpResponse_unread (h : s.port.read = false) :
    s.giveUpResponse =
      { s with reasons := (s.reasons.union s.port.readOutReasons).add .port,
               changeSet := (s.putBackNumbers s.port.readOutNumbers).changeSet,
               port := { s.port with held := none, read := false, readOutReasons := .empty, readOutNumbers := [] } } := by
  unfold State.giveUpResponse
  rw [if_neg (by simp [h])]
  rfl

theorem Port.outgoing_eq (k : Port) : k.outgoing = (k.held.map Response.frame).getD [] := by
  unfold Port.outgoing
  cases k.held <;> rfl

theorem State.beginFrame_idle (h : s.port.state = .idle) :
    s.beginFrame = { s with port := { s.port with state := .receiving } } := by
  unfold State.beginFrame
  rw [h]

/-- A frame that begins in ACTING is ignored, with PORT placed (R173). -/
theorem State.beginFrame_acting (h : s.port.state = .acting) : s.beginFrame = s.place .port := by
  unfold State.beginFrame
  rw [h]

/-- A frame that begins in READY takes up the state that the held response leaves (R173, R175). -/
theorem State.beginFrame_ready (h : s.port.state = .ready) :
    s.beginFrame =
      { s.giveUpResponse with
        port := { s.giveUpResponse.port with state := .receiving, sdout := (s.port.held.map Response.frame).getD [] } } := by
  unfold State.beginFrame
  rw [h, ← Port.outgoing_eq]

/-- Settles O3. -/
theorem frameBeginsByPortState : Obligations.FrameBeginsByPortState := by
  refine ⟨fun s => ⟨fun idle => congrArg Host.Outcome.next (State.beginFrame_idle idle),
    fun acting => congrArg Host.Outcome.next (State.beginFrame_acting acting), fun ready => ⟨s.beginFrame, rfl, ?_⟩⟩,
    fun s => rfl⟩
  rw [State.beginFrame_ready ready]
  cases read : s.port.read with
  | true =>
    rw [State.giveUpResponse_read read]
    exact ⟨rfl, rfl, fun n => by simp, rfl⟩
  | false =>
    rw [State.giveUpResponse_unread read]
    exact ⟨rfl, rfl, fun n => by simp [State.mem_putBackNumbers], rfl⟩

/-! ### Requests, refused and answered (R174, R176) -/

/-- Every request answers through its own checks and effect (R174 step 4). -/
theorem exec_of_isRequest {i : Instr} (h : isRequest i = true) (s : State) :
    ∃ act, exec i s = .next (s.answer act) := by
  cases i with
  | alarmAck | alarmList | amend | approve | balanceRead | binEmptied | binSet | clearJam | configRead | configure | countPoint
  | enterSetup | identify | intakeBegin | intakeFinish | laneQuery | laneRestart | list | lookup | openDispense
  | openEnvelope | openIntake | positionQuery | positionReinstate | positionRelease | readAttention | resolve | resume
  | settle | startWall | vaultEmptied | void => exact ⟨_, rfl⟩
  | _ => cases h

/-- Settles O4. -/
theorem refusedRequestChangesNothing : Obligations.RefusedRequestChangesNothing := by
  intro i s request begun
  obtain ⟨act, taken⟩ := exec_of_isRequest request s
  rw [taken]
  obtain ⟨t, payload, -, answered⟩ | ⟨e, -, answered⟩ := s.answer_cases act
  · exact ⟨_, ⟨.ok, payload⟩, rfl, by rw [answered]; exact ⟨rfl, rfl, rfl, fun refused => absurd rfl refused⟩⟩
  · rw [State.takeFrame_of_begun begun] at answered
    exact ⟨_, ⟨e, []⟩, rfl, by rw [answered]; exact ⟨rfl, rfl, rfl, fun _ => ⟨rfl, rfl⟩⟩⟩

/-- Settles O8: the request checks nothing, so that it responds with its effect. -/
theorem readAttentionEmptiesBothSets : Obligations.ReadAttentionEmptiesBothSets :=
  fun _ begun => State.answer_respond begun _

/-! ### Refused frames and the response read (R173 to R175) -/

/-- A frame that steps 1 to 3 of R174 refuse is answered with the status of the step that failed. -/
theorem State.exec_badFrame (begun : s.frameBegun) {partByte : Bool} {first : Byte} {bytes : List Byte} (hf : first ≠ 0)
    {e : Status} (he : refusalOf (judgeFrame partByte (first :: bytes)) = some e) :
    exec (.badFrame partByte (first :: bytes)) s = s.refusedWith e := by
  have refused : refusedFrame partByte (first :: bytes) = true := by
    unfold refusedFrame
    cases verdict : judgeFrame partByte (first :: bytes) with
    | request i => rw [verdict] at he; cases he
    | badFrame | unknownRequest | badShape => exact Bool.and_eq_true_iff.2 ⟨decide_eq_true hf, rfl⟩
  have taken : exec (.badFrame partByte (first :: bytes)) s = .next (s.answer fun _ => .error e) := by
    change execBadFrame _ _ _ = _
    unfold execBadFrame
    rw [if_pos refused, he]
  exact taken.trans (State.answer_respond begun _)

/-- A read select period in READY shifts the held response out and marks it read at its end (R175). -/
theorem State.exec_responseRead_ready {clocked : Nat} {r : Response} (hc : 1 ≤ clocked) (ready : s.port.state = .ready)
    (held : s.port.held = some r) :
    exec (.responseRead clocked) s =
      .next { s with port :=
        { s.port with sdout := (r.frame ++ List.replicate clocked 0xFF).take clocked,
                      read := s.port.read || decide (r.frame.length ≤ clocked) } } := by
  change execResponseRead _ _ = _
  unfold execResponseRead Port.shiftOut Port.readsAll
  rw [if_neg (by omega), ready, held]

/-- A read select period in another port state shifts out FFh alone (R173). -/
theorem State.exec_responseRead_other {clocked : Nat} (hc : 1 ≤ clocked) (other : s.port.state ≠ .ready) :
    exec (.responseRead clocked) s =
      .next { s with port := { s.port with sdout := List.replicate clocked 0xFF } } := by
  change execResponseRead _ _ = _
  unfold execResponseRead Port.shiftOut Port.readsAll
  rw [if_neg (by omega)]
  cases state : s.port.state with
  | ready => exact absurd state other
  | idle | receiving | acting => simp

/-- Settles O5. -/
theorem badFrameIsAnsweredAndResponseRead : Obligations.BadFrameIsAnsweredAndResponseRead := by
  refine ⟨fun partByte first bytes s begun hf => ⟨fun malformed => ?_, fun sound code => ?_, fun sound code shape => ?_⟩,
    fun clocked s hc => ⟨fun r ready held => State.exec_responseRead_ready hc ready held,
      fun other => State.exec_responseRead_other hc other⟩⟩
  · exact State.exec_badFrame begun hf (by rw [judgeFrame_malformed malformed]; rfl)
  · exact State.exec_badFrame begun hf (by rw [judgeFrame_unassigned sound code]; rfl)
  · exact State.exec_badFrame begun hf (by rw [judgeFrame_assigned sound hf code, shape]; rfl)

end Sys2Proof.Machine
end

section
/-! PROOFS. The payloads of the readings (R186 to R190): numbers, masks and fields, then every payload as the fields it is made of,
with its length. -/

namespace Sys2Proof.Machine

/-! ### Numbers and masks (R186, R187) -/

/-- A number goes high byte first. -/
theorem getElem?_beBytes {k i : Nat} (h : i < k) (n : Nat) :
    (beBytes k n)[i]? = some (BitVec.ofNat 8 (n / 256 ^ (k - 1 - i))) := by
  induction k generalizing n with
  | zero => omega
  | succ k ih =>
    rw [beBytes]
    obtain before | rfl : i < k ∨ i = k := by omega
    · have power : 256 * 256 ^ (k - 1 - i) = 256 ^ (k + 1 - 1 - i) := by
        rw [← pow_succ', show k + 1 - 1 - i = k - 1 - i + 1 by omega]
      rw [List.getElem?_append_left (by rwa [length_beBytes]), ih before, Nat.div_div_eq_div_mul, power]
    · rw [List.getElem?_append_right (by rw [length_beBytes]), length_beBytes]
      simp

/-- Bit i of a mask is its i-th flag. -/
theorem testBit_flagMask (flags : List Bool) (i : Nat) : (flagMask flags).testBit i = flags.getD i false := by
  induction flags generalizing i with
  | nil => exact Nat.zero_testBit i
  | cons b flags ih =>
    have mask : flagMask (b :: flags) = Nat.bit b (flagMask flags) := by rw [flagMask, Nat.bit_val, Nat.add_comm]
    rw [mask]
    cases i with
    | zero => exact Nat.testBit_bit_zero ..
    | succ i => rw [Nat.testBit_bit_succ, ih, List.getD_cons_succ]

theorem PosSet.mask_eq_flagMask (x : PosSet) : x.mask = flagMask [x.a, x.b, x.c, x.d] := by
  simp only [PosSet.mask, flagMask]
  omega

/-! ### Fields (R187)

Each layout below holds since both sides come down to the same numbers and absent fields, one after the other: the model's bytes
by their definition, and the fields by these equations. -/

theorem flagByte_eq (b : Bool) : flagByte b = beBytes 1 b.toNat := rfl

theorem optFlag_eq (b : Option Bool) : optFlag b = optBytes 1 (b.map Bool.toNat) := rfl

@[simp] theorem optBytes_some (k v : Nat) : optBytes k (some v) = beBytes k v := rfl

@[simp] theorem optBytes_none (k : Nat) : optBytes k none = List.replicate k 0xFF := rfl

@[simp] theorem fields_nil : fields [] = [] := rfl

@[simp] theorem fields_cons (k : Nat) (v : Option Nat) (xs : List (Nat × Option Nat)) :
    fields ((k, v) :: xs) = optBytes k v ++ fields xs := by
  cases v <;> rfl

@[simp] theorem fields_append (xs ys : List (Nat × Option Nat)) : fields (xs ++ ys) = fields xs ++ fields ys :=
  List.flatMap_append

/-- Fields of one width, none of them absent. -/
@[simp] theorem fields_map_some {α : Type} (k : Nat) (f : α → Nat) (xs : List α) :
    fields (xs.map fun x => (k, some (f x))) = xs.flatMap fun x => beBytes k (f x) :=
  List.flatMap_map ..

@[simp] theorem length_optBytes (k : Nat) (v : Option Nat) : (optBytes k v).length = k := by
  cases v with
  | none => exact List.length_replicate
  | some v => exact length_beBytes k v

@[simp] theorem length_optFlag (b : Option Bool) : (optFlag b).length = 1 := length_optBytes ..

@[simp] theorem length_flagByte (b : Bool) : (flagByte b).length = 1 := length_beBytes ..

/-- Entries of one length, one after the other. -/
theorem length_flatMap_of {α : Type} {k : Nat} {f : α → List Byte} (h : ∀ x, (f x).length = k) (xs : List α) :
    (xs.flatMap f).length = k * xs.length := by
  rw [List.length_flatMap, List.map_congr_left fun x _ => h x, List.map_const', List.sum_replicate, smul_eq_mul, Nat.mul_comm]

theorem PerPos.toList_eq {α : Type} (m : PerPos α) : m.toList = Pos.all.map m.get := rfl

theorem PerLane.toList_eq {α : Type} (m : PerLane α) : m.toList = Lane.all.map m.get := rfl

theorem PerCode.toList_eq {α : Type} (m : PerCode α) : m.toList = Code.all.map m.get := rfl

theorem Response.frame_eq (r : Response) :
    r.frame = withCrc (fields [(1, some r.status.code), (2, some r.payload.length)] ++ r.payload) := by
  simp [Response.frame]

/-! ### Tickets and attention (R188) -/

/-- The fields that a LOOKUP payload has for a ticket of every kind. -/
def Ticket.commonFields (t : Ticket) : List (Nat × Option Nat) :=
  [(2, some t.number), (1, some t.kindCode), (1, some t.lane.number), (1, some t.stateCode),
    (1, t.opener.map Teller.number), (1, some (flagMask [t.mark.a, t.mark.b])), (3, t.amount)]

theorem State.lookupBytes_of_body (s : State) {t : Ticket} {b : TicketBody} (h : t.body = b) :
    s.lookupBytes t = fields t.commonFields ++ s.bodyBytes t.number b := by
  simp [State.lookupBytes, Ticket.commonFields, h]

theorem State.length_lookupBytes_of_body (s : State) {t : Ticket} {b : TicketBody} (h : t.body = b) :
    (s.lookupBytes t).length = 10 + (s.bodyBytes t.number b).length := by
  simp only [State.lookupBytes, h, List.length_append, length_beBytes, length_optBytes]

/-- The bytes of a deadline: its kind, 0 with none, and its seconds. -/
theorem deadlineBytes_eq (x : Option Deadline) :
    deadlineBytes x =
      fields [(1, some (x.elim 0 fun y => if y.kind = .approval then 1 else 2)), (2, x.map Deadline.seconds)] := by
  cases x with
  | none => rfl
  | some x =>
    obtain ⟨kind, seconds⟩ := x
    cases kind <;> rfl

theorem Segment.bytes_eq (g : Segment) :
    g.bytes = fields [(1, some g.position.number), (1, some g.notes), (1, some g.picked), (2, some g.value)] := by
  simp [Segment.bytes]

@[simp] theorem Segment.length_bytes (g : Segment) : g.bytes.length = 5 := by simp [Segment.bytes]

theorem State.bodyBytes_dispense (s : State) (n : Nat) (d : Dispense) :
    s.bodyBytes n (.dispense d) =
      fields [(1, some d.dualRequired.toNat), (1, some d.first.number), (1, d.second.map Teller.number),
        (1, if n ∈ s.pickQueue then some (s.pickQueue.idxOf n + 1) else none), (1, some d.goodPicked),
        (2, some d.rejectPicks), (1, some d.presented), (1, some d.delivered), (1, some d.retracted),
        (1, some d.unresolved), (1, d.halt.map HaltReason.code), (1, some (flagMask [d.laneLost, d.recalled])),
        (1, some (d.deadline.elim 0 fun x => if x.kind = .approval then 1 else 2)),
        (2, d.deadline.map Deadline.seconds), (1, some d.plan.length)]
      ++ d.plan.flatMap fun g =>
          fields [(1, some g.position.number), (1, some g.notes), (1, some g.picked), (2, some g.value)] := by
  simp [State.bodyBytes, State.queuePlace, flagByte_eq, deadlineBytes_eq, funext Segment.bytes_eq]

theorem State.length_bodyBytes_dispense (s : State) (n : Nat) (d : Dispense) :
    (s.bodyBytes n (.dispense d)).length = 17 + 5 * d.plan.length := by
  have deadline : (deadlineBytes d.deadline).length = 3 := by simp [deadlineBytes_eq]
  simp only [State.bodyBytes, List.length_append, length_beBytes, length_optBytes, length_flagByte, deadline,
    length_flatMap_of Segment.length_bytes]

theorem State.bodyBytes_envelope (s : State) (n : Nat) (e : Envelope) :
    s.bodyBytes n (.envelope e) = fields [(1, e.sequence)] := by
  simp [State.bodyBytes]

theorem State.length_bodyBytes_envelope (s : State) (n : Nat) (e : Envelope) :
    (s.bodyBytes n (.envelope e)).length = 1 := length_optBytes ..

theorem State.bodyBytes_intake (s : State) (n : Nat) (k : Intake) :
    s.bodyBytes n (.intake k) =
      fields [(2, some k.recycled), (2, some k.vaulted), (2, some k.returned),
        (1, some (Code.all.filter fun c => decide (0 < k.accepted.get c)).length)]
      ++ (Code.all.filter fun c => decide (0 < k.accepted.get c)).flatMap fun c =>
          fields [(1, some c.number), (2, some (k.accepted.get c))] := by
  simp [State.bodyBytes]

theorem State.length_bodyBytes_intake (s : State) (n : Nat) (k : Intake) :
    (s.bodyBytes n (.intake k)).length = 7 + 3 * (Code.all.filter fun c => decide (0 < k.accepted.get c)).length := by
  have entry (c : Code) : (beBytes 1 c.number ++ beBytes 2 (k.accepted.get c)).length = 3 := by simp
  simp only [State.bodyBytes, List.length_append, length_beBytes, length_flatMap_of entry]

theorem State.listBytes_eq (s : State) (start : Nat) :
    let found := s.tickets.filter fun t => decide (start ≤ t.number)
    s.listBytes start = fields [(1, some (decide (16 < found.length)).toNat), (1, some (found.take 16).length)]
      ++ (found.take 16).flatMap fun t => fields [(2, some t.number), (1, some t.kindCode), (1, some t.stateCode)] := by
  simp [State.listBytes, flagByte_eq]

theorem State.length_listBytes (s : State) (start : Nat) :
    (s.listBytes start).length = 2 + 4 * min 16 (s.tickets.filter fun t => decide (start ≤ t.number)).length := by
  have entry (t : Ticket) : (beBytes 2 t.number ++ beBytes 1 t.kindCode ++ beBytes 1 t.stateCode).length = 4 := by simp
  simp only [State.listBytes, List.length_append, length_beBytes, length_flagByte, length_flatMap_of entry, List.length_take]

theorem State.attentionBytes_eq (s : State) :
    s.attentionBytes = fields [(1, some s.reasons.mask), (1, some s.changeSet.length)]
      ++ s.changeSet.flatMap fun n => fields [(2, some n)] := by
  simp [State.attentionBytes]

theorem State.length_attentionBytes (s : State) : s.attentionBytes.length = 2 + 2 * s.changeSet.length := by
  simp only [State.attentionBytes, List.length_append, length_beBytes, length_flatMap_beBytes]

/-! ### Slots and positions (R189) -/

theorem Slot.counted_eq (x : Slot) (k v : Nat) : x.counted k v = fields [(k, if x.state.live then some v else none)] := by
  simp [Slot.counted]

@[simp] theorem Slot.length_counted (x : Slot) (k v : Nat) : (x.counted k v).length = k := length_optBytes ..

theorem Slot.block_eq (x : Slot) :
    let known := fun (v : Nat) => if x.state.live then some v else none
    let ofTag := fun (f : Identity → Nat) => x.identity.map f
    x.block = fields [(1, some x.state.code), (1, x.refused.map RefusedReason.code)]
      ++ (x.identity.map Identity.serial).getD (List.replicate 8 0xFF)
      ++ fields [(1, ofTag Identity.code), (2, ofTag Identity.noteValue), (2, ofTag Identity.capacity),
          (1, ofTag Identity.thickness), (1, ofTag Identity.length), (1, ofTag fun k => k.recycle.toNat),
          (2, known x.base), (2, known x.count), (2, known x.pickedOut), (2, known x.storedIn),
          (2, known x.totalPickedOut), (2, known x.totalStoredIn), (1, known x.overrun), (2, some x.committed),
          (1, some x.window.length), (1, some (flagMask x.window)), (1, some x.missRun), (1, some x.depleted.code),
          (1, some (flagMask [x.low, x.uncertain, x.reviewed, x.unverified, x.tagStale, x.markOwed])),
          (1, x.prior.map PosState.code), (1, x.release.map fun a => a.teller.number),
          (1, x.release.map Approval.seconds)] := by
  unfold Slot.block
  cases x.identity <;> simp [Slot.counted_eq, optFlag_eq]

/-- A slot block is 41 bytes when the serial number held for it is 8. -/
theorem Slot.length_block {x : Slot} (h : ∀ k, x.identity = some k → k.serial.length = 8) : x.block.length = 41 := by
  unfold Slot.block
  cases held : x.identity with
  | none => simp
  | some k => simp [h k held]

/-- A retiring part: the copy with its removal, or all ones after a clear flag. -/
def retiringPart : Option Retiring → List Byte
  | some r => fields [(1, some 1)] ++ r.slot.block ++ fields [(1, some r.kind.code), (2, some r.number)]
  | none => fields [(1, some 0), (44, none)]

theorem retiringBytes_eq (x : Option Retiring) : retiringBytes x = retiringPart x := by
  cases x <;> simp [retiringBytes, retiringPart, flagByte_eq]

theorem length_retiringBytes {x : Option Retiring} (h : ∀ r, x = some r → r.slot.block.length = 41) :
    (retiringBytes x).length = 45 := by
  cases x with
  | none => rfl
  | some r => simp [retiringBytes, h r rfl]

theorem Carry.bytes_eq (c : Carry) :
    c.bytes = fields [(1, some c.copies.total), (3, some c.notes.total), (4, some c.value.total)] := by
  simp [Carry.bytes]

@[simp] theorem Carry.length_bytes (c : Carry) : c.bytes.length = 8 := by simp [Carry.bytes]

theorem State.positionBytes_eq (s : State) (p : Pos) :
    let x := s.slot p
    s.positionBytes p = x.block
      ++ fields [(2, some (if x.state = .inService then x.count - x.committed else 0))]
      ++ (x.identity.map Identity.image).getD (List.replicate 64 0xFF) ++ retiringBytes (s.retiring.get p)
      ++ (s.carries.get p).bytes := by
  cases tag : (s.slot p).identity <;> simp [State.positionBytes, tag, Slot.available]

theorem State.length_positionBytes {s : State} {p : Pos}
    (tag : ∀ k, (s.slot p).identity = some k → k.serial.length = 8 ∧ k.image.length = 64)
    (copy : ∀ r, s.retiring.get p = some r → r.slot.block.length = 41) : (s.positionBytes p).length = 160 := by
  unfold State.positionBytes
  have block := Slot.length_block fun k held => (tag k held).1
  cases held : (s.slot p).identity with
  | none => simp [block, length_retiringBytes copy, held]
  | some k => simp [block, length_retiringBytes copy, held, (tag k held).2]

/-! ### Vaults and the balance (R189) -/

theorem RejectVault.bytes_eq (v : RejectVault) :
    v.bytes = fields [(2, some v.pickRejects), (2, some v.retracted), (2, some v.sweep), (2, some v.count),
      (2, some v.sincePick.total), (2, some v.sinceRetracted.total), (2, some v.sinceSweep.total),
      (2, some v.emptied.total), (1, some v.present.toNat), (1, some v.unverified.toNat)] := by
  simp [RejectVault.bytes, flagByte_eq]

@[simp] theorem RejectVault.length_bytes (v : RejectVault) : v.bytes.length = 18 := by simp [RejectVault.bytes]

theorem IntakeVault.bytes_eq (v : IntakeVault) :
    v.bytes = fields (Code.all.map (fun c => (2, some (v.entries.get c))) ++ [(2, some v.total)]
      ++ Code.all.map (fun c => (2, some (v.since.get c).total))
      ++ [(2, some v.emptied.total), (1, some v.present.toNat), (1, some v.unverified.toNat)]) := by
  simp [IntakeVault.bytes, PerCode.toList_eq, List.flatMap_map, flagByte_eq]

@[simp] theorem IntakeVault.length_bytes (v : IntakeVault) : v.bytes.length = 38 := by
  simp [IntakeVault.bytes, PerCode.toList]

theorem State.balanceBytes_eq (s : State) :
    s.balanceBytes = fields [(1, some s.countPoint.state.code), (1, some s.countPoint.causes.mask),
      (1, some s.countPoint.pending.toNat), (1, some s.countPoint.pendingCauses.mask), (1, s.countPoint.timer)]
      ++ s.balance.elim [] Balance.bytes := by
  cases record : s.balance <;> simp [State.balanceBytes, record, flagByte_eq]

/-- The pair of a lane's bin, absent above the lane count. -/
theorem Balance.binBytes_eq (b : Balance) (l : Lane) :
    b.binBytes l =
      if l.number ≤ b.laneCount then fields [(1, some (b.binCounts.get l)), (1, some (b.binVerified.get l).toNat)]
      else fields [(1, none), (1, none)] := rfl

theorem Balance.length_binBytes (b : Balance) (l : Lane) : (b.binBytes l).length = 2 := by
  unfold Balance.binBytes
  split <;> simp

theorem Balance.bytes_eq (b : Balance) :
    b.bytes = fields [(2, some b.number), (1, some b.causes.mask), (1, some b.result.code),
        (1, some (flagMask [b.failures.a, b.failures.b, b.failures.c, b.failures.d])),
        (1, some (flagMask [b.notAtRest.picker, b.notAtRest.route, b.notAtRest.purge, b.notAtRest.intake]))]
      ++ Pos.all.flatMap (fun p => (b.slots.get p).block) ++ Pos.all.flatMap (fun p => retiringBytes (b.retiring.get p))
      ++ Pos.all.flatMap (fun p => (b.carries.get p).bytes) ++ b.reject.bytes ++ b.intake.bytes
      ++ fields [(1, some b.laneCount)] ++ Lane.all.flatMap b.binBytes
      ++ fields [(1, some b.openTickets), (2, some b.heldNotes), (3, some b.heldValue), (2, some b.unresolved),
          (2, some b.writtenOff), (2, some b.storedAfter)] := by
  unfold Balance.bytes
  simp [PosSet.mask_eq_flagMask, PerPos.toList_eq, List.flatMap_map]

/-- With the 5 bytes of the count point before it, a balance record makes 472 bytes. -/
theorem Balance.length_bytes {b : Balance} (slots : ∀ p, (b.slots.get p).block.length = 41)
    (copies : ∀ p r, b.retiring.get p = some r → r.slot.block.length = 41) : b.bytes.length + 5 = 472 := by
  have retiring (p : Pos) : (retiringBytes (b.retiring.get p)).length = 45 := length_retiringBytes (copies p)
  unfold Balance.bytes
  simp only [PerPos.toList_eq, List.flatMap_map, List.length_append, length_beBytes, length_flatMap_of slots,
    length_flatMap_of retiring, length_flatMap_of fun p => (b.carries.get p).length_bytes, RejectVault.length_bytes,
    IntakeVault.length_bytes, length_flatMap_of b.length_binBytes]
  rfl

/-! ### Lanes, alarms and configuration (R190) -/

theorem State.laneBytes_eq (s : State) (l : Lane) :
    let r := s.lane l
    let h := s.handlings.get l
    let entries := s.disputes.filter fun d => decide (d.lane = l)
    s.laneBytes l = fields [(1, some r.link.code), (1, some r.badRun), (1, some r.faultRun), (1, some r.joinRun.code),
        (1, r.lastEvent), (1, some r.desiredDrawer.code), (1, some r.desiredSlot.code), (1, some r.desiredLamp.code),
        (1, some r.effDrawer.code), (1, some r.effSlot.code), (1, r.repDrawer.map DrawerReport.code),
        (1, r.repNotes.map Bool.toNat), (1, r.repFault.map Bool.toNat), (1, r.repSlot.map SlotValue.code),
        (1, r.repLamp.map Lamp.code), (1, r.callButton.map Bool.toNat), (1, r.tamper.map Bool.toNat),
        (1, r.stampEcho), (2, some (holderCode r.holder)), (2, r.lostTimer), (1, some r.lost.code),
        (2, some r.receiveErrors), (2, some r.silentSlots), (2, some r.lineFaults), (1, some r.binCount),
        (1, some r.binVerified.toNat), (1, some h.state.code), (2, h.ticket), (1, h.jam.map JamCause.code),
        (1, h.lastRefusal.map RefusalCause.code), (1, some h.refusals), (1, some entries.length)]
      ++ entries.flatMap fun d => fields [(2, some d.ticket), (2, d.sweptBack)] := by
  unfold State.laneBytes
  simp [flagByte_eq, optFlag_eq]

theorem State.length_laneBytes (s : State) (l : Lane) :
    (s.laneBytes l).length = 38 + 4 * (s.disputes.filter fun d => decide (d.lane = l)).length := by
  have entry (d : Dispute) : (beBytes 2 d.ticket ++ optBytes 2 d.sweptBack).length = 4 := by simp
  unfold State.laneBytes
  simp only [List.length_append, length_beBytes, length_optBytes, length_flagByte, length_optFlag, length_flatMap_of entry]

theorem AlarmRecord.bytes_eq (r : AlarmRecord) :
    r.bytes = fields [(1, some r.source.number), (1, some r.state.code),
      (1, some (flagMask [r.classes.notice, r.classes.hold, r.classes.lockdown, r.classes.duress])),
      (1, some r.classes.highest.rank), (1, some r.current.rank), (1, some r.timesRaised), (1, r.pattern)] := by
  simp [AlarmRecord.bytes, ClassSet.mask, AlarmRecord.highest]

@[simp] theorem AlarmRecord.length_bytes (r : AlarmRecord) : r.bytes.length = 7 := by simp [AlarmRecord.bytes]

theorem State.alarmBytes_eq (s : State) (start : Nat) :
    let found := s.alarms.records.filter fun r => decide (start ≤ r.source.number)
    s.alarmBytes start = fields [(1, some (flagMask [s.alarms.hold, s.alarms.lockdown, s.alarms.duress])),
        (1, some (flagMask [s.alarms.duress, s.alarms.lockdown])), (1, some s.alarms.pattern.toNat),
        (1, some (s.localClass s.alarms.pattern).rank), (1, some (decide (8 < found.length)).toNat),
        (1, some (found.take 8).length)]
      ++ (found.take 8).flatMap AlarmRecord.bytes := by
  unfold State.alarmBytes AlarmRecord.key
  simp [State.duressHigh, State.relayEnergised, flagByte_eq]

theorem State.length_alarmBytes (s : State) (start : Nat) :
    (s.alarmBytes start).length =
      6 + 7 * min 8 (s.alarms.records.filter fun r => decide (start ≤ r.source.number)).length := by
  simp only [State.alarmBytes, List.length_append, length_beBytes, length_flagByte, length_flatMap_of AlarmRecord.length_bytes,
    List.length_take, AlarmRecord.key]
  rfl

/-- The bytes of what a held approval is for: its kind and its target. -/
def HeldTarget.bytes : HeldTarget → List Byte
  | .vault v => fields [(1, some 1), (2, some v.number)]
  | .bin l => fields [(1, some 2), (2, some l.number)]
  | .resolve n => fields [(1, some 3), (2, some n)]

theorem HeldApproval.bytes_eq (a : HeldApproval) :
    a.bytes = a.target.bytes ++ fields [(1, some a.teller.number), (1, some a.seconds), (1, a.delivered)] := by
  obtain ⟨target, teller, delivered, seconds⟩ := a
  cases target <;> simp [HeldApproval.bytes, HeldTarget.bytes]

@[simp] theorem HeldApproval.length_bytes (a : HeldApproval) : a.bytes.length = 6 := by
  obtain ⟨target, teller, delivered, seconds⟩ := a
  cases target <;> simp [HeldApproval.bytes]

theorem State.configBytes_eq (s : State) :
    let q := s.params
    let c := q.sourceClasses
    s.configBytes = fields [(1, some q.laneCount), (3, some q.dualLimit), (2, some q.approvalWindow),
        (1, some q.takeTimeout), (2, some q.lostLaneLimit), (1, some q.quiesceTimeout), (1, some q.periodicCount),
        (1, some q.busyLevel), (1, some q.maxRejects), (1, some q.suspendThreshold), (1, some q.recycling.toNat),
        (1, some q.autoEnvelope.toNat)]
      ++ fields (Pos.all.map fun p => (2, some (q.lowLevels.get p)))
      ++ fields (Code.all.map fun k => (2, some ((q.denominations.get k).getD 0)))
      ++ fields (q.classTable.map fun k => (1, some k.rank))
      ++ fields (Lane.all.map (fun l => (1, some (c.laneTamper.get l).rank))
          ++ Lane.all.map (fun l => (1, some (c.lineFault.get l).rank))
          ++ Pos.all.map (fun p => (1, some (c.cassetteTamper.get p).rank))
          ++ [(1, some c.rejectFull.rank), (1, some c.intakeFull.rank)])
      ++ fields [(1, some s.wall.service.toNat), (1, some s.wall.starting.toNat), (1, some s.wall.laneCountSet.toNat),
          (1, some s.approvals.length)]
      ++ s.approvals.flatMap HeldApproval.bytes := by
  unfold State.configBytes
  simp [PerPos.toList_eq, PerCode.toList_eq, PerLane.toList_eq, List.flatMap_map, flagByte_eq]

/-- CONFIG READ returns 130 bytes and 6 for each held approval. -/
theorem State.length_configBytes {s : State} (h : s.params.classTable.length = 64) :
    s.configBytes.length = 130 + 6 * s.approvals.length := by
  have rank (k : AlarmClass) : (beBytes 1 k.rank).length = 1 := length_beBytes ..
  have note (v : Option Nat) : (beBytes 2 (v.getD 0)).length = 2 := length_beBytes ..
  unfold State.configBytes
  simp only [List.length_append, length_beBytes, length_flagByte, length_flatMap_beBytes, length_flatMap_of rank,
    length_flatMap_of note, length_flatMap_of HeldApproval.length_bytes, h]
  rfl

/-! ### The layouts together -/

/-- Settles O6: a clause is a layout above, with its length. -/
theorem payloadsAreLaidOut : Obligations.PayloadsAreLaidOut := by
  refine ⟨⟨fun k n => ⟨length_beBytes k n, fun i h => getElem?_beBytes h n⟩, testBit_flagMask, Response.frame_eq⟩,
    ⟨rfl, rfl, rfl, rfl, rfl, rfl, rfl, rfl, rfl, rfl, rfl, rfl, rfl, rfl, rfl, rfl, rfl, rfl, rfl, rfl, rfl, rfl, rfl,
      fun n => ⟨rfl, rfl, rfl⟩⟩,
    ⟨fun s t => ⟨fun d body => ⟨?_, ?_⟩, fun e body => ⟨?_, ?_⟩, fun k body => ⟨?_, ?_⟩⟩,
      fun s start => ⟨s.listBytes_eq start, s.length_listBytes start⟩,
      fun s => ⟨s.attentionBytes_eq, s.length_attentionBytes⟩⟩,
    ⟨fun x => ⟨x.block_eq, Slot.length_block⟩, fun s p => ⟨?_, State.length_positionBytes⟩,
      fun v => ⟨v.bytes_eq, v.length_bytes⟩, fun v => ⟨v.bytes_eq, v.length_bytes⟩⟩,
    ⟨State.balanceBytes_eq, fun b => ⟨?_, Balance.length_bytes⟩⟩,
    ⟨fun s l => ⟨s.laneBytes_eq l, s.length_laneBytes l⟩, fun s start => ⟨?_, s.length_alarmBytes start⟩⟩,
    fun s => ⟨?_, State.length_configBytes⟩⟩
  · rw [s.lookupBytes_of_body body, s.bodyBytes_dispense, ← List.append_assoc]
    rfl
  · rw [s.length_lookupBytes_of_body body, s.length_bodyBytes_dispense]
    omega
  · rw [s.lookupBytes_of_body body, s.bodyBytes_envelope]
    rfl
  · rw [s.length_lookupBytes_of_body body, s.length_bodyBytes_envelope]
  · rw [s.lookupBytes_of_body body, s.bodyBytes_intake, ← List.append_assoc]
    rfl
  · rw [s.length_lookupBytes_of_body body, s.length_bodyBytes_intake]
    omega
  · rw [s.positionBytes_eq, retiringBytes_eq, Carry.bytes_eq]
    rfl
  · simp only [b.bytes_eq, retiringBytes_eq, Carry.bytes_eq, funext b.binBytes_eq]
    rfl
  · rw [s.alarmBytes_eq, funext AlarmRecord.bytes_eq]
  · rw [s.configBytes_eq, funext HeldApproval.bytes_eq]
    rfl

end Sys2Proof.Machine
end

section
/-! PROOFS. The command a step takes (log entry 1), and the invariants of the machine right after reset (section 8.7). -/

namespace Sys2Proof.Machine

/-! ### The front of the queue -/

theorem step_of_pending {s : State} {c : Instr} {rest : List Instr} (h : s.pending = c :: rest) :
    step s = exec c { s with pending := rest } := by
  unfold step
  rw [h]

/-- Settles O1. -/
theorem stepTakesTheFrontCommand : Obligations.StepTakesTheFrontCommand := fun _ _ _ h => step_of_pending h

/-! ### Right after reset -/

/-- Reset writes in every lane the values that its rows form before service, and in every slot a committed figure of 0, as no
ticket commits a note. -/
theorem State.formed_reset : State.reset.formed = true := by
  refine State.formed_iff.2 ⟨fun l => ?_, fun p => ?_⟩
  · cases l <;> rfl
  · cases p <;> rfl

theorem State.tablesOrdered_reset : State.reset.tablesOrdered := by
  unfold State.tablesOrdered
  decide

/-- The pick queue is empty and no ticket is queued. -/
theorem State.queueRight_reset : State.reset.queueRight :=
  State.queueRight_iff.2 ⟨List.nodup_nil, fun n => by simp [State.reset, State.queuedAt, State.ticket, findByKey]⟩

theorem State.lanesHeldOnce_reset : State.reset.lanesHeldOnce := fun _ => Nat.zero_le _

theorem State.retractsOnce_reset : State.reset.retractsOnce := ⟨List.nodup_nil, fun _ h => nomatch h⟩

/-- An empty position counts nothing. -/
theorem Slot.counts_empty : Slot.empty.counts := rfl

/-- Every position is empty, and no copy is retiring. -/
theorem State.slotsCount_reset : State.reset.slotsCount := by
  refine ⟨fun p => ?_, fun p r h => ?_⟩
  · have empty : State.reset.slot p = .empty := PerPos_get_const _ p
    exact empty ▸ Slot.counts_empty
  · have none : State.reset.retiring.get p = none := PerPos_get_const _ p
    exact absurd (none.symm.trans h) nofun

theorem RejectVault.inRange_reset : RejectVault.reset.inRange := by
  unfold RejectVault.inRange Since.upTo
  decide

/-- No record stands, and neither HOLD nor DURESS is set. -/
theorem State.modesFormed_reset : State.reset.modesFormed := ⟨rfl, rfl⟩

/-- Settles O60. -/
theorem resetMeetsTheInvariants : Obligations.ResetMeetsTheInvariants :=
  ⟨State.formed_reset, State.tablesOrdered_reset, State.queueRight_reset, State.lanesHeldOnce_reset,
    State.retractsOnce_reset, State.slotsCount_reset, RejectVault.inRange_reset, State.modesFormed_reset⟩

end Sys2Proof.Machine
end
